-- ==== Sys2Proof/Syntax.lean ====
section
/-! DEFINITION. The instruction set: one constructor for each row of spec/opcode_table.json, in its order. The first 205 are the instruction words (fields as the formats of R52 give them, without the chain bit of R39); the other 92 are the steps of the other agents of the device, which have no encoding (spec/95_what_each_step_holds.md); their arguments say which item moves and carry what an outside party chooses. `u` is a unit (4 times core plus slot), `g` a gang number (32 names the lead), `e` a split-table entry (4 is the trap entry), `c` a core (48 times layer plus coreid), `y` a layer. -/

namespace Sys2Proof

/-- The operations of the Damren D9. -/
inductive Instr where
  /-- NOP (R44). -/
  | nop
  /-- EXIT (R143). -/
  | exit
  /-- GBAR (R146). -/
  | gbar
  /-- UBAR (R147). -/
  | ubar
  /-- WAIT (R203). -/
  | wait (vm : BitVec 6) (sp : BitVec 6)
  /-- TRAP (R232). -/
  | trap (code : BitVec 16)
  /-- BKPT (R232). -/
  | bkpt (tag : BitVec 16)
  /-- RETT (R233). -/
  | rett
  /-- CANCEL.GRAPH (R234). -/
  | cancelGraph (h : BitVec 5)
  /-- CANCEL.PHASE (R234). -/
  | cancelPhase (h : BitVec 5)
  /-- CANCEL.JOB (R234). -/
  | cancelJob (h : BitVec 5)
  /-- CTXSV (R235). -/
  | ctxsv (h : BitVec 5)
  /-- BR (R135). -/
  | br (disp : BitVec 16)
  /-- BR.Z (R135). -/
  | brZ (c : BitVec 6) (disp : BitVec 16)
  /-- BR.NZ (R135). -/
  | brNz (c : BitVec 6) (disp : BitVec 16)
  /-- BRD (R137). -/
  | brd (m : BitVec 4) (disp : BitVec 16)
  /-- BRD.N (R137). -/
  | brdN (m : BitVec 4) (disp : BitVec 16)
  /-- CALL (R135). -/
  | call (link : BitVec 6) (disp : BitVec 16)
  /-- RET (R135). -/
  | ret (link : BitVec 6)
  /-- SPAWN (R141). -/
  | spawn (c : BitVec 6) (disp : BitVec 16)
  /-- ADD (R129). -/
  | add (d : BitVec 6) (a : BitVec 6) (b : BitVec 6)
  /-- SUB (R129). -/
  | sub (d : BitVec 6) (a : BitVec 6) (b : BitVec 6)
  /-- MUL (R129). -/
  | mul (d : BitVec 6) (a : BitVec 6) (b : BitVec 6)
  /-- MULHI.I64 (R129). -/
  | mulhiI64 (d : BitVec 6) (a : BitVec 6) (b : BitVec 6)
  /-- MULHI.N64 (R129). -/
  | mulhiN64 (d : BitVec 6) (a : BitVec 6) (b : BitVec 6)
  /-- AND (R129). -/
  | and (d : BitVec 6) (a : BitVec 6) (b : BitVec 6)
  /-- OR (R129). -/
  | or (d : BitVec 6) (a : BitVec 6) (b : BitVec 6)
  /-- XOR (R129). -/
  | xor (d : BitVec 6) (a : BitVec 6) (b : BitVec 6)
  /-- SHL (R129). -/
  | shl (d : BitVec 6) (a : BitVec 6) (b : BitVec 6)
  /-- SHR (R129). -/
  | shr (d : BitVec 6) (a : BitVec 6) (b : BitVec 6)
  /-- SAR (R129). -/
  | sar (d : BitVec 6) (a : BitVec 6) (b : BitVec 6)
  /-- MIN.I64 (R129). -/
  | minI64 (d : BitVec 6) (a : BitVec 6) (b : BitVec 6)
  /-- MIN.N64 (R129). -/
  | minN64 (d : BitVec 6) (a : BitVec 6) (b : BitVec 6)
  /-- MAX.I64 (R129). -/
  | maxI64 (d : BitVec 6) (a : BitVec 6) (b : BitVec 6)
  /-- MAX.N64 (R129). -/
  | maxN64 (d : BitVec 6) (a : BitVec 6) (b : BitVec 6)
  /-- SEQ (R129). -/
  | seq (d : BitVec 6) (a : BitVec 6) (b : BitVec 6)
  /-- SLT.I64 (R129). -/
  | sltI64 (d : BitVec 6) (a : BitVec 6) (b : BitVec 6)
  /-- SLT.N64 (R129). -/
  | sltN64 (d : BitVec 6) (a : BitVec 6) (b : BitVec 6)
  /-- MOV (R129). -/
  | mov (d : BitVec 6) (a : BitVec 6)
  /-- POPC (R129). -/
  | popc (d : BitVec 6) (a : BitVec 6)
  /-- CLZ (R129). -/
  | clz (d : BitVec 6) (a : BitVec 6)
  /-- MTOS (R129). -/
  | mtos (d : BitVec 6) (a : BitVec 6)
  /-- STOM (R129). -/
  | stom (d : BitVec 6) (a : BitVec 6)
  /-- MAND (R129). -/
  | mand (d : BitVec 6) (a : BitVec 6) (b : BitVec 6)
  /-- MOR (R129). -/
  | mor (d : BitVec 6) (a : BitVec 6) (b : BitVec 6)
  /-- MXOR (R129). -/
  | mxor (d : BitVec 6) (a : BitVec 6) (b : BitVec 6)
  /-- MNOT (R129). -/
  | mnot (d : BitVec 6) (a : BitVec 6)
  /-- ADD (R130). -/
  | addi (d : BitVec 6) (a : BitVec 6) (imm : BitVec 10)
  /-- AND (R130). -/
  | andi (d : BitVec 6) (a : BitVec 6) (imm : BitVec 10)
  /-- OR (R130). -/
  | ori (d : BitVec 6) (a : BitVec 6) (imm : BitVec 10)
  /-- XOR (R130). -/
  | xori (d : BitVec 6) (a : BitVec 6) (imm : BitVec 10)
  /-- SHL (R130). -/
  | shli (d : BitVec 6) (a : BitVec 6) (n : BitVec 6)
  /-- SHR (R130). -/
  | shri (d : BitVec 6) (a : BitVec 6) (n : BitVec 6)
  /-- SAR (R130). -/
  | sari (d : BitVec 6) (a : BitVec 6) (n : BitVec 6)
  /-- SEQ (R130). -/
  | seqi (d : BitVec 6) (a : BitVec 6) (imm : BitVec 10)
  /-- SLT.I64 (R130). -/
  | sltiI64 (d : BitVec 6) (a : BitVec 6) (imm : BitVec 10)
  /-- SLT.N64 (R130). -/
  | sltiN64 (d : BitVec 6) (a : BitVec 6) (imm : BitVec 10)
  /-- LDI (R60). -/
  | ldi (d : BitVec 6) (k : BitVec 2) (imm : BitVec 16)
  /-- LDIH (R60). -/
  | ldih (d : BitVec 6) (k : BitVec 2) (imm : BitVec 16)
  /-- SRD (R151). -/
  | srd (d : BitVec 6) (num : BitVec 8)
  /-- SWR (R152). -/
  | swr (d : BitVec 6) (num : BitVec 8)
  /-- SLD.B64 (R131). -/
  | sldB64 (d : BitVec 6) (a : BitVec 6) (imm : BitVec 10)
  /-- SLD.N32 (R131). -/
  | sldN32 (d : BitVec 6) (a : BitVec 6) (imm : BitVec 10)
  /-- SLD.I32 (R131). -/
  | sldI32 (d : BitVec 6) (a : BitVec 6) (imm : BitVec 10)
  /-- SST.B64 (R131). -/
  | sstB64 (d : BitVec 6) (a : BitVec 6) (imm : BitVec 10)
  /-- SST.B32 (R131). -/
  | sstB32 (d : BitVec 6) (a : BitVec 6) (imm : BitVec 10)
  /-- DSLD (R236). -/
  | dsld (d : BitVec 6) (a : BitVec 6) (imm : BitVec 10)
  /-- DSST (R236). -/
  | dsst (d : BitVec 6) (a : BitVec 6) (imm : BitVec 10)
  /-- SLDS.B64 (R131). -/
  | sldsB64 (d : BitVec 6) (a : BitVec 6) (imm : BitVec 10)
  /-- SSTS.B64 (R131). -/
  | sstsB64 (d : BitVec 6) (a : BitVec 6) (imm : BitVec 10)
  /-- VADD.I32 (R157). -/
  | vaddI32 (d : BitVec 7) (a : BitVec 7) (b : BitVec 7)
  /-- VADD.N32 (R157). -/
  | vaddN32 (d : BitVec 7) (a : BitVec 7) (b : BitVec 7)
  /-- VSUB.I32 (R157). -/
  | vsubI32 (d : BitVec 7) (a : BitVec 7) (b : BitVec 7)
  /-- VSUB.N32 (R157). -/
  | vsubN32 (d : BitVec 7) (a : BitVec 7) (b : BitVec 7)
  /-- VMUL.I32 (R157). -/
  | vmulI32 (d : BitVec 7) (a : BitVec 7) (b : BitVec 7)
  /-- VMUL.N32 (R157). -/
  | vmulN32 (d : BitVec 7) (a : BitVec 7) (b : BitVec 7)
  /-- VMULHI.I32 (R157). -/
  | vmulhiI32 (d : BitVec 7) (a : BitVec 7) (b : BitVec 7)
  /-- VMULHI.N32 (R157). -/
  | vmulhiN32 (d : BitVec 7) (a : BitVec 7) (b : BitVec 7)
  /-- VADDS.I32 (R157). -/
  | vaddsI32 (d : BitVec 7) (a : BitVec 7) (b : BitVec 7)
  /-- VADDS.N32 (R157). -/
  | vaddsN32 (d : BitVec 7) (a : BitVec 7) (b : BitVec 7)
  /-- VSUBS.I32 (R157). -/
  | vsubsI32 (d : BitVec 7) (a : BitVec 7) (b : BitVec 7)
  /-- VSUBS.N32 (R157). -/
  | vsubsN32 (d : BitVec 7) (a : BitVec 7) (b : BitVec 7)
  /-- VMIN.I32 (R157). -/
  | vminI32 (d : BitVec 7) (a : BitVec 7) (b : BitVec 7)
  /-- VMIN.N32 (R157). -/
  | vminN32 (d : BitVec 7) (a : BitVec 7) (b : BitVec 7)
  /-- VMAX.I32 (R157). -/
  | vmaxI32 (d : BitVec 7) (a : BitVec 7) (b : BitVec 7)
  /-- VMAX.N32 (R157). -/
  | vmaxN32 (d : BitVec 7) (a : BitVec 7) (b : BitVec 7)
  /-- VAND.B32 (R157). -/
  | vandB32 (d : BitVec 7) (a : BitVec 7) (b : BitVec 7)
  /-- VOR.B32 (R157). -/
  | vorB32 (d : BitVec 7) (a : BitVec 7) (b : BitVec 7)
  /-- VXOR.B32 (R157). -/
  | vxorB32 (d : BitVec 7) (a : BitVec 7) (b : BitVec 7)
  /-- VNOT.B32 (R157). -/
  | vnotB32 (d : BitVec 7) (a : BitVec 7)
  /-- VSHL.B32 (R157). -/
  | vshlB32 (d : BitVec 7) (a : BitVec 7) (b : BitVec 7)
  /-- VSHR.N32 (R157). -/
  | vshrN32 (d : BitVec 7) (a : BitVec 7) (b : BitVec 7)
  /-- VSHR.I32 (R157). -/
  | vshrI32 (d : BitVec 7) (a : BitVec 7) (b : BitVec 7)
  /-- VPOPC.B32 (R157). -/
  | vpopcB32 (d : BitVec 7) (a : BitVec 7)
  /-- VCLZ.B32 (R157). -/
  | vclzB32 (d : BitVec 7) (a : BitVec 7)
  /-- VADD.F32 (R158). -/
  | vaddF32 (d : BitVec 7) (a : BitVec 7) (b : BitVec 7)
  /-- VSUB.F32 (R158). -/
  | vsubF32 (d : BitVec 7) (a : BitVec 7) (b : BitVec 7)
  /-- VMUL.F32 (R158). -/
  | vmulF32 (d : BitVec 7) (a : BitVec 7) (b : BitVec 7)
  /-- VMIN.F32 (R158). -/
  | vminF32 (d : BitVec 7) (a : BitVec 7) (b : BitVec 7)
  /-- VMAX.F32 (R158). -/
  | vmaxF32 (d : BitVec 7) (a : BitVec 7) (b : BitVec 7)
  /-- VFMA.F32 (R158). -/
  | vfmaF32 (d : BitVec 7) (a : BitVec 7) (b : BitVec 7)
  /-- VFMS.F32 (R158). -/
  | vfmsF32 (d : BitVec 7) (a : BitVec 7) (b : BitVec 7)
  /-- VFNMA.F32 (R158). -/
  | vfnmaF32 (d : BitVec 7) (a : BitVec 7) (b : BitVec 7)
  /-- VFNMS.F32 (R158). -/
  | vfnmsF32 (d : BitVec 7) (a : BitVec 7) (b : BitVec 7)
  /-- VABS.F32 (R158). -/
  | vabsF32 (d : BitVec 7) (a : BitVec 7)
  /-- VNEG.F32 (R158). -/
  | vnegF32 (d : BitVec 7) (a : BitVec 7)
  /-- VADD.F64 (R158). -/
  | vaddF64 (d : BitVec 7) (a : BitVec 7) (b : BitVec 7)
  /-- VSUB.F64 (R158). -/
  | vsubF64 (d : BitVec 7) (a : BitVec 7) (b : BitVec 7)
  /-- VMUL.F64 (R158). -/
  | vmulF64 (d : BitVec 7) (a : BitVec 7) (b : BitVec 7)
  /-- VMIN.F64 (R158). -/
  | vminF64 (d : BitVec 7) (a : BitVec 7) (b : BitVec 7)
  /-- VMAX.F64 (R158). -/
  | vmaxF64 (d : BitVec 7) (a : BitVec 7) (b : BitVec 7)
  /-- VFMA.F64 (R158). -/
  | vfmaF64 (d : BitVec 7) (a : BitVec 7) (b : BitVec 7)
  /-- VFMS.F64 (R158). -/
  | vfmsF64 (d : BitVec 7) (a : BitVec 7) (b : BitVec 7)
  /-- VFNMA.F64 (R158). -/
  | vfnmaF64 (d : BitVec 7) (a : BitVec 7) (b : BitVec 7)
  /-- VFNMS.F64 (R158). -/
  | vfnmsF64 (d : BitVec 7) (a : BitVec 7) (b : BitVec 7)
  /-- VABS.F64 (R158). -/
  | vabsF64 (d : BitVec 7) (a : BitVec 7)
  /-- VNEG.F64 (R158). -/
  | vnegF64 (d : BitVec 7) (a : BitVec 7)
  /-- VADD.BF16 (R159). -/
  | vaddBf16 (d : BitVec 7) (a : BitVec 7) (b : BitVec 7)
  /-- VSUB.BF16 (R159). -/
  | vsubBf16 (d : BitVec 7) (a : BitVec 7) (b : BitVec 7)
  /-- VMUL.BF16 (R159). -/
  | vmulBf16 (d : BitVec 7) (a : BitVec 7) (b : BitVec 7)
  /-- VMIN.BF16 (R159). -/
  | vminBf16 (d : BitVec 7) (a : BitVec 7) (b : BitVec 7)
  /-- VMAX.BF16 (R159). -/
  | vmaxBf16 (d : BitVec 7) (a : BitVec 7) (b : BitVec 7)
  /-- VFMA.BF16 (R159). -/
  | vfmaBf16 (d : BitVec 7) (a : BitVec 7) (b : BitVec 7)
  /-- VFMS.BF16 (R159). -/
  | vfmsBf16 (d : BitVec 7) (a : BitVec 7) (b : BitVec 7)
  /-- VFNMA.BF16 (R159). -/
  | vfnmaBf16 (d : BitVec 7) (a : BitVec 7) (b : BitVec 7)
  /-- VFNMS.BF16 (R159). -/
  | vfnmsBf16 (d : BitVec 7) (a : BitVec 7) (b : BitVec 7)
  /-- VABS.BF16 (R159). -/
  | vabsBf16 (d : BitVec 7) (a : BitVec 7)
  /-- VNEG.BF16 (R159). -/
  | vnegBf16 (d : BitVec 7) (a : BitVec 7)
  /-- VADD.F16 (R159). -/
  | vaddF16 (d : BitVec 7) (a : BitVec 7) (b : BitVec 7)
  /-- VSUB.F16 (R159). -/
  | vsubF16 (d : BitVec 7) (a : BitVec 7) (b : BitVec 7)
  /-- VMUL.F16 (R159). -/
  | vmulF16 (d : BitVec 7) (a : BitVec 7) (b : BitVec 7)
  /-- VMIN.F16 (R159). -/
  | vminF16 (d : BitVec 7) (a : BitVec 7) (b : BitVec 7)
  /-- VMAX.F16 (R159). -/
  | vmaxF16 (d : BitVec 7) (a : BitVec 7) (b : BitVec 7)
  /-- VFMA.F16 (R159). -/
  | vfmaF16 (d : BitVec 7) (a : BitVec 7) (b : BitVec 7)
  /-- VFMS.F16 (R159). -/
  | vfmsF16 (d : BitVec 7) (a : BitVec 7) (b : BitVec 7)
  /-- VFNMA.F16 (R159). -/
  | vfnmaF16 (d : BitVec 7) (a : BitVec 7) (b : BitVec 7)
  /-- VFNMS.F16 (R159). -/
  | vfnmsF16 (d : BitVec 7) (a : BitVec 7) (b : BitVec 7)
  /-- VABS.F16 (R159). -/
  | vabsF16 (d : BitVec 7) (a : BitVec 7)
  /-- VNEG.F16 (R159). -/
  | vnegF16 (d : BitVec 7) (a : BitVec 7)
  /-- VCMP (R160). -/
  | vcmp (ty : BitVec 3) (cc : BitVec 4) (md : BitVec 4) (a : BitVec 7) (b : BitVec 7)
  /-- VSEL (R161). -/
  | vsel (d : BitVec 7) (a : BitVec 7) (b : BitVec 7) (mk : BitVec 4)
  /-- VCVT (R162). -/
  | vcvt (d : BitVec 7) (a : BitVec 7) (code : BitVec 7)
  /-- VQNT (R163). -/
  | vqnt (d : BitVec 7) (a : BitVec 7) (b : BitVec 7)
  /-- MOV (R164). -/
  | vcvtMov (d : BitVec 7) (a : BitVec 7)
  /-- RETAG (R164). -/
  | retag (d : BitVec 7) (a : BitVec 7) (tag : BitVec 4)
  /-- VMOVS (R164). -/
  | vmovs (d : BitVec 7) (a : BitVec 6) (tag : BitVec 4)
  /-- VRCP.F32 (R165). -/
  | vrcpF32 (d : BitVec 7) (a : BitVec 7)
  /-- VRSQ.F32 (R165). -/
  | vrsqF32 (d : BitVec 7) (a : BitVec 7)
  /-- VSQRT.F32 (R165). -/
  | vsqrtF32 (d : BitVec 7) (a : BitVec 7)
  /-- VEXP2.F32 (R165). -/
  | vexp2F32 (d : BitVec 7) (a : BitVec 7)
  /-- VLOG2.F32 (R165). -/
  | vlog2F32 (d : BitVec 7) (a : BitVec 7)
  /-- VSIN.F32 (R167). -/
  | vsinF32 (d : BitVec 7) (a : BitVec 7)
  /-- VCOS.F32 (R167). -/
  | vcosF32 (d : BitVec 7) (a : BitVec 7)
  /-- VTANH.F32 (R165). -/
  | vtanhF32 (d : BitVec 7) (a : BitVec 7)
  /-- SHFL.IDX (R170). -/
  | shflIdx (d : BitVec 7) (a : BitVec 7) (b : BitVec 7)
  /-- SHFL.UP (R170). -/
  | shflUp (d : BitVec 7) (a : BitVec 7) (n : BitVec 6)
  /-- SHFL.DN (R170). -/
  | shflDn (d : BitVec 7) (a : BitVec 7) (n : BitVec 6)
  /-- SHFL.XOR (R170). -/
  | shflXor (d : BitVec 7) (a : BitVec 7) (n : BitVec 6)
  /-- SHFL.BC (R170). -/
  | shflBc (d : BitVec 7) (a : BitVec 7) (n : BitVec 6)
  /-- VOTE.ANY (R171). -/
  | voteAny (d : BitVec 6) (a : BitVec 7)
  /-- VOTE.ALL (R171). -/
  | voteAll (d : BitVec 6) (a : BitVec 7)
  /-- VOTE.BAL (R171). -/
  | voteBal (d : BitVec 6) (a : BitVec 7)
  /-- REDL (R172). -/
  | redl (d : BitVec 7) (a : BitVec 7) (code : BitVec 7)
  /-- VPOP (R175). -/
  | vpop (d : BitVec 7) (ch : BitVec 7)
  /-- VLD (R182). -/
  | vld (ty : BitVec 4) (d : BitVec 7) (a : BitVec 7) (b : BitVec 6) (x : BitVec 1)
  /-- VST (R182). -/
  | vst (ty : BitVec 4) (d : BitVec 7) (a : BitVec 7) (b : BitVec 6) (x : BitVec 1)
  /-- VLDS (R185). -/
  | vlds (ty : BitVec 4) (d : BitVec 7) (a : BitVec 7) (b : BitVec 6) (x : BitVec 1)
  /-- VSTS (R185). -/
  | vsts (ty : BitVec 4) (d : BitVec 7) (a : BitVec 7) (b : BitVec 6) (x : BitVec 1)
  /-- VLDP.N32 (R188). -/
  | vldpN32 (d : BitVec 7) (a : BitVec 7) (b : BitVec 7)
  /-- SEVICT (R198). -/
  | sevict (a : BitVec 7)
  /-- VLDT.B8 (R187). -/
  | vldtB8 (d : BitVec 7) (a : BitVec 7)
  /-- VLDT.B16 (R187). -/
  | vldtB16 (d : BitVec 7) (a : BitVec 7)
  /-- VLDT.B32 (R187). -/
  | vldtB32 (d : BitVec 7) (a : BitVec 7)
  /-- ATOM.ADD (R190). -/
  | atomAdd (ty : BitVec 2) (lvl : BitVec 3) (d : BitVec 7) (a : BitVec 7) (sp : BitVec 2)
  /-- ATOM.MIN (R190). -/
  | atomMin (ty : BitVec 2) (lvl : BitVec 3) (d : BitVec 7) (a : BitVec 7) (sp : BitVec 2)
  /-- ATOM.MAX (R190). -/
  | atomMax (ty : BitVec 2) (lvl : BitVec 3) (d : BitVec 7) (a : BitVec 7) (sp : BitVec 2)
  /-- ATOM.AND (R190). -/
  | atomAnd (ty : BitVec 2) (lvl : BitVec 3) (d : BitVec 7) (a : BitVec 7) (sp : BitVec 2)
  /-- ATOM.OR (R190). -/
  | atomOr (ty : BitVec 2) (lvl : BitVec 3) (d : BitVec 7) (a : BitVec 7) (sp : BitVec 2)
  /-- ATOM.XOR (R190). -/
  | atomXor (ty : BitVec 2) (lvl : BitVec 3) (d : BitVec 7) (a : BitVec 7) (sp : BitVec 2)
  /-- ATOM.XCHG (R190). -/
  | atomXchg (ty : BitVec 2) (lvl : BitVec 3) (d : BitVec 7) (a : BitVec 7) (sp : BitVec 2)
  /-- ATOM.CAS (R194). -/
  | atomCas (ty : BitVec 2) (lvl : BitVec 3) (d : BitVec 7) (a : BitVec 7) (sp : BitVec 2)
  /-- FENCE.ACQ (R195). -/
  | fenceAcq (lvl : BitVec 3)
  /-- FENCE.REL (R195). -/
  | fenceRel (lvl : BitVec 3)
  /-- FENCE.AR (R195). -/
  | fenceAr (lvl : BitVec 3)
  /-- XFENCE (R197). -/
  | xfence (p : BitVec 3) (q : BitVec 3)
  /-- LVLQ (R199). -/
  | lvlq (d : BitVec 6) (lvl : BitVec 3) (f : BitVec 4)
  /-- BOINIT (R201). -/
  | boinit (obj : BitVec 6) (v : BitVec 6)
  /-- BOEXPECT (R201). -/
  | boexpect (obj : BitVec 6) (v : BitVec 6)
  /-- BOARRIVE (R201). -/
  | boarrive (obj : BitVec 6) (v : BitVec 6)
  /-- BOWAIT (R201). -/
  | bowait (obj : BitVec 6) (v : BitVec 6)
  /-- SEND (R229). -/
  | send (a : BitVec 6) (ch : BitVec 6)
  /-- RECV (R229). -/
  | recv (d : BitVec 6) (ch : BitVec 6)
  /-- CHWP (R230). -/
  | chwp (d : BitVec 6) (ch : BitVec 6)
  /-- DQPUSH (R149). -/
  | dqpush (a : BitVec 6)
  /-- DQPOP (R149). -/
  | dqpop (d : BitVec 6)
  /-- TREC (R212). -/
  | trec (a : BitVec 5) (space : BitVec 2) (slot : BitVec 3)
  /-- MLDW (R214). -/
  | mldw (a : BitVec 5) (b : BitVec 5) (arr : BitVec 1) (slot : BitVec 3)
  /-- MSWAP (R215). -/
  | mswap
  /-- MMA (R216). -/
  | mma (a : BitVec 5) (b : BitVec 5) (tile : BitVec 2) (arr : BitVec 1) (slot : BitVec 3)
  /-- MDRAIN (R217). -/
  | mdrain (a : BitVec 5) (b : BitVec 5) (c : BitVec 5) (tile : BitVec 2) (arr : BitVec 1) (slot : BitVec 3)
  /-- TCOPY (R219). -/
  | tcopy (a : BitVec 5) (b : BitVec 5) (c : BitVec 5) (dst : BitVec 3) (src : BitVec 3)
  /-- STRM (R221). -/
  | strm (a : BitVec 5) (b : BitVec 5) (c : BitVec 5) (slot : BitVec 3)
  /-- NMC (R223). -/
  | nmc (a : BitVec 5) (b : BitVec 5) (c : BitVec 5)
  /-- DREAD (R226). -/
  | dread (a : BitVec 5) (b : BitVec 5) (c : BitVec 5)
  /-- DAPPEND (R227). -/
  | dappend (a : BitVec 5) (b : BitVec 5) (c : BitVec 5)
  /-- SPLIT_RAISE (R26). -/
  | splitRaise (u g e : Nat)
  /-- GANG_CONTEXT_FREE (R143). -/
  | gangContextFree (u g : Nat)
  /-- GANG_BARRIER_COMPLETE (R146). -/
  | gangBarrierComplete (u g : Nat)
  /-- UNIT_BARRIER_COMPLETE (R147). -/
  | unitBarrierComplete (u : Nat)
  /-- UNIT_END (R145). -/
  | unitEnd (u : Nat)
  /-- LOAD_RETURN (R27): lane `l` of operation `op` of gang `g` (32: the lead) of unit `u`; `hit`: answered from L1. -/
  | loadReturn (u g op l : Nat) (hit : Bool)
  /-- PERMUTE_COMPLETE (R169). -/
  | permuteComplete (u g op : Nat)
  /-- WRITE_AT_HOME (R247): the `k`-th write that layer `y` sent beyond itself. -/
  | writeAtHome (y k : Nat)
  /-- FORWARDED_WRITE_APPLY (R249): the `k`-th forwarded write waiting at layer `y`. -/
  | forwardedWriteApply (y k : Nat)
  /-- REMOTE_WRITE (R250). -/
  | remoteWrite (pa : Nat) (bytes : List (BitVec 8))
  /-- ATOMIC_AT_SITE (R192). -/
  | atomicAtSite (u g op l : Nat)
  /-- ATOMICOP_COMPLETION (R193). -/
  | atomicopCompletion (u g op l : Nat) (ok : Bool)
  /-- SEAM_CLAIM_REQUEST (R252). -/
  | seamClaimRequest (c sidx blk : Nat)
  /-- SEAM_RECALL (R252). -/
  | seamRecall (c saddr : Nat)
  /-- RECALL_COMPLETE (R252). -/
  | recallComplete (saddr : Nat)
  /-- CLAIM_RELEASE (R252). -/
  | claimRelease (c saddr : Nat)
  /-- SEAM_BLOCK_FILL (R122). -/
  | seamBlockFill (c sidx blk : Nat)
  /-- DRESSING_CACHE_EVICTION (R123). -/
  | dressingCacheEviction (c sidx blk : Nat)
  /-- SEAM_WRITEBACK_ACK (R198). -/
  | seamWritebackAck (c saddr : Nat)
  /-- FIRST_TOUCH_SERVICE (R311): an access of unit `u` to `va` met the entry. -/
  | firstTouchService (u : Nat) (va : BitVec 64)
  /-- TILE_COMMAND_START (R332). -/
  | tileCommandStart (u k : Nat)
  /-- TILE_COMMAND_COMPLETE (R208). -/
  | tileCommandComplete (u k : Nat)
  /-- ENGINE_FAULT (R209). -/
  | engineFault (u k : Nat)
  /-- TCOPY_ELEMENT_WRITE (R336). -/
  | tcopyElementWrite (u k e : Nat)
  /-- STREAM_SECTOR_FETCH (R338). -/
  | streamSectorFetch (u k : Nat)
  /-- NMC_START (R223). -/
  | nmcStart (k : Nat)
  /-- NMC_SUBCOMMAND_COMPLETE (R341): `badY`, `badX`: sectors of y and of x the base die finds uncorrectable. -/
  | nmcSubcommandComplete (k sub : Nat) (badY badX : List Nat)
  /-- DEEP_PAGE_FETCH_COMPLETE (R226): `ok`: the fetch passed its CRC-32C. -/
  | deepPageFetchComplete (k page : Nat) (ok : Bool)
  /-- DAPPEND_EXECUTE (R348). -/
  | dappendExecute (k : Nat)
  /-- DAPPEND_DURABLE (R227). -/
  | dappendDurable (k : Nat)
  /-- PREEMPTION (R323). -/
  | preemption (u : Nat) (area : BitVec 64)
  /-- SQ_TAIL (R277): the host link (R356) and the queue of the doorbell, and the value. -/
  | sqTail (door : Nat × Nat) (v : BitVec 64)
  /-- SQ_BASE (R277). -/
  | sqBase (q : Nat) (v : BitVec 64)
  /-- SQ_SIZE (R277). -/
  | sqSize (q : Nat) (v : BitVec 64)
  /-- SQ_ENABLE (R277). -/
  | sqEnable (q : Nat) (v : BitVec 64)
  /-- SQ_DISABLE (R277). -/
  | sqDisable (q : Nat) (v : BitVec 64)
  /-- CTX_DESC (R300). -/
  | ctxDesc (v : BitVec 64)
  /-- XLT_INV_PAGE (R307). -/
  | xltInvPage (v : BitVec 64)
  /-- XLT_INV_ALL (R307). -/
  | xltInvAll (v : BitVec 64)
  /-- XLT_INV_COMPLETE (R307). -/
  | xltInvComplete
  /-- MIG_REQ_HBM (R320). -/
  | migReqHbm (v : BitVec 64)
  /-- MIG_REQ_LPDDR (R320). -/
  | migReqLpddr (v : BitVec 64)
  /-- MIGRATION_LINE_MOVE (R321). -/
  | migrationLineMove (line : Nat)
  /-- SLT_BIND_DISPATCH (R294): `pend = none`: a record at address `v`; `some i`: Miryen dispatches its `i`-th waiting unit and chooses the placement. -/
  | sltBindDispatch (slot : Nat) (v : BitVec 64) (pend : Option Nat) (spbase tlbbase tlbsets : Nat)
  /-- SLT_BIND_RESTORE (R326). -/
  | sltBindRestore (slot : Nat) (v : BitVec 64)
  /-- QPOOL_LIM (R297). -/
  | qpoolLim (slot cls : Nat) (v : BitVec 64)
  /-- FSPLIT (R328). -/
  | fsplit (v : BitVec 64)
  /-- FR_BASE (R329). -/
  | frBase (v : BitVec 64)
  /-- FR_SIZE (R329). -/
  | frSize (v : BitVec 64)
  /-- FR_ACK_VERDICT_0 (R329). -/
  | frAckVerdict0 (seq : BitVec 32)
  /-- FR_ACK_VERDICT_1 (R329). -/
  | frAckVerdict1 (seq : BitVec 32)
  /-- DLOG_TRIM (R349). -/
  | dlogTrim (v : BitVec 64)
  /-- DLOG_CTL (R349). -/
  | dlogCtl (v : BitVec 64)
  /-- COMPACTION_COMPLETE (R350). -/
  | compactionComplete (phys : Nat)
  /-- HBM_PWRCFG (R353). -/
  | hbmPwrcfg (v : BitVec 64)
  /-- PWR_CTL (R371). -/
  | pwrCtl (v : BitVec 64)
  /-- REGISTER_WRITE (R5), through BAR0: the host link of the function (R356) and the address in it, and the value. -/
  | registerWrite (at_ : Nat × BitVec 64) (v : BitVec 64)
  /-- POWER_MEASUREMENT (R371): `near5`: a die within 5 degrees of its limit; `near10`: a die within 10. -/
  | powerMeasurement (watts : BitVec 12) (near5 near10 : Bool)
  /-- POWER_DOWN_ENTRY (R351). -/
  | powerDownEntry (p : Nat)
  /-- SELF_REFRESH_ENTRY (R351). -/
  | selfRefreshEntry (p : Nat)
  /-- PSEUDO_CHANNEL_WAKE (R352). -/
  | pseudoChannelWake (p : Nat)
  /-- PSEUDO_CHANNEL_EXIT_COMPLETE (R351). -/
  | pseudoChannelExitComplete (p : Nat)
  /-- JOB_ACCEPT (R279). -/
  | jobAccept (q : Nat)
  /-- NODE_START (R283). -/
  | nodeStart (j k : Nat)
  /-- WAIT_NODE_POLL (R282). -/
  | waitNodePoll (j k : Nat)
  /-- NODE_FINISH (R284). -/
  | nodeFinish (j k : Nat)
  /-- PACKAGE_RESET (R357). -/
  | packageReset
  /-- LINK_TRAINING_TIMEOUT (R357). -/
  | linkTrainingTimeout (link : Nat)
  /-- LINK_AUTHENTICATION (R358): `whyA`, `whyB`: what each side finds wrong with the other: 0 nothing, 2 chain, 3 signature. -/
  | linkAuthentication (link whyA whyB : Nat)
  /-- SURVEY_MESSAGE (R357). -/
  | surveyMessage (die origin : Nat)
  /-- SURVEY_COLLECT (R357). -/
  | surveyCollect
  /-- POD_SURVEY (R363). -/
  | podSurvey (n : Nat) (peers : List (Nat × Nat))
  /-- LINK_LOSS (R362). -/
  | linkLoss (link : Nat)
  /-- VEXLIS_DATA_FLIT (R365). -/
  | vexlisDataFlit (p : Nat) (seq ack : BitVec 12) (ph intact : Bool)
  /-- VEXLIS_ACK_FLIT (R364). -/
  | vexlisAckFlit (p : Nat) (ack : BitVec 12)
  /-- VEXLIS_REPLAY_REQUEST (R365). -/
  | vexlisReplayRequest (p : Nat) (seq : BitVec 12)
  /-- VEXLIS_KEY_RETIRE (R366). -/
  | vexlisKeyRetire (p : Nat) (seq : BitVec 12) (ph : Bool)
  /-- VEXLIS_IDLE_FLIT (R364). -/
  | vexlisIdleFlit (p : Nat) (ack : BitVec 12)
  /-- KEY_ROLLOVER (R366). -/
  | keyRollover (p : Nat)
  /-- WAVELENGTH_LOCK_LOSS (R368). -/
  | wavelengthLockLoss (p w : Nat)
  /-- WAVELENGTH_RETRY (R368). -/
  | wavelengthRetry (p w : Nat) (locked : Bool)
  /-- HOST_ATOMICOP (R370): `kind` 0 FetchAdd, 1 Swap, 2 CAS; other kinds and sizes are unsupported. -/
  | hostAtomicop (kind pa bytes : Nat) (x y : BitVec 64)
  /-- HOST_BAR2_WRITE (R268). -/
  | hostBar2Write (pa : Nat) (bytes : List (BitVec 8))
  /-- SINGLE_BIT_ERROR (R372). -/
  | singleBitError (cls die : BitVec 8) (detail : BitVec 32)
  /-- DOUBLE_BIT_ERROR (R372): `kind`: 0 clean cache line or TLB entry, 1 dirty cache line, 2 dirty dressing block, 3 scratchpad word, 4 unit state, 5 Miryen memory, 6 memory sector, 7 register read, 8 queue entry. -/
  | doubleBitError (kind loc off : Nat) (detail : BitVec 32)
  /-- HBM_ROW_SPARING (R373) of a resource: its class (3 an HBM4E row, 5 a flash block, 6 and 7 a link lane) and detail; whether a spare is left. -/
  | hbmRowSparing (what : Nat × BitVec 32) (spare : Bool)
  /-- CARRIER_POWER_LOSS (R348). -/
  | carrierPowerLoss
  /-- PACKAGE_REMOVAL (R374). -/
  | packageRemoval (pkg : Nat)
  /-- STORE_ACKNOWLEDGED (R244): the `k`-th request in the memory port of core `c`. -/
  | storeAcknowledged (c k : Nat)
  /-- DREAD_START (R226). -/
  | dreadStart (k : Nat)
  /-- FR_HEAD (R329). -/
  | frHead (v : BitVec 64)
  /-- RECOVERY_IMAGE_LOAD (R357). -/
  | recoveryImageLoad (ok : Bool)
  deriving DecidableEq, Repr

end Sys2Proof
end

