-- ==== Sys2Proof/WellFormed.lean ====
section
/-! DEFINITION. Which instruction terms the device takes as defined: the field values that R40, R53, R55 and the sub-opcode tables leave reserved or unassigned are refused here. What depends on the issuing stream (R50, declared registers of R15, h registers above 31) is checked when the word issues. -/

namespace Sys2Proof.WellFormed

/-- An F64 pair is named by its even register (R14). -/
def even {w : Nat} (n : BitVec w) : Bool := n.toNat % 2 == 0

/-- A quad or a block of eight is named by a multiple of its size (R53). -/
def mult {w : Nat} (k : Nat) (n : BitVec w) : Bool := n.toNat % k == 0

/-- A field that names a mask register holds 0 to 15 (R53). -/
def isMask {w : Nat} (n : BitVec w) : Bool := decide (n.toNat ≤ 15)

/-- Special-register numbers from 0x16 are reserved (R30). -/
def srdNum (n : BitVec 8) : Bool := decide (n.toNat ≤ 0x15)

/-- R64: types 4 to 7 and conditions 8 to 15 are unassigned; UN and OR need a floating type. -/
def vcmpOk (ty : BitVec 3) (cc : BitVec 4) : Bool :=
  decide (ty.toNat ≤ 3) && decide (cc.toNat ≤ 7) && (decide (ty.toNat ≤ 1) || decide (cc.toNat ≤ 5))

/-- Register-group sizes of a conversion code: source, destination (R162). -/
def cvtGroups (code : BitVec 7) : Option (Nat × Nat) :=
  match code.toNat with
  | 0x00 => some (1, 2) | 0x01 => some (2, 1) | 0x02 => some (2, 1) | 0x03 => some (2, 1)
  | 0x04 => some (1, 2) | 0x05 => some (1, 2) | 0x06 => some (1, 1) | 0x07 => some (1, 1)
  | 0x08 => some (1, 1) | 0x09 => some (1, 1) | 0x0A => some (1, 1) | 0x0B => some (1, 1)
  | 0x0C => some (1, 2) | 0x0D => some (2, 1) | 0x0E => some (4, 1) | 0x0F => some (4, 1)
  | 0x10 => some (2, 1) | 0x11 => some (8, 1) | 0x12 => some (1, 4) | 0x13 => some (1, 4)
  | 0x14 => some (1, 2) | 0x15 => some (1, 8) | _ => none

/-- R162: a listed code, and groups that start at a multiple of their size. -/
def cvtOk (code d a : BitVec 7) : Bool :=
  match cvtGroups code with
  | some (m, n) => mult m a && mult n d
  | none => false

/-- Tag codes 0xE and 0xF are reserved (R17, R65). -/
def tagOk (t : BitVec 4) : Bool := decide (t.toNat ≤ 0xD)

/-- R172: a listed code; the F64 codes name even pairs. -/
def redlOk (code d a : BitVec 7) : Bool :=
  decide (code.toNat ≤ 0x0D) &&
    (!(code == 0x02#7 || code == 0x06#7 || code == 0x0A#7) || (even d && even a))

/-- R65: channels 16 to 31; 49 to 63 trap as channel-unavailable when the word issues. -/
def vpopChannel (ch : BitVec 7) : Bool :=
  decide (16 ≤ ch.toNat ∧ ch.toNat ≤ 31) || decide (49 ≤ ch.toNat ∧ ch.toNat ≤ 63)

/-- R68: `sp` 11 is unassigned, scope code 7 is reserved (R36), a global address is an even pair. -/
def atomOk (_ty : BitVec 2) (lvl : BitVec 3) (sp : BitVec 2) (a : BitVec 7) : Bool :=
  sp != 3#2 && lvl != 7#3 && (sp != 0#2 || even a)

/-- R68: a 64-bit operand is an even pair. -/
def atomOperand (ty : BitVec 2) (d : BitVec 7) : Bool := decide (ty.toNat ≤ 1) || even d

/-- R68: CAS takes a pair in the 32-bit forms and a quad in the 64-bit forms. -/
def casOperand (ty : BitVec 2) (d : BitVec 7) : Bool :=
  if ty.toNat ≤ 1 then even d else mult 4 d

/-- Path codes 5 to 7 are unassigned (R69). -/
def pathOk (p : BitVec 3) : Bool := decide (p.toNat ≤ 4)

/-- R228: SEND and RECV take the ports 32 to 47; 49 to 63 trap as channel-unavailable when the word issues. -/
def portChannel (ch : BitVec 6) : Bool := decide (32 ≤ ch.toNat) && ch != 48#6

/-- R71: the object field is read only when A is 1, and is zero otherwise. -/
def unusedZero (arr : BitVec 1) (b : BitVec 5) : Bool := arr == 1#1 || b == 0#5

end Sys2Proof.WellFormed

namespace Sys2Proof

open WellFormed in
/-- The instruction is one the encoding tables define, in some stream. -/
def Instr.wf : Instr → Bool
  | .nop => true
  | .exit => true
  | .gbar => true
  | .ubar => true
  | .wait _ _ => true
  | .trap _ => true
  | .bkpt _ => true
  | .rett => true
  | .cancelGraph _ => true
  | .cancelPhase _ => true
  | .cancelJob _ => true
  | .ctxsv _ => true
  | .br _ => true
  | .brZ _ _ => true
  | .brNz _ _ => true
  | .brd _ _ => true
  | .brdN _ _ => true
  | .call _ _ => true
  | .ret _ => true
  | .spawn c _ => mult 8 c
  | .add _ _ _ => true
  | .sub _ _ _ => true
  | .mul _ _ _ => true
  | .mulhiI64 _ _ _ => true
  | .mulhiN64 _ _ _ => true
  | .and _ _ _ => true
  | .or _ _ _ => true
  | .xor _ _ _ => true
  | .shl _ _ _ => true
  | .shr _ _ _ => true
  | .sar _ _ _ => true
  | .minI64 _ _ _ => true
  | .minN64 _ _ _ => true
  | .maxI64 _ _ _ => true
  | .maxN64 _ _ _ => true
  | .seq _ _ _ => true
  | .sltI64 _ _ _ => true
  | .sltN64 _ _ _ => true
  | .mov _ _ => true
  | .popc _ _ => true
  | .clz _ _ => true
  | .mtos _ a => isMask a
  | .stom d _ => isMask d
  | .mand d a b => isMask d && isMask a && isMask b
  | .mor d a b => isMask d && isMask a && isMask b
  | .mxor d a b => isMask d && isMask a && isMask b
  | .mnot d a => isMask d && isMask a
  | .addi _ _ _ => true
  | .andi _ _ _ => true
  | .ori _ _ _ => true
  | .xori _ _ _ => true
  | .shli _ _ _ => true
  | .shri _ _ _ => true
  | .sari _ _ _ => true
  | .seqi _ _ _ => true
  | .sltiI64 _ _ _ => true
  | .sltiN64 _ _ _ => true
  | .ldi _ _ _ => true
  | .ldih _ _ _ => true
  | .srd d num => srdNum num && (num != 0x13#8 || even d)
  | .swr _ num => num == 0x06#8 || num == 0x07#8
  | .sldB64 _ _ _ => true
  | .sldN32 _ _ _ => true
  | .sldI32 _ _ _ => true
  | .sstB64 _ _ _ => true
  | .sstB32 _ _ _ => true
  | .dsld _ _ _ => true
  | .dsst _ _ _ => true
  | .sldsB64 _ _ _ => true
  | .sstsB64 _ _ _ => true
  | .vaddI32 _ _ _ => true
  | .vaddN32 _ _ _ => true
  | .vsubI32 _ _ _ => true
  | .vsubN32 _ _ _ => true
  | .vmulI32 _ _ _ => true
  | .vmulN32 _ _ _ => true
  | .vmulhiI32 _ _ _ => true
  | .vmulhiN32 _ _ _ => true
  | .vaddsI32 _ _ _ => true
  | .vaddsN32 _ _ _ => true
  | .vsubsI32 _ _ _ => true
  | .vsubsN32 _ _ _ => true
  | .vminI32 _ _ _ => true
  | .vminN32 _ _ _ => true
  | .vmaxI32 _ _ _ => true
  | .vmaxN32 _ _ _ => true
  | .vandB32 _ _ _ => true
  | .vorB32 _ _ _ => true
  | .vxorB32 _ _ _ => true
  | .vnotB32 _ _ => true
  | .vshlB32 _ _ _ => true
  | .vshrN32 _ _ _ => true
  | .vshrI32 _ _ _ => true
  | .vpopcB32 _ _ => true
  | .vclzB32 _ _ => true
  | .vaddF32 _ _ _ => true
  | .vsubF32 _ _ _ => true
  | .vmulF32 _ _ _ => true
  | .vminF32 _ _ _ => true
  | .vmaxF32 _ _ _ => true
  | .vfmaF32 _ _ _ => true
  | .vfmsF32 _ _ _ => true
  | .vfnmaF32 _ _ _ => true
  | .vfnmsF32 _ _ _ => true
  | .vabsF32 _ _ => true
  | .vnegF32 _ _ => true
  | .vaddF64 d a b => even d && even a && even b
  | .vsubF64 d a b => even d && even a && even b
  | .vmulF64 d a b => even d && even a && even b
  | .vminF64 d a b => even d && even a && even b
  | .vmaxF64 d a b => even d && even a && even b
  | .vfmaF64 d a b => even d && even a && even b
  | .vfmsF64 d a b => even d && even a && even b
  | .vfnmaF64 d a b => even d && even a && even b
  | .vfnmsF64 d a b => even d && even a && even b
  | .vabsF64 d a => even d && even a
  | .vnegF64 d a => even d && even a
  | .vaddBf16 _ _ _ => true
  | .vsubBf16 _ _ _ => true
  | .vmulBf16 _ _ _ => true
  | .vminBf16 _ _ _ => true
  | .vmaxBf16 _ _ _ => true
  | .vfmaBf16 _ _ _ => true
  | .vfmsBf16 _ _ _ => true
  | .vfnmaBf16 _ _ _ => true
  | .vfnmsBf16 _ _ _ => true
  | .vabsBf16 _ _ => true
  | .vnegBf16 _ _ => true
  | .vaddF16 _ _ _ => true
  | .vsubF16 _ _ _ => true
  | .vmulF16 _ _ _ => true
  | .vminF16 _ _ _ => true
  | .vmaxF16 _ _ _ => true
  | .vfmaF16 _ _ _ => true
  | .vfmsF16 _ _ _ => true
  | .vfnmaF16 _ _ _ => true
  | .vfnmsF16 _ _ _ => true
  | .vabsF16 _ _ => true
  | .vnegF16 _ _ => true
  | .vcmp ty cc _ a b => vcmpOk ty cc && (ty != 1#3 || (even a && even b))
  | .vsel _ _ _ _ => true
  | .vcvt d a code => cvtOk code d a
  | .vqnt _ a _ => mult 4 a
  | .vcvtMov _ _ => true
  | .retag d a tag => tagOk tag && (tag != 2#4 || (even d && even a))
  | .vmovs d _ tag => tagOk tag && (tag != 2#4 || even d)
  | .vrcpF32 _ _ => true
  | .vrsqF32 _ _ => true
  | .vsqrtF32 _ _ => true
  | .vexp2F32 _ _ => true
  | .vlog2F32 _ _ => true
  | .vsinF32 _ _ => true
  | .vcosF32 _ _ => true
  | .vtanhF32 _ _ => true
  | .shflIdx _ _ _ => true
  | .shflUp _ _ _ => true
  | .shflDn _ _ _ => true
  | .shflXor _ _ _ => true
  | .shflBc _ _ _ => true
  | .voteAny _ _ => true
  | .voteAll _ _ => true
  | .voteBal _ _ => true
  | .redl d a code => redlOk code d a
  | .vpop _ ch => vpopChannel ch
  | .vld ty d _ _ _ => ty != 4#4 || even d
  | .vst ty d _ _ _ => ty != 4#4 || even d
  | .vlds ty d _ _ _ => ty != 4#4 || even d
  | .vsts ty d _ _ _ => ty != 4#4 || even d
  | .vldpN32 _ a _ => even a
  | .sevict a => even a
  | .vldtB8 _ _ => true
  | .vldtB16 d _ => even d
  | .vldtB32 d _ => mult 4 d
  | .atomAdd ty lvl d a sp => atomOk ty lvl sp a && atomOperand ty d
  | .atomMin ty lvl d a sp => atomOk ty lvl sp a && atomOperand ty d
  | .atomMax ty lvl d a sp => atomOk ty lvl sp a && atomOperand ty d
  | .atomAnd ty lvl d a sp => atomOk ty lvl sp a && atomOperand ty d
  | .atomOr ty lvl d a sp => atomOk ty lvl sp a && atomOperand ty d
  | .atomXor ty lvl d a sp => atomOk ty lvl sp a && atomOperand ty d
  | .atomXchg ty lvl d a sp => atomOk ty lvl sp a && atomOperand ty d
  | .atomCas ty lvl d a sp => atomOk ty lvl sp a && casOperand ty d
  | .fenceAcq lvl => lvl != 7#3
  | .fenceRel lvl => lvl != 7#3
  | .fenceAr lvl => lvl != 7#3
  | .xfence p q => pathOk p && pathOk q && p != q
  | .lvlq _ lvl f => lvl != 7#3 && decide (f.toNat ≤ 6)
  | .boinit _ _ => true
  | .boexpect _ _ => true
  | .boarrive _ _ => true
  | .bowait _ _ => true
  | .send _ ch => portChannel ch
  | .recv _ ch => portChannel ch
  | .chwp _ ch => ch != 48#6
  | .dqpush _ => true
  | .dqpop _ => true
  | .trec _ space _ => decide (space.toNat ≤ 1)
  | .mldw _ b arr _ => unusedZero arr b
  | .mswap => true
  | .mma _ b _ arr _ => unusedZero arr b
  | .mdrain _ b _ _ arr _ => unusedZero arr b
  | .tcopy _ _ _ _ _ => true
  | .strm _ _ _ _ => true
  | .nmc _ _ _ => true
  | .dread _ _ _ => true
  | .dappend _ _ _ => true
  | .splitRaise _ _ _ => true
  | .gangContextFree _ _ => true
  | .gangBarrierComplete _ _ => true
  | .unitBarrierComplete _ => true
  | .unitEnd _ => true
  | .loadReturn _ _ _ _ _ => true
  | .permuteComplete _ _ _ => true
  | .writeAtHome _ _ => true
  | .forwardedWriteApply _ _ => true
  | .remoteWrite _ _ => true
  | .atomicAtSite _ _ _ _ => true
  | .atomicopCompletion _ _ _ _ _ => true
  | .seamClaimRequest _ _ _ => true
  | .seamRecall _ _ => true
  | .recallComplete _ => true
  | .claimRelease _ _ => true
  | .seamBlockFill _ _ _ => true
  | .dressingCacheEviction _ _ _ => true
  | .seamWritebackAck _ _ => true
  | .firstTouchService _ _ => true
  | .tileCommandStart _ _ => true
  | .tileCommandComplete _ _ => true
  | .engineFault _ _ => true
  | .tcopyElementWrite _ _ _ => true
  | .streamSectorFetch _ _ => true
  | .nmcStart _ => true
  | .nmcSubcommandComplete _ _ _ _ => true
  | .deepPageFetchComplete _ _ _ => true
  | .dappendExecute _ => true
  | .dappendDurable _ => true
  | .preemption _ _ => true
  | .sqTail _ _ => true
  | .sqBase _ _ => true
  | .sqSize _ _ => true
  | .sqEnable _ _ => true
  | .sqDisable _ _ => true
  | .ctxDesc _ => true
  | .xltInvPage _ => true
  | .xltInvAll _ => true
  | .xltInvComplete => true
  | .migReqHbm _ => true
  | .migReqLpddr _ => true
  | .migrationLineMove _ => true
  | .sltBindDispatch _ _ _ _ _ _ => true
  | .sltBindRestore _ _ => true
  | .qpoolLim _ _ _ => true
  | .fsplit _ => true
  | .frBase _ => true
  | .frSize _ => true
  | .frAckVerdict0 _ => true
  | .frAckVerdict1 _ => true
  | .dlogTrim _ => true
  | .dlogCtl _ => true
  | .compactionComplete _ => true
  | .hbmPwrcfg _ => true
  | .pwrCtl _ => true
  | .registerWrite _ _ => true
  | .powerMeasurement _ _ _ => true
  | .powerDownEntry _ => true
  | .selfRefreshEntry _ => true
  | .pseudoChannelWake _ => true
  | .pseudoChannelExitComplete _ => true
  | .jobAccept _ => true
  | .nodeStart _ _ => true
  | .waitNodePoll _ _ => true
  | .nodeFinish _ _ => true
  | .packageReset => true
  | .linkTrainingTimeout _ => true
  | .linkAuthentication _ _ _ => true
  | .surveyMessage _ _ => true
  | .surveyCollect => true
  | .podSurvey _ _ => true
  | .linkLoss _ => true
  | .vexlisDataFlit _ _ _ _ _ => true
  | .vexlisAckFlit _ _ => true
  | .vexlisReplayRequest _ _ => true
  | .vexlisKeyRetire _ _ _ => true
  | .vexlisIdleFlit _ _ => true
  | .keyRollover _ => true
  | .wavelengthLockLoss _ _ => true
  | .wavelengthRetry _ _ _ => true
  | .hostAtomicop _ _ _ _ _ => true
  | .hostBar2Write _ _ => true
  | .singleBitError _ _ _ => true
  | .doubleBitError _ _ _ _ => true
  | .hbmRowSparing _ _ => true
  | .carrierPowerLoss => true
  | .packageRemoval _ => true
  | .storeAcknowledged _ _ => true
  | .dreadStart _ => true
  | .frHead _ => true
  | .recoveryImageLoad _ => true

end Sys2Proof
end

