-- ==== Sys2Proof/Decode.lean ====
section
/-! DEFINITION. The encoding of instruction words (R39 to R71): the decoder, total on any bytes and refusing by name, and after it the encoder, written from the same tables. Bit 31, the chain bit, belongs to the packet and not to the instruction; both work on the 31 bits below it. -/

namespace Sys2Proof

/-- Why a word is not an instruction of the tables. All but the last trap as undefined instruction (R40). -/
inductive DecodeError where
  /-- majors 0x00 and 0x19 to 0x1F (R54) -/
  | unassignedMajor
  /-- a sub-opcode the tables do not list (R55) -/
  | unassignedOp
  /-- a reserved or unused bit is set (R40) -/
  | reservedBits
  /-- a field holds a value its entry does not list (R53, R55) -/
  | reservedValue
  /-- fewer than four bytes -/
  | truncated
  /-- DQPUSH (`lead`) or DQPOP with a channel in 49 to 63 (R70), and its register: channel-unavailable in its own stream -/
  | channelUnavailable (lead : Bool) (reg : BitVec 6)
  deriving DecidableEq, Repr

namespace Decoding

/-- Bits lo + len - 1 to lo of a word. -/
def fld (w : BitVec 31) (lo len : Nat) : BitVec len := w.extractLsb' lo len

/-- Takes a term whose field values are all assigned. -/
def accept (i : Instr) : Except DecodeError Instr :=
  if i.wf then .ok i else .error .reservedValue

/-- DQPUSH and DQPOP on a channel other than 48 (R70). -/
def queueChannel (ch reg : BitVec 6) (lead : Bool) : Except DecodeError Instr :=
  if 49 ≤ ch.toNat then .error (.channelUnavailable lead reg) else .error .reservedValue

/-- Major 0x01, format C. -/
def decodeCtl (w : BitVec 31) : Except DecodeError Instr :=
  match (fld w 20 6).toNat with
  | 0x00 => if fld w 0 20 == 0#20 then accept (.nop) else .error .reservedBits
  | 0x01 => if fld w 0 20 == 0#20 then accept (.exit) else .error .reservedBits
  | 0x02 => if fld w 0 20 == 0#20 then accept (.gbar) else .error .reservedBits
  | 0x03 => if fld w 0 20 == 0#20 then accept (.ubar) else .error .reservedBits
  | 0x04 => if fld w 12 8 == 0#8 then accept (.wait (fld w 6 6) (fld w 0 6)) else .error .reservedBits
  | 0x05 => if fld w 16 4 == 0#4 then accept (.trap (fld w 0 16)) else .error .reservedBits
  | 0x06 => if fld w 16 4 == 0#4 then accept (.bkpt (fld w 0 16)) else .error .reservedBits
  | 0x07 => if fld w 0 20 == 0#20 then accept (.rett) else .error .reservedBits
  | 0x08 => if fld w 5 15 == 0#15 then accept (.cancelGraph (fld w 0 5)) else if fld w 5 15 == 2048#15 then accept (.cancelPhase (fld w 0 5)) else if fld w 5 15 == 4096#15 then accept (.cancelJob (fld w 0 5)) else .error .reservedBits
  | 0x09 => if fld w 5 15 == 0#15 then accept (.ctxsv (fld w 0 5)) else .error .reservedBits
  | _ => .error .unassignedOp

/-- Major 0x02, format B. -/
def decodeBranch (w : BitVec 31) : Except DecodeError Instr :=
  match (fld w 22 4).toNat with
  | 0x00 => if fld w 16 6 == 0#6 then accept (.br (fld w 0 16)) else .error .reservedBits
  | 0x01 => accept (.brZ (fld w 16 6) (fld w 0 16))
  | 0x02 => accept (.brNz (fld w 16 6) (fld w 0 16))
  | 0x03 => if fld w 20 2 == 0#2 then accept (.brd (fld w 16 4) (fld w 0 16)) else .error .reservedBits
  | 0x04 => if fld w 20 2 == 0#2 then accept (.brdN (fld w 16 4) (fld w 0 16)) else .error .reservedBits
  | 0x05 => accept (.call (fld w 16 6) (fld w 0 16))
  | 0x06 => if fld w 0 16 == 0#16 then accept (.ret (fld w 16 6)) else .error .reservedBits
  | 0x07 => accept (.spawn (fld w 16 6) (fld w 0 16))
  | _ => .error .unassignedOp

/-- Major 0x03, format S3. -/
def decodeSalu (w : BitVec 31) : Except DecodeError Instr :=
  match (fld w 20 6).toNat with
  | 0x00 => if fld w 0 2 == 0#2 then accept (.add (fld w 14 6) (fld w 8 6) (fld w 2 6)) else .error .reservedBits
  | 0x01 => if fld w 0 2 == 0#2 then accept (.sub (fld w 14 6) (fld w 8 6) (fld w 2 6)) else .error .reservedBits
  | 0x02 => if fld w 0 2 == 0#2 then accept (.mul (fld w 14 6) (fld w 8 6) (fld w 2 6)) else .error .reservedBits
  | 0x03 => if fld w 0 2 == 0#2 then accept (.mulhiI64 (fld w 14 6) (fld w 8 6) (fld w 2 6)) else .error .reservedBits
  | 0x04 => if fld w 0 2 == 0#2 then accept (.mulhiN64 (fld w 14 6) (fld w 8 6) (fld w 2 6)) else .error .reservedBits
  | 0x05 => if fld w 0 2 == 0#2 then accept (.and (fld w 14 6) (fld w 8 6) (fld w 2 6)) else .error .reservedBits
  | 0x06 => if fld w 0 2 == 0#2 then accept (.or (fld w 14 6) (fld w 8 6) (fld w 2 6)) else .error .reservedBits
  | 0x07 => if fld w 0 2 == 0#2 then accept (.xor (fld w 14 6) (fld w 8 6) (fld w 2 6)) else .error .reservedBits
  | 0x08 => if fld w 0 2 == 0#2 then accept (.shl (fld w 14 6) (fld w 8 6) (fld w 2 6)) else .error .reservedBits
  | 0x09 => if fld w 0 2 == 0#2 then accept (.shr (fld w 14 6) (fld w 8 6) (fld w 2 6)) else .error .reservedBits
  | 0x0A => if fld w 0 2 == 0#2 then accept (.sar (fld w 14 6) (fld w 8 6) (fld w 2 6)) else .error .reservedBits
  | 0x0B => if fld w 0 2 == 0#2 then accept (.minI64 (fld w 14 6) (fld w 8 6) (fld w 2 6)) else .error .reservedBits
  | 0x0C => if fld w 0 2 == 0#2 then accept (.minN64 (fld w 14 6) (fld w 8 6) (fld w 2 6)) else .error .reservedBits
  | 0x0D => if fld w 0 2 == 0#2 then accept (.maxI64 (fld w 14 6) (fld w 8 6) (fld w 2 6)) else .error .reservedBits
  | 0x0E => if fld w 0 2 == 0#2 then accept (.maxN64 (fld w 14 6) (fld w 8 6) (fld w 2 6)) else .error .reservedBits
  | 0x0F => if fld w 0 2 == 0#2 then accept (.seq (fld w 14 6) (fld w 8 6) (fld w 2 6)) else .error .reservedBits
  | 0x10 => if fld w 0 2 == 0#2 then accept (.sltI64 (fld w 14 6) (fld w 8 6) (fld w 2 6)) else .error .reservedBits
  | 0x11 => if fld w 0 2 == 0#2 then accept (.sltN64 (fld w 14 6) (fld w 8 6) (fld w 2 6)) else .error .reservedBits
  | 0x12 => if fld w 0 8 == 0#8 then accept (.mov (fld w 14 6) (fld w 8 6)) else .error .reservedBits
  | 0x13 => if fld w 0 8 == 0#8 then accept (.popc (fld w 14 6) (fld w 8 6)) else .error .reservedBits
  | 0x14 => if fld w 0 8 == 0#8 then accept (.clz (fld w 14 6) (fld w 8 6)) else .error .reservedBits
  | 0x15 => if fld w 0 8 == 0#8 then accept (.mtos (fld w 14 6) (fld w 8 6)) else .error .reservedBits
  | 0x16 => if fld w 0 8 == 0#8 then accept (.stom (fld w 14 6) (fld w 8 6)) else .error .reservedBits
  | 0x17 => if fld w 0 2 == 0#2 then accept (.mand (fld w 14 6) (fld w 8 6) (fld w 2 6)) else .error .reservedBits
  | 0x18 => if fld w 0 2 == 0#2 then accept (.mor (fld w 14 6) (fld w 8 6) (fld w 2 6)) else .error .reservedBits
  | 0x19 => if fld w 0 2 == 0#2 then accept (.mxor (fld w 14 6) (fld w 8 6) (fld w 2 6)) else .error .reservedBits
  | 0x1A => if fld w 0 8 == 0#8 then accept (.mnot (fld w 14 6) (fld w 8 6)) else .error .reservedBits
  | _ => .error .unassignedOp

/-- Major 0x04, format SI. -/
def decodeSalui (w : BitVec 31) : Except DecodeError Instr :=
  match (fld w 22 4).toNat with
  | 0x00 => accept (.addi (fld w 16 6) (fld w 10 6) (fld w 0 10))
  | 0x01 => accept (.andi (fld w 16 6) (fld w 10 6) (fld w 0 10))
  | 0x02 => accept (.ori (fld w 16 6) (fld w 10 6) (fld w 0 10))
  | 0x03 => accept (.xori (fld w 16 6) (fld w 10 6) (fld w 0 10))
  | 0x04 => if fld w 6 4 == 0#4 then accept (.shli (fld w 16 6) (fld w 10 6) (fld w 0 6)) else .error .reservedBits
  | 0x05 => if fld w 6 4 == 0#4 then accept (.shri (fld w 16 6) (fld w 10 6) (fld w 0 6)) else .error .reservedBits
  | 0x06 => if fld w 6 4 == 0#4 then accept (.sari (fld w 16 6) (fld w 10 6) (fld w 0 6)) else .error .reservedBits
  | 0x07 => accept (.seqi (fld w 16 6) (fld w 10 6) (fld w 0 10))
  | 0x08 => accept (.sltiI64 (fld w 16 6) (fld w 10 6) (fld w 0 10))
  | 0x09 => accept (.sltiN64 (fld w 16 6) (fld w 10 6) (fld w 0 10))
  | _ => .error .unassignedOp

/-- Major 0x05, format LI. -/
def decodeLdi (w : BitVec 31) : Except DecodeError Instr :=
  match (fld w 25 1).toNat with
  | 0x00 => if fld w 16 1 == 0#1 then accept (.ldi (fld w 19 6) (fld w 17 2) (fld w 0 16)) else .error .reservedBits
  | 0x01 => if fld w 16 1 == 0#1 then accept (.ldih (fld w 19 6) (fld w 17 2) (fld w 0 16)) else .error .reservedBits
  | _ => .error .unassignedOp

/-- Major 0x06, format SR. -/
def decodeSreg (w : BitVec 31) : Except DecodeError Instr :=
  match (fld w 24 2).toNat with
  | 0x00 => if fld w 8 10 == 0#10 then accept (.srd (fld w 18 6) (fld w 0 8)) else .error .reservedBits
  | 0x01 => if fld w 8 10 == 0#10 then accept (.swr (fld w 18 6) (fld w 0 8)) else .error .reservedBits
  | _ => .error .unassignedOp

/-- Major 0x07, format SI. -/
def decodeSmem (w : BitVec 31) : Except DecodeError Instr :=
  match (fld w 22 4).toNat with
  | 0x00 => accept (.sldB64 (fld w 16 6) (fld w 10 6) (fld w 0 10))
  | 0x01 => accept (.sldN32 (fld w 16 6) (fld w 10 6) (fld w 0 10))
  | 0x02 => accept (.sldI32 (fld w 16 6) (fld w 10 6) (fld w 0 10))
  | 0x03 => accept (.sstB64 (fld w 16 6) (fld w 10 6) (fld w 0 10))
  | 0x04 => accept (.sstB32 (fld w 16 6) (fld w 10 6) (fld w 0 10))
  | 0x05 => accept (.dsld (fld w 16 6) (fld w 10 6) (fld w 0 10))
  | 0x06 => accept (.dsst (fld w 16 6) (fld w 10 6) (fld w 0 10))
  | 0x07 => accept (.sldsB64 (fld w 16 6) (fld w 10 6) (fld w 0 10))
  | 0x08 => accept (.sstsB64 (fld w 16 6) (fld w 10 6) (fld w 0 10))
  | _ => .error .unassignedOp

/-- Major 0x08, format V3. -/
def decodeVint (w : BitVec 31) : Except DecodeError Instr :=
  match (fld w 21 5).toNat with
  | 0x00 => accept (.vaddI32 (fld w 14 7) (fld w 7 7) (fld w 0 7))
  | 0x01 => accept (.vaddN32 (fld w 14 7) (fld w 7 7) (fld w 0 7))
  | 0x02 => accept (.vsubI32 (fld w 14 7) (fld w 7 7) (fld w 0 7))
  | 0x03 => accept (.vsubN32 (fld w 14 7) (fld w 7 7) (fld w 0 7))
  | 0x04 => accept (.vmulI32 (fld w 14 7) (fld w 7 7) (fld w 0 7))
  | 0x05 => accept (.vmulN32 (fld w 14 7) (fld w 7 7) (fld w 0 7))
  | 0x06 => accept (.vmulhiI32 (fld w 14 7) (fld w 7 7) (fld w 0 7))
  | 0x07 => accept (.vmulhiN32 (fld w 14 7) (fld w 7 7) (fld w 0 7))
  | 0x08 => accept (.vaddsI32 (fld w 14 7) (fld w 7 7) (fld w 0 7))
  | 0x09 => accept (.vaddsN32 (fld w 14 7) (fld w 7 7) (fld w 0 7))
  | 0x0A => accept (.vsubsI32 (fld w 14 7) (fld w 7 7) (fld w 0 7))
  | 0x0B => accept (.vsubsN32 (fld w 14 7) (fld w 7 7) (fld w 0 7))
  | 0x0C => accept (.vminI32 (fld w 14 7) (fld w 7 7) (fld w 0 7))
  | 0x0D => accept (.vminN32 (fld w 14 7) (fld w 7 7) (fld w 0 7))
  | 0x0E => accept (.vmaxI32 (fld w 14 7) (fld w 7 7) (fld w 0 7))
  | 0x0F => accept (.vmaxN32 (fld w 14 7) (fld w 7 7) (fld w 0 7))
  | 0x10 => accept (.vandB32 (fld w 14 7) (fld w 7 7) (fld w 0 7))
  | 0x11 => accept (.vorB32 (fld w 14 7) (fld w 7 7) (fld w 0 7))
  | 0x12 => accept (.vxorB32 (fld w 14 7) (fld w 7 7) (fld w 0 7))
  | 0x13 => if fld w 0 7 == 0#7 then accept (.vnotB32 (fld w 14 7) (fld w 7 7)) else .error .reservedBits
  | 0x14 => accept (.vshlB32 (fld w 14 7) (fld w 7 7) (fld w 0 7))
  | 0x15 => accept (.vshrN32 (fld w 14 7) (fld w 7 7) (fld w 0 7))
  | 0x16 => accept (.vshrI32 (fld w 14 7) (fld w 7 7) (fld w 0 7))
  | 0x17 => if fld w 0 7 == 0#7 then accept (.vpopcB32 (fld w 14 7) (fld w 7 7)) else .error .reservedBits
  | 0x18 => if fld w 0 7 == 0#7 then accept (.vclzB32 (fld w 14 7) (fld w 7 7)) else .error .reservedBits
  | _ => .error .unassignedOp

/-- Major 0x09, format V3. -/
def decodeVf32 (w : BitVec 31) : Except DecodeError Instr :=
  match (fld w 21 5).toNat with
  | 0x00 => accept (.vaddF32 (fld w 14 7) (fld w 7 7) (fld w 0 7))
  | 0x01 => accept (.vsubF32 (fld w 14 7) (fld w 7 7) (fld w 0 7))
  | 0x02 => accept (.vmulF32 (fld w 14 7) (fld w 7 7) (fld w 0 7))
  | 0x03 => accept (.vminF32 (fld w 14 7) (fld w 7 7) (fld w 0 7))
  | 0x04 => accept (.vmaxF32 (fld w 14 7) (fld w 7 7) (fld w 0 7))
  | 0x05 => accept (.vfmaF32 (fld w 14 7) (fld w 7 7) (fld w 0 7))
  | 0x06 => accept (.vfmsF32 (fld w 14 7) (fld w 7 7) (fld w 0 7))
  | 0x07 => accept (.vfnmaF32 (fld w 14 7) (fld w 7 7) (fld w 0 7))
  | 0x08 => accept (.vfnmsF32 (fld w 14 7) (fld w 7 7) (fld w 0 7))
  | 0x09 => if fld w 0 7 == 0#7 then accept (.vabsF32 (fld w 14 7) (fld w 7 7)) else .error .reservedBits
  | 0x0A => if fld w 0 7 == 0#7 then accept (.vnegF32 (fld w 14 7) (fld w 7 7)) else .error .reservedBits
  | _ => .error .unassignedOp

/-- Major 0x0A, format V3. -/
def decodeVf64 (w : BitVec 31) : Except DecodeError Instr :=
  match (fld w 21 5).toNat with
  | 0x00 => accept (.vaddF64 (fld w 14 7) (fld w 7 7) (fld w 0 7))
  | 0x01 => accept (.vsubF64 (fld w 14 7) (fld w 7 7) (fld w 0 7))
  | 0x02 => accept (.vmulF64 (fld w 14 7) (fld w 7 7) (fld w 0 7))
  | 0x03 => accept (.vminF64 (fld w 14 7) (fld w 7 7) (fld w 0 7))
  | 0x04 => accept (.vmaxF64 (fld w 14 7) (fld w 7 7) (fld w 0 7))
  | 0x05 => accept (.vfmaF64 (fld w 14 7) (fld w 7 7) (fld w 0 7))
  | 0x06 => accept (.vfmsF64 (fld w 14 7) (fld w 7 7) (fld w 0 7))
  | 0x07 => accept (.vfnmaF64 (fld w 14 7) (fld w 7 7) (fld w 0 7))
  | 0x08 => accept (.vfnmsF64 (fld w 14 7) (fld w 7 7) (fld w 0 7))
  | 0x09 => if fld w 0 7 == 0#7 then accept (.vabsF64 (fld w 14 7) (fld w 7 7)) else .error .reservedBits
  | 0x0A => if fld w 0 7 == 0#7 then accept (.vnegF64 (fld w 14 7) (fld w 7 7)) else .error .reservedBits
  | _ => .error .unassignedOp

/-- Major 0x0B, format V3. -/
def decodeVhalf (w : BitVec 31) : Except DecodeError Instr :=
  match (fld w 21 5).toNat with
  | 0x00 => accept (.vaddBf16 (fld w 14 7) (fld w 7 7) (fld w 0 7))
  | 0x01 => accept (.vsubBf16 (fld w 14 7) (fld w 7 7) (fld w 0 7))
  | 0x02 => accept (.vmulBf16 (fld w 14 7) (fld w 7 7) (fld w 0 7))
  | 0x03 => accept (.vminBf16 (fld w 14 7) (fld w 7 7) (fld w 0 7))
  | 0x04 => accept (.vmaxBf16 (fld w 14 7) (fld w 7 7) (fld w 0 7))
  | 0x05 => accept (.vfmaBf16 (fld w 14 7) (fld w 7 7) (fld w 0 7))
  | 0x06 => accept (.vfmsBf16 (fld w 14 7) (fld w 7 7) (fld w 0 7))
  | 0x07 => accept (.vfnmaBf16 (fld w 14 7) (fld w 7 7) (fld w 0 7))
  | 0x08 => accept (.vfnmsBf16 (fld w 14 7) (fld w 7 7) (fld w 0 7))
  | 0x09 => if fld w 0 7 == 0#7 then accept (.vabsBf16 (fld w 14 7) (fld w 7 7)) else .error .reservedBits
  | 0x0A => if fld w 0 7 == 0#7 then accept (.vnegBf16 (fld w 14 7) (fld w 7 7)) else .error .reservedBits
  | 0x10 => accept (.vaddF16 (fld w 14 7) (fld w 7 7) (fld w 0 7))
  | 0x11 => accept (.vsubF16 (fld w 14 7) (fld w 7 7) (fld w 0 7))
  | 0x12 => accept (.vmulF16 (fld w 14 7) (fld w 7 7) (fld w 0 7))
  | 0x13 => accept (.vminF16 (fld w 14 7) (fld w 7 7) (fld w 0 7))
  | 0x14 => accept (.vmaxF16 (fld w 14 7) (fld w 7 7) (fld w 0 7))
  | 0x15 => accept (.vfmaF16 (fld w 14 7) (fld w 7 7) (fld w 0 7))
  | 0x16 => accept (.vfmsF16 (fld w 14 7) (fld w 7 7) (fld w 0 7))
  | 0x17 => accept (.vfnmaF16 (fld w 14 7) (fld w 7 7) (fld w 0 7))
  | 0x18 => accept (.vfnmsF16 (fld w 14 7) (fld w 7 7) (fld w 0 7))
  | 0x19 => if fld w 0 7 == 0#7 then accept (.vabsF16 (fld w 14 7) (fld w 7 7)) else .error .reservedBits
  | 0x1A => if fld w 0 7 == 0#7 then accept (.vnegF16 (fld w 14 7) (fld w 7 7)) else .error .reservedBits
  | _ => .error .unassignedOp

/-- Major 0x0C, format VC. -/
def decodeVcmp (w : BitVec 31) : Except DecodeError Instr :=
  if fld w 0 1 == 0#1 then accept (.vcmp (fld w 23 3) (fld w 19 4) (fld w 15 4) (fld w 8 7) (fld w 1 7)) else .error .reservedBits

/-- Major 0x0D, format VS. -/
def decodeVsel (w : BitVec 31) : Except DecodeError Instr :=
  if fld w 0 1 == 0#1 then accept (.vsel (fld w 19 7) (fld w 12 7) (fld w 5 7) (fld w 1 4)) else .error .reservedBits

/-- Major 0x0E, format V3. -/
def decodeVcvt (w : BitVec 31) : Except DecodeError Instr :=
  match (fld w 21 5).toNat with
  | 0x00 => accept (.vcvt (fld w 14 7) (fld w 7 7) (fld w 0 7))
  | 0x01 => accept (.vqnt (fld w 14 7) (fld w 7 7) (fld w 0 7))
  | 0x02 => if fld w 0 7 == 0#7 then accept (.vcvtMov (fld w 14 7) (fld w 7 7)) else .error .reservedBits
  | 0x03 => if fld w 4 3 == 0#3 then accept (.retag (fld w 14 7) (fld w 7 7) (fld w 0 4)) else .error .reservedBits
  | 0x04 => if fld w 13 1 == 0#1 && fld w 4 3 == 0#3 then accept (.vmovs (fld w 14 7) (fld w 7 6) (fld w 0 4)) else .error .reservedBits
  | _ => .error .unassignedOp

/-- Major 0x0F, format V3. -/
def decodeVsfu (w : BitVec 31) : Except DecodeError Instr :=
  match (fld w 21 5).toNat with
  | 0x00 => if fld w 0 7 == 0#7 then accept (.vrcpF32 (fld w 14 7) (fld w 7 7)) else .error .reservedBits
  | 0x01 => if fld w 0 7 == 0#7 then accept (.vrsqF32 (fld w 14 7) (fld w 7 7)) else .error .reservedBits
  | 0x02 => if fld w 0 7 == 0#7 then accept (.vsqrtF32 (fld w 14 7) (fld w 7 7)) else .error .reservedBits
  | 0x03 => if fld w 0 7 == 0#7 then accept (.vexp2F32 (fld w 14 7) (fld w 7 7)) else .error .reservedBits
  | 0x04 => if fld w 0 7 == 0#7 then accept (.vlog2F32 (fld w 14 7) (fld w 7 7)) else .error .reservedBits
  | 0x05 => if fld w 0 7 == 0#7 then accept (.vsinF32 (fld w 14 7) (fld w 7 7)) else .error .reservedBits
  | 0x06 => if fld w 0 7 == 0#7 then accept (.vcosF32 (fld w 14 7) (fld w 7 7)) else .error .reservedBits
  | 0x07 => if fld w 0 7 == 0#7 then accept (.vtanhF32 (fld w 14 7) (fld w 7 7)) else .error .reservedBits
  | _ => .error .unassignedOp

/-- Major 0x10, format V3. -/
def decodeXlane (w : BitVec 31) : Except DecodeError Instr :=
  match (fld w 21 5).toNat with
  | 0x00 => accept (.shflIdx (fld w 14 7) (fld w 7 7) (fld w 0 7))
  | 0x01 => if fld w 6 1 == 0#1 then accept (.shflUp (fld w 14 7) (fld w 7 7) (fld w 0 6)) else .error .reservedBits
  | 0x02 => if fld w 6 1 == 0#1 then accept (.shflDn (fld w 14 7) (fld w 7 7) (fld w 0 6)) else .error .reservedBits
  | 0x03 => if fld w 6 1 == 0#1 then accept (.shflXor (fld w 14 7) (fld w 7 7) (fld w 0 6)) else .error .reservedBits
  | 0x04 => if fld w 6 1 == 0#1 then accept (.shflBc (fld w 14 7) (fld w 7 7) (fld w 0 6)) else .error .reservedBits
  | 0x05 => if fld w 20 1 == 0#1 && fld w 0 7 == 0#7 then accept (.voteAny (fld w 14 6) (fld w 7 7)) else .error .reservedBits
  | 0x06 => if fld w 20 1 == 0#1 && fld w 0 7 == 0#7 then accept (.voteAll (fld w 14 6) (fld w 7 7)) else .error .reservedBits
  | 0x07 => if fld w 20 1 == 0#1 && fld w 0 7 == 0#7 then accept (.voteBal (fld w 14 6) (fld w 7 7)) else .error .reservedBits
  | 0x08 => accept (.redl (fld w 14 7) (fld w 7 7) (fld w 0 7))
  | 0x09 => if fld w 7 7 == 0#7 then accept (.vpop (fld w 14 7) (fld w 0 7)) else .error .reservedBits
  | _ => .error .unassignedOp

/-- Major 0x11, format VM. -/
def decodeVld (w : BitVec 31) : Except DecodeError Instr :=
  match (fld w 25 1).toNat with
  | 0x00 => accept (.vld (fld w 21 4) (fld w 14 7) (fld w 7 7) (fld w 1 6) (fld w 0 1))
  | _ => .error .unassignedOp

/-- Major 0x12, format VM. -/
def decodeVst (w : BitVec 31) : Except DecodeError Instr :=
  match (fld w 25 1).toNat with
  | 0x00 => accept (.vst (fld w 21 4) (fld w 14 7) (fld w 7 7) (fld w 1 6) (fld w 0 1))
  | _ => .error .unassignedOp

/-- Major 0x13, format VM. -/
def decodeVscr (w : BitVec 31) : Except DecodeError Instr :=
  match (fld w 25 1).toNat with
  | 0x00 => accept (.vlds (fld w 21 4) (fld w 14 7) (fld w 7 7) (fld w 1 6) (fld w 0 1))
  | 0x01 => accept (.vsts (fld w 21 4) (fld w 14 7) (fld w 7 7) (fld w 1 6) (fld w 0 1))
  | _ => .error .unassignedOp

/-- Major 0x14, format V3. -/
def decodeVmisc (w : BitVec 31) : Except DecodeError Instr :=
  match (fld w 21 5).toNat with
  | 0x00 => accept (.vldpN32 (fld w 14 7) (fld w 7 7) (fld w 0 7))
  | 0x01 => if fld w 14 7 == 0#7 && fld w 0 7 == 0#7 then accept (.sevict (fld w 7 7)) else .error .reservedBits
  | 0x02 => if fld w 0 7 == 0#7 then accept (.vldtB8 (fld w 14 7) (fld w 7 7)) else .error .reservedBits
  | 0x03 => if fld w 0 7 == 0#7 then accept (.vldtB16 (fld w 14 7) (fld w 7 7)) else .error .reservedBits
  | 0x04 => if fld w 0 7 == 0#7 then accept (.vldtB32 (fld w 14 7) (fld w 7 7)) else .error .reservedBits
  | _ => .error .unassignedOp

/-- Major 0x15, format A. -/
def decodeAtom (w : BitVec 31) : Except DecodeError Instr :=
  match (fld w 23 3).toNat with
  | 0x00 => if fld w 0 2 == 0#2 then accept (.atomAdd (fld w 21 2) (fld w 18 3) (fld w 11 7) (fld w 4 7) (fld w 2 2)) else .error .reservedBits
  | 0x01 => if fld w 0 2 == 0#2 then accept (.atomMin (fld w 21 2) (fld w 18 3) (fld w 11 7) (fld w 4 7) (fld w 2 2)) else .error .reservedBits
  | 0x02 => if fld w 0 2 == 0#2 then accept (.atomMax (fld w 21 2) (fld w 18 3) (fld w 11 7) (fld w 4 7) (fld w 2 2)) else .error .reservedBits
  | 0x03 => if fld w 0 2 == 0#2 then accept (.atomAnd (fld w 21 2) (fld w 18 3) (fld w 11 7) (fld w 4 7) (fld w 2 2)) else .error .reservedBits
  | 0x04 => if fld w 0 2 == 0#2 then accept (.atomOr (fld w 21 2) (fld w 18 3) (fld w 11 7) (fld w 4 7) (fld w 2 2)) else .error .reservedBits
  | 0x05 => if fld w 0 2 == 0#2 then accept (.atomXor (fld w 21 2) (fld w 18 3) (fld w 11 7) (fld w 4 7) (fld w 2 2)) else .error .reservedBits
  | 0x06 => if fld w 0 2 == 0#2 then accept (.atomXchg (fld w 21 2) (fld w 18 3) (fld w 11 7) (fld w 4 7) (fld w 2 2)) else .error .reservedBits
  | 0x07 => if fld w 0 2 == 0#2 then accept (.atomCas (fld w 21 2) (fld w 18 3) (fld w 11 7) (fld w 4 7) (fld w 2 2)) else .error .reservedBits
  | _ => .error .unassignedOp

/-- Major 0x16, format Y. -/
def decodeSync (w : BitVec 31) : Except DecodeError Instr :=
  match (fld w 22 4).toNat with
  | 0x00 => if fld w 20 2 == 1#2 && fld w 0 17 == 0#17 then accept (.fenceAcq (fld w 17 3)) else if fld w 20 2 == 2#2 && fld w 0 17 == 0#17 then accept (.fenceRel (fld w 17 3)) else if fld w 20 2 == 3#2 && fld w 0 17 == 0#17 then accept (.fenceAr (fld w 17 3)) else .error .reservedBits
  | 0x01 => if fld w 0 16 == 0#16 then accept (.xfence (fld w 19 3) (fld w 16 3)) else .error .reservedBits
  | 0x02 => if fld w 0 9 == 0#9 then accept (.lvlq (fld w 16 6) (fld w 13 3) (fld w 9 4)) else .error .reservedBits
  | 0x03 => if fld w 16 6 == 0#6 && fld w 0 4 == 0#4 then accept (.boinit (fld w 10 6) (fld w 4 6)) else .error .reservedBits
  | 0x04 => if fld w 16 6 == 0#6 && fld w 0 4 == 0#4 then accept (.boexpect (fld w 10 6) (fld w 4 6)) else .error .reservedBits
  | 0x05 => if fld w 16 6 == 0#6 && fld w 0 4 == 0#4 then accept (.boarrive (fld w 10 6) (fld w 4 6)) else .error .reservedBits
  | 0x06 => if fld w 16 6 == 0#6 && fld w 0 4 == 0#4 then accept (.bowait (fld w 10 6) (fld w 4 6)) else .error .reservedBits
  | _ => .error .unassignedOp

/-- Major 0x17, format CH. -/
def decodeChan (w : BitVec 31) : Except DecodeError Instr :=
  match (fld w 22 4).toNat with
  | 0x00 => if fld w 16 6 == 0#6 && fld w 6 4 == 0#4 then accept (.send (fld w 10 6) (fld w 0 6)) else .error .reservedBits
  | 0x01 => if fld w 6 10 == 0#10 then accept (.recv (fld w 16 6) (fld w 0 6)) else .error .reservedBits
  | 0x02 => if fld w 6 10 == 0#10 then accept (.chwp (fld w 16 6) (fld w 0 6)) else .error .reservedBits
  | 0x03 => if fld w 16 6 == 0#6 && fld w 6 4 == 0#4 then
      if fld w 0 6 == 48#6 then accept (.dqpush (fld w 10 6)) else queueChannel (fld w 0 6) (fld w 10 6) true
    else .error .reservedBits
  | 0x04 => if fld w 6 10 == 0#10 then
      if fld w 0 6 == 48#6 then accept (.dqpop (fld w 16 6)) else queueChannel (fld w 0 6) (fld w 16 6) false
    else .error .reservedBits
  | _ => .error .unassignedOp

/-- Major 0x18, format E. -/
def decodeEng (w : BitVec 31) : Except DecodeError Instr :=
  match (fld w 21 5).toNat with
  | 0x00 => if fld w 6 10 == 0#10 && fld w 3 1 == 0#1 then accept (.trec (fld w 16 5) (fld w 4 2) (fld w 0 3)) else .error .reservedBits
  | 0x01 => if fld w 4 7 == 0#7 then accept (.mldw (fld w 16 5) (fld w 11 5) (fld w 3 1) (fld w 0 3)) else .error .reservedBits
  | 0x02 => if fld w 0 21 == 0#21 then accept (.mswap) else .error .reservedBits
  | 0x03 => if fld w 6 5 == 0#5 then accept (.mma (fld w 16 5) (fld w 11 5) (fld w 4 2) (fld w 3 1) (fld w 0 3)) else .error .reservedBits
  | 0x04 => accept (.mdrain (fld w 16 5) (fld w 11 5) (fld w 6 5) (fld w 4 2) (fld w 3 1) (fld w 0 3))
  | 0x05 => accept (.tcopy (fld w 16 5) (fld w 11 5) (fld w 6 5) (fld w 3 3) (fld w 0 3))
  | 0x06 => if fld w 3 3 == 0#3 then accept (.strm (fld w 16 5) (fld w 11 5) (fld w 6 5) (fld w 0 3)) else .error .reservedBits
  | 0x07 => if fld w 0 6 == 0#6 then accept (.nmc (fld w 16 5) (fld w 11 5) (fld w 6 5)) else .error .reservedBits
  | 0x08 => if fld w 0 6 == 0#6 then accept (.dread (fld w 16 5) (fld w 11 5) (fld w 6 5)) else .error .reservedBits
  | 0x09 => if fld w 0 6 == 0#6 then accept (.dappend (fld w 16 5) (fld w 11 5) (fld w 6 5)) else .error .reservedBits
  | _ => .error .unassignedOp

end Decoding

open Decoding in
/-- The instruction of a word without its chain bit (R54). -/
def decodeBody (w : BitVec 31) : Except DecodeError Instr :=
  match (fld w 26 5).toNat with
  | 0x01 => decodeCtl w
  | 0x02 => decodeBranch w
  | 0x03 => decodeSalu w
  | 0x04 => decodeSalui w
  | 0x05 => decodeLdi w
  | 0x06 => decodeSreg w
  | 0x07 => decodeSmem w
  | 0x08 => decodeVint w
  | 0x09 => decodeVf32 w
  | 0x0A => decodeVf64 w
  | 0x0B => decodeVhalf w
  | 0x0C => decodeVcmp w
  | 0x0D => decodeVsel w
  | 0x0E => decodeVcvt w
  | 0x0F => decodeVsfu w
  | 0x10 => decodeXlane w
  | 0x11 => decodeVld w
  | 0x12 => decodeVst w
  | 0x13 => decodeVscr w
  | 0x14 => decodeVmisc w
  | 0x15 => decodeAtom w
  | 0x16 => decodeSync w
  | 0x17 => decodeChan w
  | 0x18 => decodeEng w
  | _ => .error .unassignedMajor

/-- The chain bit of a word (R39). -/
def chainBit (w : BitVec 32) : Bool := w.getLsbD 31

/-- The instruction of a whole word, whatever its chain bit. -/
def decodeWord (w : BitVec 32) : Except DecodeError Instr := decodeBody (w.extractLsb' 0 31)

/-- The little-endian word of four bytes (R3). -/
def wordOfBytes (b0 b1 b2 b3 : BitVec 8) : BitVec 32 := b3 ++ b2 ++ b1 ++ b0

/-- The four bytes of a word, lowest address first (R3). -/
def bytesOfWord (w : BitVec 32) : List (BitVec 8) :=
  [w.extractLsb' 0 8, w.extractLsb' 8 8, w.extractLsb' 16 8, w.extractLsb' 24 8]

/-- Chain bit, instruction and the bytes that follow. -/
def decodeBytes : List (BitVec 8) → Except DecodeError (Bool × Instr × List (BitVec 8))
  | b0 :: b1 :: b2 :: b3 :: rest =>
    match decodeWord (wordOfBytes b0 b1 b2 b3) with
    | .ok i => .ok (chainBit (wordOfBytes b0 b1 b2 b3), i, rest)
    | .error e => .error e
  | _ => .error .truncated

/-- The decoder on a table word: the word is laid out as memory holds it and decoded from there. -/
def decodeTableWord (nbits w : Nat) : Option Instr :=
  match decodeBytes (bytesOfWord (BitVec.ofNat 32 (w % 2 ^ nbits))) with
  | .ok (_, i, _) => some i
  | .error _ => none

/-- The 31 bits of an instruction word; none for the rows that have no encoding. -/
def encode : Instr → Option (BitVec 31)
  | .nop => some (0x01#5 ++ 0x0#6 ++ 0x0#20)
  | .exit => some (0x01#5 ++ 0x1#6 ++ 0x0#20)
  | .gbar => some (0x01#5 ++ 0x2#6 ++ 0x0#20)
  | .ubar => some (0x01#5 ++ 0x3#6 ++ 0x0#20)
  | .wait vm sp => some (0x01#5 ++ 0x4#6 ++ 0x0#8 ++ vm ++ sp)
  | .trap code => some (0x01#5 ++ 0x5#6 ++ 0x0#4 ++ code)
  | .bkpt tag => some (0x01#5 ++ 0x6#6 ++ 0x0#4 ++ tag)
  | .rett => some (0x01#5 ++ 0x7#6 ++ 0x0#20)
  | .cancelGraph h => some (0x01#5 ++ 0x8#6 ++ 0x0#15 ++ h)
  | .cancelPhase h => some (0x01#5 ++ 0x8#6 ++ 0x800#15 ++ h)
  | .cancelJob h => some (0x01#5 ++ 0x8#6 ++ 0x1000#15 ++ h)
  | .ctxsv h => some (0x01#5 ++ 0x9#6 ++ 0x0#15 ++ h)
  | .br disp => some (0x02#5 ++ 0x0#4 ++ 0x0#6 ++ disp)
  | .brZ c disp => some (0x02#5 ++ 0x1#4 ++ c ++ disp)
  | .brNz c disp => some (0x02#5 ++ 0x2#4 ++ c ++ disp)
  | .brd m disp => some (0x02#5 ++ 0x3#4 ++ 0x0#2 ++ m ++ disp)
  | .brdN m disp => some (0x02#5 ++ 0x4#4 ++ 0x0#2 ++ m ++ disp)
  | .call link disp => some (0x02#5 ++ 0x5#4 ++ link ++ disp)
  | .ret link => some (0x02#5 ++ 0x6#4 ++ link ++ 0x0#16)
  | .spawn c disp => some (0x02#5 ++ 0x7#4 ++ c ++ disp)
  | .add d a b => some (0x03#5 ++ 0x0#6 ++ d ++ a ++ b ++ 0x0#2)
  | .sub d a b => some (0x03#5 ++ 0x1#6 ++ d ++ a ++ b ++ 0x0#2)
  | .mul d a b => some (0x03#5 ++ 0x2#6 ++ d ++ a ++ b ++ 0x0#2)
  | .mulhiI64 d a b => some (0x03#5 ++ 0x3#6 ++ d ++ a ++ b ++ 0x0#2)
  | .mulhiN64 d a b => some (0x03#5 ++ 0x4#6 ++ d ++ a ++ b ++ 0x0#2)
  | .and d a b => some (0x03#5 ++ 0x5#6 ++ d ++ a ++ b ++ 0x0#2)
  | .or d a b => some (0x03#5 ++ 0x6#6 ++ d ++ a ++ b ++ 0x0#2)
  | .xor d a b => some (0x03#5 ++ 0x7#6 ++ d ++ a ++ b ++ 0x0#2)
  | .shl d a b => some (0x03#5 ++ 0x8#6 ++ d ++ a ++ b ++ 0x0#2)
  | .shr d a b => some (0x03#5 ++ 0x9#6 ++ d ++ a ++ b ++ 0x0#2)
  | .sar d a b => some (0x03#5 ++ 0xA#6 ++ d ++ a ++ b ++ 0x0#2)
  | .minI64 d a b => some (0x03#5 ++ 0xB#6 ++ d ++ a ++ b ++ 0x0#2)
  | .minN64 d a b => some (0x03#5 ++ 0xC#6 ++ d ++ a ++ b ++ 0x0#2)
  | .maxI64 d a b => some (0x03#5 ++ 0xD#6 ++ d ++ a ++ b ++ 0x0#2)
  | .maxN64 d a b => some (0x03#5 ++ 0xE#6 ++ d ++ a ++ b ++ 0x0#2)
  | .seq d a b => some (0x03#5 ++ 0xF#6 ++ d ++ a ++ b ++ 0x0#2)
  | .sltI64 d a b => some (0x03#5 ++ 0x10#6 ++ d ++ a ++ b ++ 0x0#2)
  | .sltN64 d a b => some (0x03#5 ++ 0x11#6 ++ d ++ a ++ b ++ 0x0#2)
  | .mov d a => some (0x03#5 ++ 0x12#6 ++ d ++ a ++ 0x0#8)
  | .popc d a => some (0x03#5 ++ 0x13#6 ++ d ++ a ++ 0x0#8)
  | .clz d a => some (0x03#5 ++ 0x14#6 ++ d ++ a ++ 0x0#8)
  | .mtos d a => some (0x03#5 ++ 0x15#6 ++ d ++ a ++ 0x0#8)
  | .stom d a => some (0x03#5 ++ 0x16#6 ++ d ++ a ++ 0x0#8)
  | .mand d a b => some (0x03#5 ++ 0x17#6 ++ d ++ a ++ b ++ 0x0#2)
  | .mor d a b => some (0x03#5 ++ 0x18#6 ++ d ++ a ++ b ++ 0x0#2)
  | .mxor d a b => some (0x03#5 ++ 0x19#6 ++ d ++ a ++ b ++ 0x0#2)
  | .mnot d a => some (0x03#5 ++ 0x1A#6 ++ d ++ a ++ 0x0#8)
  | .addi d a imm => some (0x04#5 ++ 0x0#4 ++ d ++ a ++ imm)
  | .andi d a imm => some (0x04#5 ++ 0x1#4 ++ d ++ a ++ imm)
  | .ori d a imm => some (0x04#5 ++ 0x2#4 ++ d ++ a ++ imm)
  | .xori d a imm => some (0x04#5 ++ 0x3#4 ++ d ++ a ++ imm)
  | .shli d a n => some (0x04#5 ++ 0x4#4 ++ d ++ a ++ 0x0#4 ++ n)
  | .shri d a n => some (0x04#5 ++ 0x5#4 ++ d ++ a ++ 0x0#4 ++ n)
  | .sari d a n => some (0x04#5 ++ 0x6#4 ++ d ++ a ++ 0x0#4 ++ n)
  | .seqi d a imm => some (0x04#5 ++ 0x7#4 ++ d ++ a ++ imm)
  | .sltiI64 d a imm => some (0x04#5 ++ 0x8#4 ++ d ++ a ++ imm)
  | .sltiN64 d a imm => some (0x04#5 ++ 0x9#4 ++ d ++ a ++ imm)
  | .ldi d k imm => some (0x05#5 ++ 0x0#1 ++ d ++ k ++ 0x0#1 ++ imm)
  | .ldih d k imm => some (0x05#5 ++ 0x1#1 ++ d ++ k ++ 0x0#1 ++ imm)
  | .srd d num => some (0x06#5 ++ 0x0#2 ++ d ++ 0x0#10 ++ num)
  | .swr d num => some (0x06#5 ++ 0x1#2 ++ d ++ 0x0#10 ++ num)
  | .sldB64 d a imm => some (0x07#5 ++ 0x0#4 ++ d ++ a ++ imm)
  | .sldN32 d a imm => some (0x07#5 ++ 0x1#4 ++ d ++ a ++ imm)
  | .sldI32 d a imm => some (0x07#5 ++ 0x2#4 ++ d ++ a ++ imm)
  | .sstB64 d a imm => some (0x07#5 ++ 0x3#4 ++ d ++ a ++ imm)
  | .sstB32 d a imm => some (0x07#5 ++ 0x4#4 ++ d ++ a ++ imm)
  | .dsld d a imm => some (0x07#5 ++ 0x5#4 ++ d ++ a ++ imm)
  | .dsst d a imm => some (0x07#5 ++ 0x6#4 ++ d ++ a ++ imm)
  | .sldsB64 d a imm => some (0x07#5 ++ 0x7#4 ++ d ++ a ++ imm)
  | .sstsB64 d a imm => some (0x07#5 ++ 0x8#4 ++ d ++ a ++ imm)
  | .vaddI32 d a b => some (0x08#5 ++ 0x0#5 ++ d ++ a ++ b)
  | .vaddN32 d a b => some (0x08#5 ++ 0x1#5 ++ d ++ a ++ b)
  | .vsubI32 d a b => some (0x08#5 ++ 0x2#5 ++ d ++ a ++ b)
  | .vsubN32 d a b => some (0x08#5 ++ 0x3#5 ++ d ++ a ++ b)
  | .vmulI32 d a b => some (0x08#5 ++ 0x4#5 ++ d ++ a ++ b)
  | .vmulN32 d a b => some (0x08#5 ++ 0x5#5 ++ d ++ a ++ b)
  | .vmulhiI32 d a b => some (0x08#5 ++ 0x6#5 ++ d ++ a ++ b)
  | .vmulhiN32 d a b => some (0x08#5 ++ 0x7#5 ++ d ++ a ++ b)
  | .vaddsI32 d a b => some (0x08#5 ++ 0x8#5 ++ d ++ a ++ b)
  | .vaddsN32 d a b => some (0x08#5 ++ 0x9#5 ++ d ++ a ++ b)
  | .vsubsI32 d a b => some (0x08#5 ++ 0xA#5 ++ d ++ a ++ b)
  | .vsubsN32 d a b => some (0x08#5 ++ 0xB#5 ++ d ++ a ++ b)
  | .vminI32 d a b => some (0x08#5 ++ 0xC#5 ++ d ++ a ++ b)
  | .vminN32 d a b => some (0x08#5 ++ 0xD#5 ++ d ++ a ++ b)
  | .vmaxI32 d a b => some (0x08#5 ++ 0xE#5 ++ d ++ a ++ b)
  | .vmaxN32 d a b => some (0x08#5 ++ 0xF#5 ++ d ++ a ++ b)
  | .vandB32 d a b => some (0x08#5 ++ 0x10#5 ++ d ++ a ++ b)
  | .vorB32 d a b => some (0x08#5 ++ 0x11#5 ++ d ++ a ++ b)
  | .vxorB32 d a b => some (0x08#5 ++ 0x12#5 ++ d ++ a ++ b)
  | .vnotB32 d a => some (0x08#5 ++ 0x13#5 ++ d ++ a ++ 0x0#7)
  | .vshlB32 d a b => some (0x08#5 ++ 0x14#5 ++ d ++ a ++ b)
  | .vshrN32 d a b => some (0x08#5 ++ 0x15#5 ++ d ++ a ++ b)
  | .vshrI32 d a b => some (0x08#5 ++ 0x16#5 ++ d ++ a ++ b)
  | .vpopcB32 d a => some (0x08#5 ++ 0x17#5 ++ d ++ a ++ 0x0#7)
  | .vclzB32 d a => some (0x08#5 ++ 0x18#5 ++ d ++ a ++ 0x0#7)
  | .vaddF32 d a b => some (0x09#5 ++ 0x0#5 ++ d ++ a ++ b)
  | .vsubF32 d a b => some (0x09#5 ++ 0x1#5 ++ d ++ a ++ b)
  | .vmulF32 d a b => some (0x09#5 ++ 0x2#5 ++ d ++ a ++ b)
  | .vminF32 d a b => some (0x09#5 ++ 0x3#5 ++ d ++ a ++ b)
  | .vmaxF32 d a b => some (0x09#5 ++ 0x4#5 ++ d ++ a ++ b)
  | .vfmaF32 d a b => some (0x09#5 ++ 0x5#5 ++ d ++ a ++ b)
  | .vfmsF32 d a b => some (0x09#5 ++ 0x6#5 ++ d ++ a ++ b)
  | .vfnmaF32 d a b => some (0x09#5 ++ 0x7#5 ++ d ++ a ++ b)
  | .vfnmsF32 d a b => some (0x09#5 ++ 0x8#5 ++ d ++ a ++ b)
  | .vabsF32 d a => some (0x09#5 ++ 0x9#5 ++ d ++ a ++ 0x0#7)
  | .vnegF32 d a => some (0x09#5 ++ 0xA#5 ++ d ++ a ++ 0x0#7)
  | .vaddF64 d a b => some (0x0A#5 ++ 0x0#5 ++ d ++ a ++ b)
  | .vsubF64 d a b => some (0x0A#5 ++ 0x1#5 ++ d ++ a ++ b)
  | .vmulF64 d a b => some (0x0A#5 ++ 0x2#5 ++ d ++ a ++ b)
  | .vminF64 d a b => some (0x0A#5 ++ 0x3#5 ++ d ++ a ++ b)
  | .vmaxF64 d a b => some (0x0A#5 ++ 0x4#5 ++ d ++ a ++ b)
  | .vfmaF64 d a b => some (0x0A#5 ++ 0x5#5 ++ d ++ a ++ b)
  | .vfmsF64 d a b => some (0x0A#5 ++ 0x6#5 ++ d ++ a ++ b)
  | .vfnmaF64 d a b => some (0x0A#5 ++ 0x7#5 ++ d ++ a ++ b)
  | .vfnmsF64 d a b => some (0x0A#5 ++ 0x8#5 ++ d ++ a ++ b)
  | .vabsF64 d a => some (0x0A#5 ++ 0x9#5 ++ d ++ a ++ 0x0#7)
  | .vnegF64 d a => some (0x0A#5 ++ 0xA#5 ++ d ++ a ++ 0x0#7)
  | .vaddBf16 d a b => some (0x0B#5 ++ 0x0#5 ++ d ++ a ++ b)
  | .vsubBf16 d a b => some (0x0B#5 ++ 0x1#5 ++ d ++ a ++ b)
  | .vmulBf16 d a b => some (0x0B#5 ++ 0x2#5 ++ d ++ a ++ b)
  | .vminBf16 d a b => some (0x0B#5 ++ 0x3#5 ++ d ++ a ++ b)
  | .vmaxBf16 d a b => some (0x0B#5 ++ 0x4#5 ++ d ++ a ++ b)
  | .vfmaBf16 d a b => some (0x0B#5 ++ 0x5#5 ++ d ++ a ++ b)
  | .vfmsBf16 d a b => some (0x0B#5 ++ 0x6#5 ++ d ++ a ++ b)
  | .vfnmaBf16 d a b => some (0x0B#5 ++ 0x7#5 ++ d ++ a ++ b)
  | .vfnmsBf16 d a b => some (0x0B#5 ++ 0x8#5 ++ d ++ a ++ b)
  | .vabsBf16 d a => some (0x0B#5 ++ 0x9#5 ++ d ++ a ++ 0x0#7)
  | .vnegBf16 d a => some (0x0B#5 ++ 0xA#5 ++ d ++ a ++ 0x0#7)
  | .vaddF16 d a b => some (0x0B#5 ++ 0x10#5 ++ d ++ a ++ b)
  | .vsubF16 d a b => some (0x0B#5 ++ 0x11#5 ++ d ++ a ++ b)
  | .vmulF16 d a b => some (0x0B#5 ++ 0x12#5 ++ d ++ a ++ b)
  | .vminF16 d a b => some (0x0B#5 ++ 0x13#5 ++ d ++ a ++ b)
  | .vmaxF16 d a b => some (0x0B#5 ++ 0x14#5 ++ d ++ a ++ b)
  | .vfmaF16 d a b => some (0x0B#5 ++ 0x15#5 ++ d ++ a ++ b)
  | .vfmsF16 d a b => some (0x0B#5 ++ 0x16#5 ++ d ++ a ++ b)
  | .vfnmaF16 d a b => some (0x0B#5 ++ 0x17#5 ++ d ++ a ++ b)
  | .vfnmsF16 d a b => some (0x0B#5 ++ 0x18#5 ++ d ++ a ++ b)
  | .vabsF16 d a => some (0x0B#5 ++ 0x19#5 ++ d ++ a ++ 0x0#7)
  | .vnegF16 d a => some (0x0B#5 ++ 0x1A#5 ++ d ++ a ++ 0x0#7)
  | .vcmp ty cc md a b => some (0x0C#5 ++ ty ++ cc ++ md ++ a ++ b ++ 0x0#1)
  | .vsel d a b mk => some (0x0D#5 ++ d ++ a ++ b ++ mk ++ 0x0#1)
  | .vcvt d a code => some (0x0E#5 ++ 0x0#5 ++ d ++ a ++ code)
  | .vqnt d a b => some (0x0E#5 ++ 0x1#5 ++ d ++ a ++ b)
  | .vcvtMov d a => some (0x0E#5 ++ 0x2#5 ++ d ++ a ++ 0x0#7)
  | .retag d a tag => some (0x0E#5 ++ 0x3#5 ++ d ++ a ++ 0x0#3 ++ tag)
  | .vmovs d a tag => some (0x0E#5 ++ 0x4#5 ++ d ++ 0x0#1 ++ a ++ 0x0#3 ++ tag)
  | .vrcpF32 d a => some (0x0F#5 ++ 0x0#5 ++ d ++ a ++ 0x0#7)
  | .vrsqF32 d a => some (0x0F#5 ++ 0x1#5 ++ d ++ a ++ 0x0#7)
  | .vsqrtF32 d a => some (0x0F#5 ++ 0x2#5 ++ d ++ a ++ 0x0#7)
  | .vexp2F32 d a => some (0x0F#5 ++ 0x3#5 ++ d ++ a ++ 0x0#7)
  | .vlog2F32 d a => some (0x0F#5 ++ 0x4#5 ++ d ++ a ++ 0x0#7)
  | .vsinF32 d a => some (0x0F#5 ++ 0x5#5 ++ d ++ a ++ 0x0#7)
  | .vcosF32 d a => some (0x0F#5 ++ 0x6#5 ++ d ++ a ++ 0x0#7)
  | .vtanhF32 d a => some (0x0F#5 ++ 0x7#5 ++ d ++ a ++ 0x0#7)
  | .shflIdx d a b => some (0x10#5 ++ 0x0#5 ++ d ++ a ++ b)
  | .shflUp d a n => some (0x10#5 ++ 0x1#5 ++ d ++ a ++ 0x0#1 ++ n)
  | .shflDn d a n => some (0x10#5 ++ 0x2#5 ++ d ++ a ++ 0x0#1 ++ n)
  | .shflXor d a n => some (0x10#5 ++ 0x3#5 ++ d ++ a ++ 0x0#1 ++ n)
  | .shflBc d a n => some (0x10#5 ++ 0x4#5 ++ d ++ a ++ 0x0#1 ++ n)
  | .voteAny d a => some (0x10#5 ++ 0x5#5 ++ 0x0#1 ++ d ++ a ++ 0x0#7)
  | .voteAll d a => some (0x10#5 ++ 0x6#5 ++ 0x0#1 ++ d ++ a ++ 0x0#7)
  | .voteBal d a => some (0x10#5 ++ 0x7#5 ++ 0x0#1 ++ d ++ a ++ 0x0#7)
  | .redl d a code => some (0x10#5 ++ 0x8#5 ++ d ++ a ++ code)
  | .vpop d ch => some (0x10#5 ++ 0x9#5 ++ d ++ 0x0#7 ++ ch)
  | .vld ty d a b x => some (0x11#5 ++ 0x0#1 ++ ty ++ d ++ a ++ b ++ x)
  | .vst ty d a b x => some (0x12#5 ++ 0x0#1 ++ ty ++ d ++ a ++ b ++ x)
  | .vlds ty d a b x => some (0x13#5 ++ 0x0#1 ++ ty ++ d ++ a ++ b ++ x)
  | .vsts ty d a b x => some (0x13#5 ++ 0x1#1 ++ ty ++ d ++ a ++ b ++ x)
  | .vldpN32 d a b => some (0x14#5 ++ 0x0#5 ++ d ++ a ++ b)
  | .sevict a => some (0x14#5 ++ 0x1#5 ++ 0x0#7 ++ a ++ 0x0#7)
  | .vldtB8 d a => some (0x14#5 ++ 0x2#5 ++ d ++ a ++ 0x0#7)
  | .vldtB16 d a => some (0x14#5 ++ 0x3#5 ++ d ++ a ++ 0x0#7)
  | .vldtB32 d a => some (0x14#5 ++ 0x4#5 ++ d ++ a ++ 0x0#7)
  | .atomAdd ty lvl d a sp => some (0x15#5 ++ 0x0#3 ++ ty ++ lvl ++ d ++ a ++ sp ++ 0x0#2)
  | .atomMin ty lvl d a sp => some (0x15#5 ++ 0x1#3 ++ ty ++ lvl ++ d ++ a ++ sp ++ 0x0#2)
  | .atomMax ty lvl d a sp => some (0x15#5 ++ 0x2#3 ++ ty ++ lvl ++ d ++ a ++ sp ++ 0x0#2)
  | .atomAnd ty lvl d a sp => some (0x15#5 ++ 0x3#3 ++ ty ++ lvl ++ d ++ a ++ sp ++ 0x0#2)
  | .atomOr ty lvl d a sp => some (0x15#5 ++ 0x4#3 ++ ty ++ lvl ++ d ++ a ++ sp ++ 0x0#2)
  | .atomXor ty lvl d a sp => some (0x15#5 ++ 0x5#3 ++ ty ++ lvl ++ d ++ a ++ sp ++ 0x0#2)
  | .atomXchg ty lvl d a sp => some (0x15#5 ++ 0x6#3 ++ ty ++ lvl ++ d ++ a ++ sp ++ 0x0#2)
  | .atomCas ty lvl d a sp => some (0x15#5 ++ 0x7#3 ++ ty ++ lvl ++ d ++ a ++ sp ++ 0x0#2)
  | .fenceAcq lvl => some (0x16#5 ++ 0x0#4 ++ 0x1#2 ++ lvl ++ 0x0#17)
  | .fenceRel lvl => some (0x16#5 ++ 0x0#4 ++ 0x2#2 ++ lvl ++ 0x0#17)
  | .fenceAr lvl => some (0x16#5 ++ 0x0#4 ++ 0x3#2 ++ lvl ++ 0x0#17)
  | .xfence p q => some (0x16#5 ++ 0x1#4 ++ p ++ q ++ 0x0#16)
  | .lvlq d lvl f => some (0x16#5 ++ 0x2#4 ++ d ++ lvl ++ f ++ 0x0#9)
  | .boinit obj v => some (0x16#5 ++ 0x3#4 ++ 0x0#6 ++ obj ++ v ++ 0x0#4)
  | .boexpect obj v => some (0x16#5 ++ 0x4#4 ++ 0x0#6 ++ obj ++ v ++ 0x0#4)
  | .boarrive obj v => some (0x16#5 ++ 0x5#4 ++ 0x0#6 ++ obj ++ v ++ 0x0#4)
  | .bowait obj v => some (0x16#5 ++ 0x6#4 ++ 0x0#6 ++ obj ++ v ++ 0x0#4)
  | .send a ch => some (0x17#5 ++ 0x0#4 ++ 0x0#6 ++ a ++ 0x0#4 ++ ch)
  | .recv d ch => some (0x17#5 ++ 0x1#4 ++ d ++ 0x0#10 ++ ch)
  | .chwp d ch => some (0x17#5 ++ 0x2#4 ++ d ++ 0x0#10 ++ ch)
  | .dqpush a => some (0x17#5 ++ 0x3#4 ++ 0x0#6 ++ a ++ 0x30#10)
  | .dqpop d => some (0x17#5 ++ 0x4#4 ++ d ++ 0x30#16)
  | .trec a space slot => some (0x18#5 ++ 0x0#5 ++ a ++ 0x0#10 ++ space ++ 0x0#1 ++ slot)
  | .mldw a b arr slot => some (0x18#5 ++ 0x1#5 ++ a ++ b ++ 0x0#7 ++ arr ++ slot)
  | .mswap => some (0x18#5 ++ 0x2#5 ++ 0x0#21)
  | .mma a b tile arr slot => some (0x18#5 ++ 0x3#5 ++ a ++ b ++ 0x0#5 ++ tile ++ arr ++ slot)
  | .mdrain a b c tile arr slot => some (0x18#5 ++ 0x4#5 ++ a ++ b ++ c ++ tile ++ arr ++ slot)
  | .tcopy a b c dst src => some (0x18#5 ++ 0x5#5 ++ a ++ b ++ c ++ dst ++ src)
  | .strm a b c slot => some (0x18#5 ++ 0x6#5 ++ a ++ b ++ c ++ 0x0#3 ++ slot)
  | .nmc a b c => some (0x18#5 ++ 0x7#5 ++ a ++ b ++ c ++ 0x0#6)
  | .dread a b c => some (0x18#5 ++ 0x8#5 ++ a ++ b ++ c ++ 0x0#6)
  | .dappend a b c => some (0x18#5 ++ 0x9#5 ++ a ++ b ++ c ++ 0x0#6)
  | .splitRaise _ _ _ => none
  | .gangContextFree _ _ => none
  | .gangBarrierComplete _ _ => none
  | .unitBarrierComplete _ => none
  | .unitEnd _ => none
  | .loadReturn _ _ _ _ _ => none
  | .permuteComplete _ _ _ => none
  | .writeAtHome _ _ => none
  | .forwardedWriteApply _ _ => none
  | .remoteWrite _ _ => none
  | .atomicAtSite _ _ _ _ => none
  | .atomicopCompletion _ _ _ _ _ => none
  | .seamClaimRequest _ _ _ => none
  | .seamRecall _ _ => none
  | .recallComplete _ => none
  | .claimRelease _ _ => none
  | .seamBlockFill _ _ _ => none
  | .dressingCacheEviction _ _ _ => none
  | .seamWritebackAck _ _ => none
  | .firstTouchService _ _ => none
  | .tileCommandStart _ _ => none
  | .tileCommandComplete _ _ => none
  | .engineFault _ _ => none
  | .tcopyElementWrite _ _ _ => none
  | .streamSectorFetch _ _ => none
  | .nmcStart _ => none
  | .nmcSubcommandComplete _ _ _ _ => none
  | .deepPageFetchComplete _ _ _ => none
  | .dappendExecute _ => none
  | .dappendDurable _ => none
  | .preemption _ _ => none
  | .sqTail _ _ => none
  | .sqBase _ _ => none
  | .sqSize _ _ => none
  | .sqEnable _ _ => none
  | .sqDisable _ _ => none
  | .ctxDesc _ => none
  | .xltInvPage _ => none
  | .xltInvAll _ => none
  | .xltInvComplete => none
  | .migReqHbm _ => none
  | .migReqLpddr _ => none
  | .migrationLineMove _ => none
  | .sltBindDispatch _ _ _ _ _ _ => none
  | .sltBindRestore _ _ => none
  | .qpoolLim _ _ _ => none
  | .fsplit _ => none
  | .frBase _ => none
  | .frSize _ => none
  | .frAckVerdict0 _ => none
  | .frAckVerdict1 _ => none
  | .dlogTrim _ => none
  | .dlogCtl _ => none
  | .compactionComplete _ => none
  | .hbmPwrcfg _ => none
  | .pwrCtl _ => none
  | .registerWrite _ _ => none
  | .powerMeasurement _ _ _ => none
  | .powerDownEntry _ => none
  | .selfRefreshEntry _ => none
  | .pseudoChannelWake _ => none
  | .pseudoChannelExitComplete _ => none
  | .jobAccept _ => none
  | .nodeStart _ _ => none
  | .waitNodePoll _ _ => none
  | .nodeFinish _ _ => none
  | .packageReset => none
  | .linkTrainingTimeout _ => none
  | .linkAuthentication _ _ _ => none
  | .surveyMessage _ _ => none
  | .surveyCollect => none
  | .podSurvey _ _ => none
  | .linkLoss _ => none
  | .vexlisDataFlit _ _ _ _ _ => none
  | .vexlisAckFlit _ _ => none
  | .vexlisReplayRequest _ _ => none
  | .vexlisKeyRetire _ _ _ => none
  | .vexlisIdleFlit _ _ => none
  | .keyRollover _ => none
  | .wavelengthLockLoss _ _ => none
  | .wavelengthRetry _ _ _ => none
  | .hostAtomicop _ _ _ _ _ => none
  | .hostBar2Write _ _ => none
  | .singleBitError _ _ _ => none
  | .doubleBitError _ _ _ _ => none
  | .hbmRowSparing _ _ => none
  | .carrierPowerLoss => none
  | .packageRemoval _ => none
  | .storeAcknowledged _ _ => none
  | .dreadStart _ => none
  | .frHead _ => none
  | .recoveryImageLoad _ => none

/-- The whole word with a chain bit. -/
def encodeWord (chain : Bool) (i : Instr) : Option (BitVec 32) :=
  (encode i).map fun b => BitVec.ofBool chain ++ b

end Sys2Proof
end

