-- ==== Sys2Proof/Word.lean ====
section
/-! DEFINITION. The word types of the Damren D9 (R3, R9, R11, R14, R39). -/

namespace Sys2Proof

/-- A byte of memory. -/
abbrev Byte := BitVec 8
/-- A vector register or an instruction word. -/
abbrev Word := BitVec 32
/-- A scalar register, a mask, an address. -/
abbrev DWord := BitVec 64

end Sys2Proof
end

