-- ==== Sys2Proof/Config.lean ====
section
/-! DEFINITION. What is fixed for one device, and the free values: constants without a body, of which nothing can be proved, for what the manual leaves open. -/

namespace Sys2Proof

/-- A move of the environment. -/
inductive EnvAct where
  /-- one arithmetic cycle of core `c` (R4, R298, R299) -/
  | cycle (c : Nat)
  /-- one event of the operation table; a term that is an instruction word is no move -/
  | event (i : Instr)
  /-- core `c` drops its L1 copy of the sector of the location with key `k` (R244) -/
  | dropL1 (c k : Nat)
  /-- layer `y` drops its copy of the line of device address `pa` (R246) -/
  | dropLayer (y pa : Nat)
  /-- core `c` drops the TLB entry of the page at `va`, the hub when `c` is 768 or more (R306) -/
  | dropTlb (c va : Nat)
  deriving DecidableEq, Repr

namespace Config

/-- FREE: the moves the environment makes when the model draws for the `n`-th time (assumption 1). -/
opaque schedule (n : Nat) : List EnvAct

/-- FREE: which result within the accuracy of R165 function `fn` gives for source `x` (assumption 12). -/
opaque sfuPick (fn : Nat) (x : Word) : Nat

/-- FREE: whether weight (k, n) of a plane whose MLDW faulted holds the loaded value (R209, assumption 13). -/
opaque faultedWeightKept (cmd k n : Nat) : Bool

/-- FREE: a scratchpad byte of a failed deep page: `none` the old byte, otherwise a byte of a failed fetch (R226, assumption 21). -/
opaque failedPageByte (cmd page off : Nat) : Option Byte

/-- FREE: which value a racing element of an overlapping SCALE_ADD reads: before or after its own update (R223, assumption 22). -/
opaque overlapReadsNew (cmd elem : Nat) : Bool

/-- FREE: the links of the package, as pairs of die indices (R354, R357, assumption 20). -/
opaque links : List (Nat × Nat)

/-- FREE: whether a die's self-test passes at boot `epoch` (R357, assumption 20). -/
opaque selfTest (epoch die : Nat) : Bool

/-- FREE: cores of a compute layer that pass the survey at boot `epoch` (R355, assumption 20). -/
opaque coresFound (epoch layer : Nat) : Nat

/-- FREE: the failed residue channel (0: 511, 1: 512, 2: 513) of a core's array, if any, at boot `epoch` (R104, R361, assumption 20). -/
opaque arrayChannel (epoch core : Nat) : Option Nat

/-- FREE: the Miryen image passes its check at boot `epoch` (R357, assumption 20). -/
opaque imageOk (epoch : Nat) : Bool

/-- FREE: lanes, and rate in GT/s, that a host link has trained to at boot `epoch`, where they are narrower or slower than ×16 at 128 GT/s (R369, assumption 118). -/
opaque linkTrained (epoch link : Nat) : Nat × Nat

/-- FREE: the root complex completes AtomicOps (R370, assumption 20). -/
opaque rootAtomics (epoch : Nat) : Bool

/-- FREE: which of the stacks of a device a 256-byte unit of its HBM4E addresses is hashed to, modulo their number (R242, assumption 20). -/
opaque stackOf (unit : Nat) : Nat

/-- FREE: the free page Miryen takes in a tier for its `n`-th migration: none when the tier is full (R320, assumption 27). -/
opaque freePage (tier n : Nat) : Option Nat

/-- FREE: when Miryen starts a compaction: the threshold of `phys` (R350, assumption 28). -/
opaque compactBelow : Nat

/-- FREE: which page of an append becomes durable next, of `left` (R227, R348, assumption 29). -/
opaque appendOrder (cmd left : Nat) : Nat

/-- FREE: die, severity and detail (0, 1, 2) of an error record for which the manual does not give them (R372, assumption 30). -/
opaque errorField (field n : Nat) : Nat

/-- FREE: what a register shows of a count that its field cannot hold (R349, assumption 31). -/
opaque wideField (x : Nat) : Nat

/-- FREE: the port by which traffic to a package leaves, of `n` that are up (R362, assumption 32). -/
opaque portTo (pkg n : Nat) : Nat

/-- FREE: how many of the latest writes of other paths a read by operation `id` at address `a` has not seen, at draw `tick` (R266, assumption 85). -/
opaque pastPick (tick id a : Nat) : Nat

/-- FREE: the lanes of permute `id` that complete next, with `left` of them still to come (R169, assumption 86). -/
opaque permuteLanes (id left : Nat) : BitVec 64

/-- FREE: the pseudo-channel of its stack that a 256-byte unit of HBM4E addresses is hashed to, modulo 64: R242 gives no hash (assumption 101). -/
opaque channelIn (unit : Nat) : Nat

/-- FREE: whether access number `n` to an HBM4E address reaches the memory controller, or the hub cache serves it (assumption 101). -/
opaque reaches (n pa : Nat) : Bool

/-- FREE: where Miryen keeps the argument block (`part` 0), the route table (1) or the record itself (2) of a unit it places: in units of 64 bytes, less one; the manual gives no place (assumption 47). -/
opaque bindPart (part n : Nat) : BitVec 57

/-- Overwritten values that are remembered (assumption 85). -/
def pastWrites : Nat := 1024
/-- Lines of 128 bytes an L1 holds, 128 KiB (R2, R244). -/
def l1Lines : Nat := 1024
/-- Bytes of decoded blocks a dressing cache holds (R2, R245). -/
def dressBytes : Nat := 65536
/-- Sectors a layer cache holds, 32 MiB (R2, R246). -/
def layerSectors : Nat := 1048576
/-- Physical pages of the flash, 32 TB in pages of 4 KiB (R2, R345). -/
def flashPages : Nat := 7812500000
/-- Implementation maximum gang width (R30 `lanemax`). -/
def laneMax : Nat := 64
/-- Cores of one layer (R36). -/
def coresPerLayer : Nat := 48
/-- Bytes of a core's scratchpad (R2, R78). -/
def spadBytes : Nat := 393216
/-- Entries of a core's queue pool (R296). -/
def poolEntries : Nat := 4096
/-- Elements of a spill stack (R24). -/
def spillDepth : Nat := 32
/-- Gang contexts of a core (R16). -/
def gangContexts : Nat := 128
/-- HBM4E bytes of one stack, 64 GB (R2, R360). -/
def stackBytes : Nat := 64000000000
/-- LPDDR-6 starts at offset 1 TiB and holds 2 TB (R304). -/
def lpddrBase : Nat := 0x10000000000
/-- LPDDR-6 bytes, 2 TB (R2, R304). -/
def lpddrBytes : Nat := 2000000000000
/-- This package's number in device physical addresses (R304), assumption 7. -/
def package : Nat := 0
/-- Bytes of the peer-window region (R301). -/
def peerWindowBytes : Nat := 134217728
/-- Idle count at which a split is raised (R26). -/
def raiseAt : Nat := 4096
/-- Entries of the error-record buffer (R372). -/
def errorRecords : Nat := 4096
/-- Flits a Vexlis replay buffer holds (R365). -/
def replayFlits : Nat := 2048

end Config

end Sys2Proof
end

