-- ==== Sys2Proof/Machine/Sparse.lean ====
section
/-! DEFINITION. Sparse data by number: a list of keys and values with rising keys (R8 state is mostly at its created value, so only what differs is listed). -/

namespace Sys2Proof.Machine

/-- Values by key, keys strictly rising. -/
abbrev SMap (α : Type) := List (Nat × α)

/-- The value listed at `k`. -/
def mfind {α : Type} : SMap α → Nat → Option α
  | [], _ => none
  | (j, v) :: t, k => if j = k then some v else mfind t k

/-- The value at `k`, `d` where nothing is listed. -/
def mget {α : Type} (d : α) (m : SMap α) (k : Nat) : α := (mfind m k).getD d

/-- Without the entry at `k`. -/
def merase {α : Type} : SMap α → Nat → SMap α
  | [], _ => []
  | (j, v) :: t, k => if j = k then merase t k else (j, v) :: merase t k

/-- Lists `v` at `k` before the first larger key. -/
def minsert {α : Type} : SMap α → Nat → α → SMap α
  | [], k, v => [(k, v)]
  | (j, w) :: t, k, v => if k < j then (k, v) :: (j, w) :: t else (j, w) :: minsert t k v

/-- `v` at `k`, every other entry as before. -/
def mput {α : Type} (m : SMap α) (k : Nat) (v : α) : SMap α := minsert (merase m k) k v

/-- `v` at `k`; the value an unlisted key has is not listed. -/
def mset {α : Type} [DecidableEq α] (d : α) (m : SMap α) (k : Nat) (v : α) : SMap α :=
  if v = d then merase m k else mput m k v

/-- Applies `f` at `k` where something is listed. -/
def mmodify {α : Type} (m : SMap α) (k : Nat) (f : α → α) : SMap α :=
  match mfind m k with
  | some v => mput m k (f v)
  | none => m

/-- Keys strictly rising. -/
def rising {α : Type} : SMap α → Bool
  | [] => true
  | [_] => true
  | (j, _) :: (k, w) :: t => decide (j < k) && rising ((k, w) :: t)

/-- The canonical form with unlisted value `d`: rising keys, nothing listed that equals `d`. -/
def canonical {α : Type} [DecidableEq α] (d : α) (m : SMap α) : Bool :=
  rising m && m.all fun p => decide (p.2 ≠ d)

end Sys2Proof.Machine
end

