-- ==== Sys2Proof/Machine/State.lean ====
section
/-! DEFINITION. The state of the device as plain data, holder by holder (R8), and its value after reset. Sparse fields (SMap) list only what differs from the value a holder is created with. -/

namespace Sys2Proof.Machine

/-- Why a step stops. -/
inductive Fault where
  /-- `exec` was called on an instruction word while `cur` names no stream that exists; `step` never does so. Safe. -/
  | noIssuer
  deriving DecidableEq, Repr

/-- Why an instruction has no meaning. -/
inductive Refusal where
  /-- raised by an arm of `exec` whose instruction is not modelled; safe -/
  | notModelled (mnemonic : String)
  deriving DecidableEq, Repr

/-- The trap codes of R312, 1 to 17. -/
inductive TrapCode where
  | undefinedInstruction | illegalChain | privilege | formatTag | misaligned | translation | protection
  | poisonedData | atomicOnSeam | seamMalformed | divergenceOverflow | residueRange
  | unimplementedCombination | channelUnavailable | breakpoint | softwareTrap | nestedTrap
  deriving DecidableEq, Repr

/-- The format tags of R17. -/
inductive Tag where
  | raw | f32 | f64 | bf16x2 | f16x2 | i32 | n32 | i16x2 | n16x2 | i8x4 | n8x4 | i4x8 | rt | mask
  deriving DecidableEq, Repr

/-- A vector register of one lane (R14). -/
structure VReg where
  bits : Word := 0
  tag : Tag := .raw
  deriving DecidableEq, Repr

/-- States of a split-table entry (R20). -/
inductive SplitState where
  | free | ready | waiting | demoted | trap
  deriving DecidableEq, Repr

/-- The barrier word an entry waits at (R146, R147): which, the place after it, whether other words are chained with it;
`passed`: its barrier has completed and the chain is to issue. The model's own. -/
inductive Barrier where
  | none
  | gang (ip : Word) (wd : Nat) (chained : Bool)
  | unit (ip : Word) (wd : Nat) (chained : Bool)
  | passed
  deriving DecidableEq, Repr

/-- One split-table entry (R20). `vm`, `sp` name the outstanding operations that `vmcnt` and `spcnt` count (R25, R27). -/
structure Split where
  mask : DWord := 0
  ip : Word := 0
  wd : Nat := 0
  state : SplitState := .free
  dpos : Nat := 0
  raised : Bool := false
  idle : Nat := 0
  bar : Barrier := .none
  vm : List Nat := []
  sp : List Nat := []
  fpctl : BitVec 8 := 0
  fpflags : BitVec 8 := 0
  deriving DecidableEq, Repr

/-- An element of the divergence spill stack (R24). -/
structure Spill where
  mask : DWord
  ip : Word
  fpctl : BitVec 8
  fpflags : BitVec 8
  deriving DecidableEq, Repr

/-- Registers of a gang (R11, R14): `v` is keyed by 64 * register + lane. -/
structure GangRegs where
  s : SMap DWord := []
  m : SMap DWord := []
  v : SMap VReg := []
  deriving DecidableEq, Repr

/-- Where the bytes of an access lie (R238, R239). -/
inductive Loc where
  /-- HBM4E or LPDDR-6, by device physical address (R304) -/
  | dev (pa : Nat)
  /-- host memory, by bus address -/
  | host (addr : Nat)
  /-- the unit's own scratchpad, by offset in the whole scratchpad of its core -/
  | spad (core off : Nat)
  /-- the scratchpad of another unit through the peer window (R186), by offset in the whole scratchpad of its core -/
  | peer (core off : Nat)
  /-- an element of seam array `sidx`: block, element in the block -/
  | seam (sidx blk elem : Nat)
  deriving DecidableEq, Repr

/-- What an outstanding operation does with the bytes it receives. -/
inductive OpKind where
  /-- vector load into `v(d)` with the type code of R66 -/
  | load (d : Nat) (ty : BitVec 4)
  /-- scalar load into `s(d)` or `h(d)`: code 0 B64, 1 N32, 2 I32 -/
  | scalar (d : Nat) (form : Nat)
  /-- polling load (R188): compare operands by lane -/
  | poll (d : Nat) (cmp : SMap Word)
  /-- atomic (R190): operation, type code, operand and new value by lane -/
  | atom (d : Nat) (op : Nat) (ty : BitVec 2) (x new : SMap DWord)
  /-- values captured at issue, to be written when the operation returns (scratchpad loads, VLDT) -/
  | captured
  /-- a permute (R169): values captured at issue, for the destination registers `ds` -/
  | permute (ds : List Nat)
  /-- write-back of seam blocks (R198), by block storage address -/
  | sevict
  deriving DecidableEq, Repr

/-- Which counter counts an operation (R27, R133). -/
inductive Cls where
  | vm | sp | lm
  deriving DecidableEq, Repr

/-- Where an atomic is performed (R191). -/
inductive Site where
  | layer | home | owner | root
  deriving DecidableEq, Repr

/-- One access of an outstanding operation: lane (64: the whole split or the lead), place, size, the address R177 forms,
the register writes captured when it was performed (`done`), the site of an atomic, a fault found when it was performed. -/
structure Acc where
  lane : Nat
  loc : Loc
  size : Nat := 4
  addr : DWord := 0
  writes : List (Nat × VReg) := []
  scalar : Option DWord := none
  site : Site := .layer
  done : Bool := false
  bad : Option TrapCode := none
  deriving DecidableEq, Repr

/-- An operation whose result has not wholly returned (R27): `mask`: its lanes that have not exited since (R143); `lanes`: those that issued it. -/
structure Op where
  id : Nat
  cls : Cls
  kind : OpKind
  mask : DWord
  accs : List Acc
  after : List Nat := []
  good : Bool := false
  okLanes : DWord := 0
  lanes : DWord := 0
  deriving DecidableEq, Repr

/-- A fault found after issue and not yet taken (R179). -/
structure Late where
  lane : Nat
  code : TrapCode
  addr : DWord
  deriving DecidableEq, Repr

/-- A gang (R8): width, the slices it occupies (8 * column + slice, R16), registers, split table (key 4 is the trap entry), spill stack
(top first), trap registers, outstanding operations; `snap`, `freeAt`, `depthAt`: registers, free entries and depth of the spill stack when the cycle began; `badRegs`: vector registers with an uncorrectable error that no lane has read, by 64 * register + lane (R372). -/
structure Gang where
  width : Nat
  slices : List Nat := []
  regs : GangRegs := {}
  snap : Option GangRegs := none
  freeAt : Option (List Nat) := none
  depthAt : Option Nat := none
  split : SMap Split := []
  spill : List Spill := []
  tcode : BitVec 5 := 0
  tip : Word := 0
  twd : Nat := 0
  tmask : DWord := 0
  taddr : SMap DWord := []
  ops : List Op := []
  late : List Late := []
  badRegs : List Nat := []
  ended : Bool := false
  deriving DecidableEq, Repr

/-- The lead's state (R144). -/
inductive LeadState where
  | running | waiting | stopped
  deriving DecidableEq, Repr

/-- The lead context (R9). `trapped`: a lead trap taken, with its code or tag, until the unit is pre-empted (R317).
`devWait`: a DSST to XLT_INV is complete only when the invalidation is (R307). -/
structure Lead where
  h : SMap DWord := []
  hsnap : Option (SMap DWord) := none
  lip : Word := 0
  lwd : Nat := 0
  state : LeadState := .running
  ops : List Op := []
  late : Option Late := none
  trapped : Option (TrapCode × DWord) := none
  devWait : Bool := false
  deriving DecidableEq, Repr

/-- A kernel-table entry (R290); register counts written out. -/
structure Kte where
  gang : Bool := false
  sregs : Nat := 16
  vregs : Nat := 32
  scratch : Nat := 0
  gip : Word := 0
  lip : Word := 0
  cbase : DWord := 0
  deriving DecidableEq, Repr

/-- A bind record (R291) without its queue limits. -/
structure Bind where
  tlbsets : Nat := 1
  tlbbase : Nat := 0
  cohort : Bool := false
  sys : Bool := false
  mgrant : Bool := false
  wcode : Nat := 0
  glimit : Nat := 0
  ngang0 : Nat := 0
  spbase : Nat := 0
  handle : DWord := 0
  routes : DWord := 0
  args : DWord := 0
  kte : DWord := 0
  deriving DecidableEq, Repr

/-- Cap and minimum of one queue class (R292). -/
structure Limit where
  cap : Nat := 0
  min : Nat := 0
  deriving DecidableEq, Repr

/-- Queue limits of a unit (R292): operand, engine, port, decision. -/
structure Qlim where
  operand : Limit := {}
  engine : Limit := {}
  port : Limit := {}
  decision : Limit := {}
  deriving DecidableEq, Repr

/-- A physical route of a port (R291): core of the layer, slot, port. -/
structure Route where
  core : Nat
  slot : Nat
  port : Nat
  deriving DecidableEq, Repr

/-- Copy-channel state (R220). -/
structure Chan where
  ptr : Nat := 0
  stopped : Bool := false
  deriving DecidableEq, Repr

/-- Which engine runs a command (R206). -/
inductive Engine where
  | tile | stream | near | deep
  deriving DecidableEq, Repr

/-- The operation of an engine command. -/
inductive CmdOp where
  | mldw | mswap | mma (tile : Nat) | mdrain (tile : Nat) | tcopy | strm | nmc | dread | dappend
  deriving DecidableEq, Repr

/-- Progress of a command; `done`: discarded, it stays for its own writes and then makes its arrival (R208, R209). -/
inductive CmdState where
  | queued | started | done
  deriving DecidableEq, Repr

/-- An accepted engine command: the records copied from its slots and the `h` operands read when it issued (R206); parts done and parts sent;
`err`: a fault found for it (`bad`), its code plus 32 times the address; `info`: offset of an addend box, or the operand queue of a STRM; `obj`: scratchpad offset of the
barrier object it arrives at. -/
structure Cmd where
  id : Nat
  op : CmdOp
  recs : List (BitVec 512) := []
  a : DWord := 0
  b : DWord := 0
  c : DWord := 0
  state : CmdState := .queued
  progress : List Nat := []
  sub : List Nat := []
  bad : Bool := false
  err : Nat := 0
  info : DWord := 0
  obj : Option Nat := none
  began : Nat := 0
  flags : Option (List Nat) := none
  deriving DecidableEq, Repr

/-- An element of an operand queue (R175, R221): bits and tag, and the address it was fetched from, while it is known (R339); `stale`: it is to be fetched again
(R197). -/
structure QElem where
  r : VReg := {}
  addr : Option DWord := none
  stale : Bool := false
  deriving DecidableEq, Repr

/-- An operand queue (R175, R221), oldest first. -/
structure OpQueue where
  elems : List QElem := []
  deriving DecidableEq, Repr

/-- Tags of the planes, format codes (R100) of their weights, tags and pass counts of the tiles, as they stand for the checks made at issue (R213). -/
structure IssueMx where
  active : Tag := .raw
  shadow : Tag := .raw
  activeCode : Nat := 0
  shadowCode : Nat := 0
  tiles : List (Tag × Nat) := [(.raw, 0), (.raw, 0), (.raw, 0), (.raw, 0)]
  deriving DecidableEq, Repr

/-- Where a unit comes from: job number and node number; unit index (R282). -/
structure Origin where
  job : Nat := 0
  node : Nat := 0
  index : Nat := 0
  deriving DecidableEq, Repr

/-- A save asked for by CTXSV: the save area and where `stat` of the request lies (R235). -/
structure SaveReq where
  area : DWord
  stat : Option Nat := none
  deriving DecidableEq, Repr

/-- A resident unit (R8). `efault`: an engine fault the lead has not yet taken (R209); `fault`: one recorded after the lead stopped;
`ending`: the recorded fault a unit that stops ends with (R316, R372); `cancel`: it stops unsaved (R234, R235), and where the `stat` of the
CTXSV that asked lies; `save`: it is to be saved (R235, R323); `parked`: its streams do not issue (R288, R324); `back`: restored, it waits for the rest of its
cohort (R324); `miryen`: Miryen wrote its bind record (R291); `table`: the logical route table of a cohort member that
waits for the others (R281, R288); `badVals`: poisoned values in its queues (R318, R372), by queue (0 decision, 1 + p port p, 64 + k operand queue k) and place. -/
structure Unit where
  kte : Kte := {}
  bind : Bind := {}
  qlim : Qlim := {}
  routes : SMap Route := []
  table : SMap (Nat × Nat) := []
  lead : Lead := {}
  gangs : SMap Gang := []
  slots : SMap (BitVec 512) := []
  chans : SMap Chan := []
  dq : List DWord := []
  ports : SMap (List DWord) := []
  opq : SMap OpQueue := []
  cmds : List Cmd := []
  imx : IssueMx := {}
  efault : Option (TrapCode × DWord) := none
  fault : Option TrapCode := none
  ending : Option TrapCode := none
  cancel : Bool := false
  cancelStat : Option Nat := none
  save : Option SaveReq := none
  parked : Bool := false
  back : Bool := false
  miryen : Bool := false
  badVals : List (Nat × Nat) := []
  origin : Option Origin := none
  deriving DecidableEq, Repr

/-- The launch a unit belongs to: handle of its node, and its job when it has one (R287, R291). -/
structure Launch where
  handle : DWord := 0
  job : Option Nat := none
  deriving DecidableEq, Repr

/-- A weight plane (R33): weights by 128 * row + column. -/
structure Plane where
  tag : Tag := .raw
  w : SMap Int := []
  nan : SMap Bool := []
  deriving DecidableEq, Repr

/-- An accumulator tile (R33): triples by 128 * row + column. -/
structure Tile where
  tag : Tag := .raw
  t : SMap (BitVec 28) := []
  nan : SMap Bool := []
  passes : Nat := 0
  deriving DecidableEq, Repr

/-- The matrix state of a core (R33). -/
structure Matrix where
  plane0 : Plane := {}
  plane1 : Plane := {}
  sel : Bool := false
  tiles : SMap Tile := []
  deriving DecidableEq, Repr

/-- Whose access it is: unit, gang (32: the lead), lanes. -/
structure Who where
  u : Nat
  g : Nat
  mask : DWord
  deriving DecidableEq, Repr

/-- Where a write goes. -/
inductive Dest where
  | dev | host | peer (core : Nat)
  deriving DecidableEq, Repr

/-- A store in a core's memory port that the layer cache has not acknowledged (R244): its bytes by address,
whether it may clear poison (R319), the loads of its stream it must not pass (R181), and its lanes with their addresses, 64 a scalar store's. -/
structure PortReq where
  id : Nat
  who : Who
  dest : Dest
  bytes : SMap Byte
  pm : Bool := false
  after : List Nat := []
  lanes : List (Nat × DWord) := []
  deriving DecidableEq, Repr

/-- A vector clock (R249). -/
abbrev Clock := SMap Nat

/-- A write a layer cache has sent beyond itself (R246, R249). -/
structure Wr where
  id : Nat
  who : Who
  bytes : SMap Byte
  pm : Bool := false
  stamp : Clock
  deriving DecidableEq, Repr

/-- A forwarded write waiting at a layer cache (R249), with the layer that sent it home. -/
structure Fwd where
  src : Nat
  bytes : SMap Byte
  stamp : Clock
  deriving DecidableEq, Repr

/-- A layer cache (R246, R249): copies by sector, its clock, writes not yet at home, forwarded writes not yet applied. -/
structure LayerCache where
  copies : SMap (BitVec 256) := []
  clock : Clock := []
  out : List Wr := []
  inq : List Fwd := []
  deriving DecidableEq, Repr

/-- A decoded seam block in a dressing cache (R245): the record's form as it was decoded by, for each slot the slot its padding
takes its value from (R112), the storage address of each byte, the decoded values. -/
structure Block where
  sidx : Nat
  blk : Nat
  d : Nat
  rate : Nat
  fin : Bool
  pad : List Nat
  phys : List Nat
  elems : List Word
  claimed : Bool
  dirty : Bool
  unit : Nat := 0
  deriving DecidableEq, Repr

/-- A seam store kept in the coalescer until its block is claimed (R251). -/
structure SeamStore where
  id : Nat
  who : Who
  sidx : Nat
  blk : Nat
  elem : Nat
  addr : DWord
  value : Word
  deriving DecidableEq, Repr

/-- A block's write-back not yet acknowledged at its home (R123, R253); `release`: the claim goes with it; `clip`: the record's bit is set with it (R109). -/
structure WriteBack where
  saddr : Nat
  bytes : SMap Byte
  release : Bool
  sidx : Nat := 0
  blk : Nat := 0
  unit : Nat := 0
  clip : Bool := false
  deriving DecidableEq, Repr

/-- A cached translation (R306): the unit whose sets hold it (R295), page number in 64 KiB units of its first page, pages covered, the leaf entry. -/
structure TlbEntry where
  own : Nat
  vpn : Nat
  pages : Nat
  leaf : DWord
  deriving DecidableEq, Repr

/-- A core (R8). `spadSnap`: its scratchpad as the earlier cycles left it, while a cycle is in progress (R201).
`vheld`: cycles for which a slice's V pipe is still held by an F64 word (R155), by 8 * column + slice. -/
structure Core where
  mx : Matrix := {}
  grant : Option Nat := none
  cycle : DWord := 0
  spad : SMap Byte := []
  spadSnap : Option (SMap Byte) := none
  spadBad : List Nat := []
  l1 : SMap (BitVec 256) := []
  port : List PortReq := []
  seamq : List SeamStore := []
  dress : List Block := []
  wbs : List WriteBack := []
  tlb : List TlbEntry := []
  wtlb : List TlbEntry := []
  lastLead : Nat := 3
  vheld : SMap Nat := []
  deriving DecidableEq, Repr

/-- Claim of a seam block at its home (R252). -/
structure Claim where
  owner : Option Nat := none
  recalling : Bool := false
  queue : List Nat := []
  deriving DecidableEq, Repr

/-- Who the word being executed belongs to. -/
inductive Stream where
  | nobody
  | lead (u : Nat)
  | split (u g e : Nat)
  deriving DecidableEq, Repr

/-- One lane's trap (R313). -/
structure LaneFault where
  lane : Nat
  code : TrapCode
  addr : DWord := 0
  deriving DecidableEq, Repr

/-- What the checks of a word answer. -/
inductive Verdict where
  /-- the word may take effect -/
  | ok
  /-- a waiting condition of R22 or R144 -/
  | wait
  /-- an interlock: first-touch entry being served (R309) -/
  | hold
  /-- these lanes trap and the word has no effect in the others, which issue it again (R19, R72) -/
  | trap (fs : List LaneFault)
  /-- these lanes trap and the others perform the access (R178) -/
  | part (fs : List LaneFault)
  deriving DecidableEq, Repr

/-- The word being executed: its stream, the lanes, its place (the first word of its chain), the place after it,
the FP control it reads (R48), the flags its chain has set, whether its checks have been made already. -/
structure Cursor where
  stream : Stream := .nobody
  mask : DWord := 0
  ip : Word := 0
  wd : Nat := 0
  nip : Word := 0
  nwd : Nat := 0
  fpctl : BitVec 8 := 0
  flags : BitVec 8 := 0
  commit : Bool := false
  chained : Bool := false
  verdict : Verdict := .ok
  deriving DecidableEq, Repr

/-- An access that may be held for a first-touch entry, to be tried again (R311): the start of a near or deep command, the claim or fill of a seam
block, the poll of a wait node. -/
inductive Held where
  | near (k : Nat)
  | read (k : Nat)
  | append (k : Nat)
  | claim (c sidx blk : Nat)
  | fill (c sidx blk : Nat)
  | wait (j k : Nat)
  deriving DecidableEq, Repr

/-- A part of a cycle. -/
inductive Micro where
  /-- issue the next word or chain of a stream -/
  | issue (st : Stream)
  /-- merges, pops, idle counts and the cycle counter of a core (R26, R31, R138) -/
  | endCycle (c : Nat)
  /-- an access held for a first-touch entry is tried again -/
  | retry (a : Held)
  /-- a stream whose word is held for first-touch entry `entry` takes the translation trap (R311) -/
  | denied (st : Stream) (entry : Nat)
  /-- the host is asked about first-touch entry `entry`: the streams it holds are noted (R308, R311) -/
  | touched (entry : Nat)
  /-- the refusal of entry `entry` is over (R311) -/
  | allow (entry : Nat)
  deriving DecidableEq, Repr

/-- Memory: bytes by address, rising, none equal to what an unlisted address reads as. -/
abbrev Memory := List Host.Cell

/-- The context descriptor as the device read it (R300). -/
structure Ctx where
  thip : Word := 0
  tbase : DWord := 0
  ftpool : DWord := 0
  dcount : Nat := 0
  dfirst : Nat := 0
  pwbase : DWord := 0
  pmode : Nat := 1
  hdbg : Bool := false
  dbg : Bool := false
  seamlen : Nat := 0
  seambase : DWord := 0
  ptroot : DWord := 0
  deriving DecidableEq, Repr

/-- An error record (R372): class, die, severity, detail, address. -/
structure ErrRec where
  cls : Nat
  die : Nat := 0
  sev : Nat
  detail : Nat := 0
  addr : DWord := 0
  deriving DecidableEq, Repr

/-! ### Device space, firmware and the package -/

/-- A submission queue (R277); `size` is log2 of the record count, `last` the job accepted last, for the next one's `serial` (R278). -/
structure SubQueue where
  base : DWord := 0
  size : Nat := 0
  tail : Nat := 0
  head : Nat := 0
  prio : Nat := 0
  priv : Bool := false
  en : Bool := false
  last : Option Nat := none
  deriving DecidableEq, Repr

/-- XLT_STAT and the invalidation in progress (R307); accesses numbered below `mark` were issued before it. -/
structure XltInv where
  busy : Bool := false
  err : Bool := false
  va : Nat := 0
  size : Nat := 0
  mark : Nat := 0
  deriving DecidableEq, Repr

/-- MIG_STAT and the migration in progress (R320 to R322): page, bytes, source and destination, address of its leaf entry,
128-byte lines moved; `flush`: the new entry is written and being invalidated. -/
structure Migration where
  busy : Bool := false
  res : Nat := 0
  va : Nat := 0
  bytes : Nat := 0
  src : Nat := 0
  dst : Nat := 0
  entry : Nat := 0
  moved : List Nat := []
  flush : Bool := false
  deriving DecidableEq, Repr

/-- What an answer to a fault-ring record does (R311, R317, R329). -/
inductive RingWhat where
  | touch (entry : Nat)
  | leadTrap (saved : Nat)
  | error
  deriving DecidableEq, Repr

/-- A fault-ring record before it is written (R329). -/
structure RingRec where
  what : RingWhat
  addr : DWord := 0
  handle : DWord := 0
  info : DWord := 0
  deriving DecidableEq, Repr

/-- The fault ring (R329): registers, write index, phase and sequence number; records waiting for room, records not yet answered; `held`: the streams whose
word waits for an entry the host has been asked about (R311). -/
structure FaultRing where
  base : DWord := 0
  size : Nat := 0
  head : Nat := 0
  lost : Nat := 0
  widx : Nat := 0
  ph : Bool := true
  seq : Nat := 0
  waiting : List RingRec := []
  asked : List (Nat × RingRec) := []
  held : List (Nat × Stream) := []
  deriving DecidableEq, Repr

/-- A flash page (R345): its bytes other than zero, and the CRC-32C stored beside them; `blank`: an index assigned to a page that was not written (R227). -/
structure FlashPage where
  data : SMap Byte := []
  crc : Word := 0
  blank : Bool := false
  deriving DecidableEq, Repr

/-- The append log (R348, R349): head, physical pages free for writing, whether a compaction runs. -/
structure DeepLog where
  head : Nat := 0
  phys : Nat := Config.flashPages
  busy : Bool := false
  deriving DecidableEq, Repr

/-- HBM_PWRCFG (R353). -/
structure PwrCfg where
  sren : Bool := true
  pden : Bool := true
  sridle : Nat := 1000
  pdidle : Nat := 20
  deriving DecidableEq, Repr

/-- A pseudo-channel (R351, R353): state 0 active, 1 power-down, 2 self-refresh, 3 in exit; the timers in force since its last restart; the time of its last
request (the model's clock, `tick`). -/
structure PseudoChan where
  state : Nat := 0
  srexits : Nat := 0
  cfg : PwrCfg := {}
  last : Option Nat := none
  deriving DecidableEq, Repr

/-- PWR_CTL and PWR_STAT (R371). -/
structure Power where
  fmin : Nat := 8
  cap : Nat := 3600
  pwr : Nat := 0
  skip : Bool := false
  lim : Nat := 0
  step : Nat := 17
  deriving DecidableEq, Repr

/-- SVY_DIE (R361): state 0 not found, 1 included, 2 excluded. -/
structure Die where
  ncore : Nat := 0
  ltrain : Nat := 0
  ltotal : Nat := 0
  why : Nat := 0
  state : Nat := 0
  deriving DecidableEq, Repr

/-- A link during the survey (R357, R358): still training, left out, or trained, with what its two sides found wrong with each other. -/
inductive LinkState where
  | training
  | left
  | trained (whyA whyB : Nat)
  deriving DecidableEq, Repr

/-- The Miryen image (R357). -/
inductive ImageState where
  | loaded | recovery | failed
  deriving DecidableEq, Repr

/-- The survey (R357 to R361): boot epoch, links, (die, originator) of the messages received; the registers it leaves; failed residue channel
by core (R104); dies lost since (R362). -/
structure Survey where
  epoch : Nat := 0
  image : ImageState := .loaded
  links : SMap LinkState := []
  got : List (Nat × Nat) := []
  done : Bool := false
  fail : Bool := false
  degr : Bool := false
  arr : Bool := false
  cores : Nat := 0
  hbm : BitVec 8 := 0
  oio : BitVec 4 := 0
  nexcl : Nat := 0
  dies : SMap Die := []
  arrChan : SMap Nat := []
  lost : List Nat := []
  deriving DecidableEq, Repr

/-- An entry of a die's drift table (R362): the numbers of the primary outgoing link and of an alternate. A port `p` of an optical die is link number
`Config.links.length + p`. -/
structure Drift where
  primary : Option Nat := none
  alt : Option Nat := none
  deriving DecidableEq, Repr

/-- A data flit in a replay buffer (R364, R365): sequence number, key phase, nonce count, receive credits it returned. -/
structure Flit where
  seq : Nat
  ph : Bool
  ctr : Nat
  cred : Nat := 0
  deriving DecidableEq, Repr

/-- State of a Vexlis port (R368). -/
inductive PortState where
  | down | training | up | rollover
  deriving DecidableEq, Repr

/-- A Vexlis port (R363 to R368): wavelengths retired, peer, transmit phase, keys installed by phase at the transmit and the receive side,
nonce count, next sequence numbers, replay buffer, replay requests received in a row for one sequence number, and sent for the one expected;
`cred`: receive credits not yet returned. -/
structure Vport where
  state : PortState := .down
  retired : List Nat := []
  peer : Nat := 0
  ph : Bool := false
  replays : Nat := 0
  key0 : Bool := false
  key1 : Bool := false
  rx0 : Bool := false
  rx1 : Bool := false
  ctr : Nat := 0
  txSeq : Nat := 0
  rxSeq : Nat := 0
  buf : List Flit := []
  reqSeq : Nat := 0
  reqs : Nat := 0
  asked : Nat := 0
  cred : Nat := 0
  deriving DecidableEq, Repr

/-- How a node ended (R282 to R287). -/
inductive NodeEnd where
  | complete | failed | skipped | cancelled
  deriving DecidableEq, Repr

/-- A node of the graph that is running (R282, R283): record, whether started, units or requests not yet ended, status or trap code, how it ended,
the instance of `span` its units lie in (R288). -/
structure Node where
  img : BitVec 512
  started : Bool := false
  live : Nat := 0
  code : Nat := 0
  finished : Option NodeEnd := none
  inst : Option Nat := none
  deriving DecidableEq, Repr

/-- An accepted job (R278 to R287): queue and ring index, `tag` and `comp` of its record, the node arrays of its graphs by phase with their counts, `cont`,
the job it waits for (`serial`); phase and graph running, the nodes of that graph once they are read; failure and cancellation so far; results.
`finished`: its counter has reached 0. -/
structure Job where
  q : Nat
  ring : Nat
  tag : DWord
  comp : DWord
  phases : List (List (DWord × Nat)) := []
  cont : Bool := false
  prev : Option Nat := none
  phase : Nat := 0
  graph : Nat := 0
  nodes : List Node := []
  phaseFailed : Bool := false
  phaseCut : Bool := false
  cancelP : List Nat := []
  cancelGs : List (Nat × Nat) := []
  cancelJ : Bool := false
  recErr : Bool := false
  nfail : Nat := 0
  nphdone : Nat := 0
  first : DWord := 0
  code : Nat := 0
  finished : Bool := false
  deriving DecidableEq, Repr

/-- A unit that waits for a place (R288): its bind record but for the placement, kernel-table entry, arguments, logical route table; `hosted`: the host places
it, since its launch started so (R328). -/
structure Pending where
  origin : Origin
  bind : Bind
  kte : Kte
  qlim : BitVec 96
  args : List DWord
  routes : SMap (Nat × Nat) := []
  hosted : Bool := false
  deriving DecidableEq, Repr

/-- A unit off the core (R323, R326): save area, commands accepted and not started (R237), the unit number it had, where it comes from, its routes, poisoned values and registers in error, faults found for its gangs (32: its lead) and engines and not yet taken, whether a lead trap keeps it saved for the host, where its lead then
resumes (R317), and the 16-bit code or tag that the trap hands to the supervisor (R232, assumption 97), whether Miryen wrote its bind record,
and, of the values of its operand queues, the addresses they were fetched from and which are to be fetched again (R197, R339). -/
structure Saved where
  id : Nat
  area : DWord
  cmds : List Cmd := []
  u : Nat
  origin : Option Origin
  launch : Launch
  routes : SMap Route := []
  late : List (Nat × Late) := []
  efault : Option (TrapCode × DWord) := none
  fault : Option TrapCode := none
  badVals : List (Nat × Nat) := []
  badRegs : SMap (List Nat) := []
  trap : Bool := false
  resume : Option (Word × Nat) := none
  handed : DWord := 0
  miryen : Bool := false
  addrs : SMap (List (Option DWord × Bool)) := []
  deriving DecidableEq, Repr

/-- A value written to SLT_BIND that the slot's dispatch hardware works on, state dispatching (R293); `miryen`: Miryen wrote it (R326);
`plan`: the pending unit it places there, with its bind record (R288, R291). -/
structure Bound where
  value : DWord
  miryen : Bool := false
  plan : Option (Origin × Bind) := none
  deriving DecidableEq, Repr

/-- Whose a near or deep command is: a resident unit's, a unit's in a save area, a graph node's, or nobody's any more. -/
inductive HubOwner where
  | unit (u : Nat)
  | area (id : Nat)
  | node (job node : Nat)
  | gone
  deriving DecidableEq, Repr

/-- A started near or deep command (R223 to R227): operands; the request record as the engine read it; place of the completion record;
`tr`: the 64 KiB pages it touches, physical bases by page number (plus 1 with `pm`, plus 2 in host memory); parts still to do, fetches made of a page, parts failed, parts finished;
first and replica index of an append; `queued`: a node's request not yet started (R282); `fin`: only its completion record with this status is still to be written (R234). -/
structure HubCmd where
  id : Nat
  op : CmdOp
  owner : HubOwner
  launch : Option Launch := none
  core : Nat := 0
  a : DWord := 0
  b : DWord := 0
  c : DWord := 0
  req : Nat := 0
  crec : Loc := .dev 0
  tr : SMap Nat := []
  left : List Nat := []
  tries : SMap Nat := []
  failed : List Nat := []
  done : List Nat := []
  first : Nat := 0
  rep : Nat := 0
  queued : Bool := false
  fin : Option Nat := none
  deriving DecidableEq, Repr

/-- Reads that have seen a write: those on a path, of one unit or of any, from an operation number on (R197, R258). -/
structure Sight where
  path : Nat
  unit : Option Nat := none
  id : Nat := 0
  deriving DecidableEq, Repr

/-- Bytes that a write has replaced and that a read on another path may still return (R266; the model's own, assumption 85): path of the writer (0 lane, 1 tile,
2 stream, 3 near, 4 deep, 5 none of them: the host or another package), the memory (0 device, 1 host, 2 + core a scratchpad, from 1024 on a core's decoded copies of a
seam array), unit and engine command that wrote, the bytes as they were; `seen`: the reads that may not return them any more. -/
structure Past where
  id : Nat := 0
  path : Nat
  space : Nat
  unit : Nat
  cmd : Option Nat := none
  bytes : SMap Byte
  seen : List Sight := []
  deriving DecidableEq, Repr

/-- The machine. `gone`: the launches, while units of them remain, whose unit in a slot has ended, by unit number (R229); `pkgs`: package numbers given out in the pod, `left`: those
that have been removed (R374); `ctxReg`, `ctxNew`, `ctxBad`: CTX_DESC, not yet read, in error (R300); `errs`, `errNext`: the error-record buffer by index,
and the records written to it (R372); `atomicOps`: the survey found that the root complex completes AtomicOps (R370); `served`: the queue served last, by `prio` (63 where none was, R288); `binding`: the slots
that are dispatching (R293); `restored`: what was kept beside the save areas already restored (R326); `linkBad`: host sectors whose completions the PCIe link marks
poisoned (R318); `hostStamps`: the stamps of the last writes to host sectors (R249, assumption 87); `firm`: Miryen's own memory, where it keeps the bind records it
writes (R291, assumption 47); `drift`: the drift tables, by 512 * die + destination, a die or 32 + a package (R362). -/
structure State where
  units : SMap Unit := []
  gone : SMap (List Launch) := []
  cores : SMap Core := []
  layers : SMap LayerCache := []
  mem : Memory := []
  hostMem : Memory := []
  firm : Memory := []
  poison : List Nat := []
  homeSeq : Nat := 0
  stamps : SMap Clock := []
  hostStamps : SMap Clock := []
  claims : SMap Claim := []
  pkgs : Nat := 1
  left : List Nat := []
  ctx : Ctx := {}
  ctxReg : DWord := 0
  ctxNew : Bool := false
  ctxBad : Bool := false
  queues : SMap SubQueue := []
  jobs : SMap Job := []
  pend : List Pending := []
  served : SMap Nat := []
  saved : List Saved := []
  restored : List Saved := []
  binding : SMap Bound := []
  slotErr : SMap Nat := []
  xlt : XltInv := {}
  hubTlb : List TlbEntry := []
  mig : Migration := {}
  refused : List Nat := []
  fsplit : BitVec 6 := 0
  fr : FaultRing := {}
  flash : SMap FlashPage := []
  dlog : DeepLog := {}
  hub : List HubCmd := []
  pwrcfg : PwrCfg := {}
  pch : SMap PseudoChan := []
  pwr : Power := {}
  svy : Survey := {}
  vxl : SMap Vport := []
  drift : SMap Drift := []
  errs : SMap ErrRec := []
  errNext : Nat := 0
  fatal : Bool := false
  atomicOps : Bool := true
  linkBad : List Nat := []
  past : List Past := []
  cur : Cursor := {}
  agenda : List Micro := []
  sched : List EnvAct := []
  tick : Nat := 0
  nextId : Nat := 0
  deriving DecidableEq, Repr

/-- The machine right after device reset. -/
def State.reset : State := {}

end Sys2Proof.Machine
end

