-- ==== Sys2Proof/Machine/Ops.lean ====
section
/-! DEFINITION. The shared operations on units, gangs and registers, the issue of a word, taking a trap (R313, R316, R317) and returning from one (R233). -/

namespace Sys2Proof.Machine

/-! ### Trap codes and tags -/

/-- R312. -/
def TrapCode.code : TrapCode → Nat
  | .undefinedInstruction => 1 | .illegalChain => 2 | .privilege => 3 | .formatTag => 4 | .misaligned => 5
  | .translation => 6 | .protection => 7 | .poisonedData => 8 | .atomicOnSeam => 9 | .seamMalformed => 10
  | .divergenceOverflow => 11 | .residueRange => 12 | .unimplementedCombination => 13
  | .channelUnavailable => 14 | .breakpoint => 15 | .softwareTrap => 16 | .nestedTrap => 17

/-- The trap code of a number (R312). -/
def TrapCode.ofCode (n : Nat) : Option TrapCode :=
  [TrapCode.undefinedInstruction, .illegalChain, .privilege, .formatTag, .misaligned, .translation, .protection, .poisonedData, .atomicOnSeam,
    .seamMalformed, .divergenceOverflow, .residueRange, .unimplementedCombination, .channelUnavailable, .breakpoint, .softwareTrap,
    .nestedTrap].find? fun c => c.code == n

/-- R17. -/
def Tag.code : Tag → Nat
  | .raw => 0 | .f32 => 1 | .f64 => 2 | .bf16x2 => 3 | .f16x2 => 4 | .i32 => 5 | .n32 => 6 | .i16x2 => 7
  | .n16x2 => 8 | .i8x4 => 9 | .n8x4 => 10 | .i4x8 => 11 | .rt => 12 | .mask => 13

/-- R17; a reserved code reads as RAW (R18). -/
def Tag.ofCode : Nat → Tag
  | 1 => .f32 | 2 => .f64 | 3 => .bf16x2 | 4 => .f16x2 | 5 => .i32 | 6 => .n32 | 7 => .i16x2
  | 8 => .n16x2 | 9 => .i8x4 | 10 => .n8x4 | 11 => .i4x8 | 12 => .rt | 13 => .mask | _ => .raw

/-! ### Poisoned queue values (R318, R372) -/

/-- One of the first `n` values of a queue is poisoned. -/
def Unit.badFirst (x : Unit) (key n : Nat) : Bool := x.badVals.any fun p => p.1 == key && decide (p.2 < n)

/-- `n` values have left the queue. -/
def Unit.popBad (x : Unit) (key n : Nat) : Unit :=
  { x with badVals := x.badVals.filterMap fun p => if p.1 = key then (if p.2 < n then none else some (key, p.2 - n)) else some p }

/-! ### Masks -/

/-- The lanes of a gang of width `w` (R11). -/
def widthMask (w : Nat) : DWord := BitVec.ofNat 64 (2 ^ w - 1)

/-- `Lanes(mk)`: the set bits, ascending (R38). -/
def lanesOf (mk : DWord) : List Nat := (List.range 64).filter fun l => mk.getLsbD l

/-- The number of set bits. -/
def popcount (mk : DWord) : Nat := (lanesOf mk).length

/-- The bit of lane `l`. -/
def laneBit (l : Nat) : DWord := BitVec.ofNat 64 (2 ^ l)

/-- The mask of a list of lanes. -/
def maskOf (ls : List Nat) : DWord := ls.foldl (fun m l => m ||| laneBit l) 0

/-- `RankOf(l)` within the active lanes `mk` (R38). -/
def rankOf (mk : DWord) (l : Nat) : Nat := ((lanesOf mk).filter (· < l)).length

/-- `LaneAt(k)` (R38). -/
def laneAt (mk : DWord) (k : Nat) : Option Nat := (lanesOf mk)[k]?

/-! ### Holders -/

/-- The core of a unit. -/
def coreOf (u : Nat) : Nat := u / 4
/-- The slot of a unit (R30 `unitid`). -/
def slotOf (u : Nat) : Nat := u % 4
/-- The layer of a core (R30 `layerid`). -/
def layerOf (c : Nat) : Nat := c / Config.coresPerLayer
/-- The core's number in its layer (R30 `coreid`). -/
def coreId (c : Nat) : Nat := c % Config.coresPerLayer

/-- A core; what is not listed is as after reset. -/
def State.core (s : State) (c : Nat) : Core := mget {} s.cores c

/-- Replaces a core. -/
def State.setCore (s : State) (c : Nat) (k : Core) : State := { s with cores := mset {} s.cores c k }

/-- Updates a core. -/
def State.modCore (s : State) (c : Nat) (f : Core → Core) : State := s.setCore c (f (s.core c))

/-- A layer cache. -/
def State.layer (s : State) (y : Nat) : LayerCache := mget {} s.layers y

/-- Updates a layer cache. -/
def State.modLayer (s : State) (y : Nat) (f : LayerCache → LayerCache) : State :=
  { s with layers := mset {} s.layers y (f (s.layer y)) }

/-- A resident unit. -/
def State.unit? (s : State) (u : Nat) : Option Unit := mfind s.units u

/-- Updates a resident unit. -/
def State.modUnit (s : State) (u : Nat) (f : Unit → Unit) : State := { s with units := mmodify s.units u f }

/-- A gang of a resident unit. -/
def State.gang? (s : State) (u g : Nat) : Option Gang :=
  match s.unit? u with
  | some x => mfind x.gangs g
  | none => none

/-- Updates a gang. -/
def State.modGang (s : State) (u g : Nat) (f : Gang → Gang) : State :=
  s.modUnit u fun x => { x with gangs := mmodify x.gangs g f }

/-- Updates a lead context. -/
def State.modLead (s : State) (u : Nat) (f : Lead → Lead) : State :=
  s.modUnit u fun x => { x with lead := f x.lead }

/-- Entry `e` of the split table; 4 is the trap entry (R20). -/
def Gang.entry (g : Gang) (e : Nat) : Split := mget {} g.split e

/-- Replaces an entry; an entry without lanes is free (R23). -/
def Gang.setEntry (g : Gang) (e : Nat) (p : Split) : Gang :=
  { g with split := if p.mask = 0 then merase g.split e else mput g.split e p }

/-- Updates an entry. -/
def Gang.modEntry (g : Gang) (e : Nat) (f : Split → Split) : Gang := g.setEntry e (f (g.entry e))

/-- The entry holds no lanes. -/
def Gang.isFree (g : Gang) (e : Nat) : Bool := (g.entry e).mask == 0

/-- The free entries of 0 to 3, ascending. -/
def Gang.freeEntries (g : Gang) : List Nat := [0, 1, 2, 3].filter g.isFree

/-- The number of a fresh operation. -/
def State.fresh (s : State) : State := { s with nextId := s.nextId + 1 }

/-! ### Outstanding operations and the wait counters (R27, R133) -/

/-- The operations of one class. -/
def opsOf (c : Cls) (ops : List Op) : List Nat := (ops.filter (·.cls == c)).map (·.id)

/-- `gvm`. -/
def Gang.gvm (g : Gang) : List Nat := opsOf .vm g.ops
/-- `gsp`. -/
def Gang.gsp (g : Gang) : List Nat := opsOf .sp g.ops
/-- `vmcnt` of an entry: the operations it counts that are still outstanding. -/
def Gang.vmcnt (g : Gang) (p : Split) : Nat := (p.vm.filter fun i => g.gvm.contains i).length
/-- `spcnt` of an entry. -/
def Gang.spcnt (g : Gang) (p : Split) : Nat := (p.sp.filter fun i => g.gsp.contains i).length
/-- `lmcnt` (R9, R133). -/
def Lead.lmcnt (l : Lead) : Nat := l.ops.length
/-- Live gangs (R30 `ngang`, R143). -/
def Unit.ngang (x : Unit) : Nat := (x.gangs.filter fun p => !p.2.ended).length

/-! ### Registers -/

/-- The registers a source read sees: those held before the cycle or chain (R13, R48). -/
def Gang.src (g : Gang) : GangRegs := g.snap.getD g.regs

/-- `S(n)`. -/
def Gang.S (g : Gang) (n : Nat) : DWord := mget 0 g.src.s n
/-- `M(n)`. -/
def Gang.M (g : Gang) (n : Nat) : DWord := mget 0 g.src.m n
/-- `v(n)` of lane `l` with its tag. -/
def Gang.VR (g : Gang) (n l : Nat) : VReg := mget {} g.src.v (64 * n + l)
/-- `V(n, l)`. -/
def Gang.V (g : Gang) (n l : Nat) : Word := (g.VR n l).bits
/-- `Tag(n, l)`. -/
def Gang.tag (g : Gang) (n l : Nat) : Tag := (g.VR n l).tag
/-- `V64(n, l)`. -/
def Gang.V64 (g : Gang) (n l : Nat) : DWord := g.V (n + 1) l ++ g.V n l

/-- `SetS(n, x)`. -/
def Gang.setS (g : Gang) (n : Nat) (x : DWord) : Gang := { g with regs := { g.regs with s := mset 0 g.regs.s n x } }
/-- `SetM(n, x)`: bits at and above the creation width are discarded (R11). -/
def Gang.setM (g : Gang) (n : Nat) (x : DWord) : Gang :=
  { g with regs := { g.regs with m := mset 0 g.regs.m n (x &&& widthMask g.width) } }
/-- Per-lane mask writes: only the bits of `mk` change (R12). -/
def Gang.setMBits (g : Gang) (n : Nat) (mk x : DWord) : Gang :=
  g.setM n ((mget 0 g.regs.m n &&& ~~~mk) ||| (x &&& mk))
/-- `SetV(n, l, x, tag)`. -/
def Gang.setV (g : Gang) (n l : Nat) (r : VReg) : Gang :=
  { g with regs := { g.regs with v := mset {} g.regs.v (64 * n + l) r }, badRegs := g.badRegs.filter (· != 64 * n + l) }
/-- `SetV64(n, l, x)`: even register F64, odd register RAW (R14). -/
def Gang.setV64 (g : Gang) (n l : Nat) (x : DWord) (tag : Tag := .f64) : Gang :=
  (g.setV n l ⟨x.setWidth 32, tag⟩).setV (n + 1) l ⟨x.extractLsb' 32 32, .raw⟩

/-- `H(n)`: `h0` reads as zero (R9). -/
def Lead.H (l : Lead) (n : Nat) : DWord := if n = 0 then 0 else mget 0 (l.hsnap.getD l.h) n
/-- `SetH(n, x)`: a write of `h0` is discarded (R9). -/
def Lead.setH (l : Lead) (n : Nat) (x : DWord) : Lead := if n = 0 then l else { l with h := mset 0 l.h n x }

/-! ### The word being executed -/

/-- `X(n)`: `s(n)` of the gang or `h(n)` of the lead (R128). -/
def State.X (s : State) (n : Nat) : DWord :=
  match s.cur.stream with
  | .split u g _ => match s.gang? u g with
    | some x => x.S n
    | none => 0
  | .lead u => match s.unit? u with
    | some x => x.lead.H n
    | none => 0
  | .nobody => 0

/-- `SetX(n, x)`. -/
def State.setX (s : State) (n : Nat) (v : DWord) : State :=
  match s.cur.stream with
  | .split u g _ => s.modGang u g (·.setS n v)
  | .lead u => s.modLead u (·.setH n v)
  | .nobody => s

/-- The unit of the stream. -/
def Stream.unit : Stream → Option Nat
  | .nobody => none
  | .lead u => some u
  | .split u _ _ => some u

/-- The unit the word belongs to, with its number. -/
def State.here (s : State) : Option (Nat × Unit) :=
  match s.cur.stream.unit with
  | some u => (s.unit? u).map (u, ·)
  | none => none

/-- The gang the word belongs to. -/
def State.hereGang (s : State) : Option Gang :=
  match s.cur.stream with
  | .split u g _ => s.gang? u g
  | _ => none

/-- Whether the cursor names a stream that exists. -/
def State.live (s : State) : Bool :=
  match s.cur.stream with
  | .nobody => false
  | .lead u => (s.unit? u).isSome
  | .split u g _ => (s.gang? u g).isSome

/-- Updates the gang of the word. -/
def State.modHere (s : State) (f : Gang → Gang) : State :=
  match s.cur.stream with
  | .split u g _ => s.modGang u g f
  | _ => s

/-- Whose accesses the word makes. -/
def State.who (s : State) : Who :=
  match s.cur.stream with
  | .split u g _ => ⟨u, g, s.cur.mask⟩
  | .lead u => ⟨u, 32, 1⟩
  | .nobody => ⟨0, 32, 0⟩

/-- Privilege (R231): a system lead, or the trap entry. -/
def State.privileged (s : State) : Bool :=
  match s.cur.stream with
  | .lead u => match s.unit? u with
    | some x => x.bind.sys
    | none => false
  | .split _ _ e => e == 4
  | .nobody => false

/-- Sets FP flags of the split: ORed into `fpflags`, and kept for a chained SWR (R48, R152). -/
def State.raiseFlags (s : State) (f : BitVec 8) : State :=
  match s.cur.stream with
  | .split u g e =>
    { s.modGang u g (·.modEntry e fun p => { p with fpflags := p.fpflags ||| f }) with
      cur := { s.cur with flags := s.cur.flags ||| f } }
  | _ => s

/-- The state of a split that may issue again: by its demotion rank (R26, R140). -/
def Split.awake (p : Split) : Split :=
  { p with state := if p.state = .trap then .trap else if p.dpos = 0 then .ready else .demoted, bar := .none }

/-- The word has issued: the stream stands after it; `idle` and `raised` are cleared (R26, R42, R44). -/
def State.advance (s : State) : State :=
  match s.cur.stream with
  | .split u g e => s.modGang u g (·.modEntry e fun p =>
      { p.awake with ip := s.cur.nip, wd := s.cur.nwd, idle := 0, raised := false })
  | .lead u => s.modLead u fun l => { l with lip := s.cur.nip, lwd := s.cur.nwd, state := .running }
  | .nobody => s

/-- What the checks of the word have answered. -/
def State.answered (s : State) (v : Verdict) : State := { s with cur := { s.cur with verdict := v } }

/-- The word's waiting condition is not met: the stream waits at it (R22, R144). -/
def State.blocked (s : State) : State :=
  let s := s.answered .wait
  match s.cur.stream with
  | .split u g e => s.modGang u g (·.modEntry e fun p =>
      { p with state := if p.state = .trap then .trap else .waiting })
  | .lead u => s.modLead u fun l => { l with state := .waiting }
  | .nobody => s

/-- A split that no waiting condition holds any more is ready, or demoted (R22, R26). -/
def Split.unwait (p : Split) : Split := if p.state = .waiting then { p with state := if p.dpos = 0 then .ready else .demoted } else p

/-- An interlock holds the word: the stream does not wait (R22, R144). -/
def State.interlocked (s : State) : State :=
  let s := s.answered .hold
  match s.cur.stream with
  | .split u g e => s.modGang u g (·.modEntry e (·.unwait))
  | .lead u => s.modLead u fun l => { l with state := if l.state = .waiting then .running else l.state }
  | .nobody => s

/-! ### Taking a trap (R313 to R317) -/

/-- The trap entry is free. -/
def Gang.trapFree (g : Gang) : Bool := g.isFree 4

/-- The fault of the lowest lane decides `tcode` (R313). -/
def firstFault : List LaneFault → Option LaneFault
  | [] => none
  | f :: t => match firstFault t with
    | some k => some (if k.lane < f.lane then k else f)
    | none => some f

/-- R313 with the trap entry free: lanes of entry `e` enter it. -/
def Gang.enterTrap (g : Gang) (e : Nat) (fs : List LaneFault) (thip tip : Word) (twd : Nat) : Gang :=
  let p := g.entry e
  let mk := p.mask &&& maskOf (fs.map (·.lane))
  let code := match firstFault fs with
    | some f => f.code.code
    | none => 0
  let t : Split :=
    { mask := mk, ip := thip, wd := 0, state := .trap, vm := g.gvm, sp := g.gsp, fpctl := p.fpctl, fpflags := p.fpflags }
  let g := (g.setEntry e { p.awake with mask := p.mask &&& ~~~mk }).setEntry 4 t
  { g with
    tcode := BitVec.ofNat 5 code
    tip := tip
    twd := twd
    tmask := mk
    taddr := fs.foldl (fun m f => mset 0 m f.lane f.addr) g.taddr
    late := g.late.filter fun x => !mk.getLsbD x.lane }

/-- Taking a trap: `Trap(code, mk)` of a split (R313), nested in the trap entry (R316), `LeadTrap` of a lead (R317).
The handler's entry is `thip` of the context descriptor. -/
def State.takeTrap (s : State) (fs : List LaneFault) : State :=
  match s.cur.stream with
  | .split u g e =>
    if e = 4 then
      s.modUnit u fun x => { x with ending := some .nestedTrap }
    else match s.gang? u g with
      | some x =>
        if x.trapFree then s.modGang u g (·.enterTrap e fs s.ctx.thip s.cur.ip s.cur.wd)
        else s.blocked
      | none => s
  | .lead u => match fs with
    | f :: _ => s.modLead u fun l => { l with trapped := some (f.code, f.addr) }
    | [] => s
  | .nobody => s

/-- Every active lane, or the lead, takes `code`. -/
def State.allLanes (s : State) (code : TrapCode) (addr : DWord := 0) : List LaneFault :=
  match s.cur.stream with
  | .lead _ => [⟨0, code, addr⟩]
  | _ => (lanesOf s.cur.mask).map fun l => ⟨l, code, addr⟩

/-- `Undefined()` (R38), of a lead as `LeadTrap`. -/
def State.undefined (s : State) : Verdict := .trap (s.allLanes .undefinedInstruction)

/-! ### Issue -/

/-- Issues a word: `v` is what its checks answer, `eff` what it does to the state for the lanes of a mask, its move to the next place included,
`onWait` what an attempt that waits or is held sets going. A trap or a wait takes nothing else (R49); with `part` the lanes that passed perform
the access and do not issue again (R178). When the checks of a chain have been made (`commit`), only the effect is left to take. -/
def State.issueTo (s : State) (v : Verdict) (eff : DWord → State → State) (onWait : State → State := id) :
    Host.Outcome State Fault Refusal :=
  if !s.live then .fault .noIssuer
  else if s.cur.commit then .next (eff s.cur.mask s)
  else
    let r := s.answered v
    match v with
    | .ok => .next (eff s.cur.mask r)
    | .wait => .next (onWait r).blocked
    | .hold => .next (onWait r).interlocked
    | .trap fs => .next (r.takeTrap fs)
    | .part fs =>
      let busy := match r.hereGang with
        | some x => !x.trapFree
        | none => false
      match s.cur.stream with
      | .split _ _ e =>
        if busy && e != 4 then .next r.blocked
        else
          let rest := s.cur.mask &&& ~~~maskOf (fs.map (·.lane))
          if rest = 0 then .next (r.takeTrap fs)
          else .next ((eff rest r).takeTrap fs)
      | _ => .next (r.takeTrap fs)

/-- Issues a word that passes to the next word of its stream. -/
def State.issue (s : State) (v : Verdict) (eff : DWord → State → State) (onWait : State → State := id) :
    Host.Outcome State Fault Refusal :=
  s.issueTo v (fun mk t => (eff mk t).advance) onWait

/-- The first verdict that is not `ok` decides (R72). -/
def Verdict.andThen (a b : Verdict) : Verdict :=
  match a with
  | .ok => b
  | _ => a

/-- A verdict from a condition. -/
def need (c : Bool) (v : Verdict) : Verdict := if c then .ok else v

/-- Check 2 of R72 for the gang stream: the word is one of the gang stream, and its registers are below the declared counts (R15). -/
def State.gangWord (s : State) (vs ss : List Nat) : Verdict :=
  match s.cur.stream, s.here with
  | .split _ _ _, some (_, x) =>
    need (vs.all (· < x.kte.vregs) && ss.all (· < x.kte.sregs)) s.undefined
  | _, _ => s.undefined

/-- Check 2 for a word of both streams whose fields `xs` name `s` or `h` registers (R128); `h` numbers are below 32 (R53). -/
def State.scalarWord (s : State) (xs : List Nat) : Verdict :=
  match s.cur.stream, s.here with
  | .split _ _ _, some (_, x) => need (xs.all (· < x.kte.sregs)) s.undefined
  | .lead _, some _ => need (xs.all (· < 32)) s.undefined
  | _, _ => s.undefined

/-- Check 2 for a word of the lead stream. -/
def State.leadWord (s : State) (hs : List Nat) : Verdict :=
  match s.cur.stream with
  | .lead _ => need (hs.all (· < 32)) s.undefined
  | _ => s.undefined

/-- Check 3 (R72, R231). -/
def State.needPrivilege (s : State) : Verdict := need s.privileged (.trap (s.allLanes .privilege))

/-- The word is not issued by the trap entry (R147, R315). -/
def State.notTrapEntry (s : State) : Verdict :=
  match s.cur.stream with
  | .split _ _ e => need (e != 4) s.undefined
  | _ => .ok

/-- No register of `rs` that an active lane reads has an uncorrectable error: such a lane reads poisoned data (R318, R372). -/
def State.needGood (s : State) (rs : List Nat) : Verdict :=
  match s.hereGang with
  | some x =>
    let bad := (lanesOf s.cur.mask).filter fun l => rs.any fun r => x.badRegs.contains (64 * r + l)
    match bad with
    | [] => .ok
    | _ => .trap (bad.map fun l => ⟨l, .poisonedData, 0⟩)
  | none => .ok

/-- The lanes whose tag is neither in the list of a source nor RAW trap (R19). -/
def State.tagsOk (s : State) (srcs : List (Nat × List Tag)) : Verdict :=
  match s.hereGang with
  | some x =>
    let bad := (lanesOf s.cur.mask).filter fun l => srcs.any fun p =>
      let t := x.tag p.1 l
      t != .raw && !p.2.contains t
    match bad with
    | [] => .ok
    | _ => .trap (bad.map fun l => ⟨l, .formatTag, 0⟩)
  | none => .ok

/-- The registers a source reads: an F64 source is a pair (R14). -/
def sourceRegs (p : Nat × List Tag) : List Nat := if p.2 = [.f64] then [p.1, p.1 + 1] else [p.1]

/-- `Need(n, tags)` (R19, R38): nothing is written in lanes with a wrong tag, nor in those that read a register in error. -/
def State.needTags (s : State) (srcs : List (Nat × List Tag)) : Verdict := (s.tagsOk srcs).andThen (s.needGood (srcs.flatMap sourceRegs))

/-- The registers a permute writes. -/
def OpKind.permuteDests : OpKind → List Nat
  | .permute ds => ds
  | _ => []

/-- A word that writes a destination of an outstanding permute of its split waits, as an interlock (R169). -/
def State.permuteFree (s : State) (dst : List Nat) : Verdict :=
  match s.hereGang with
  | some x =>
    need (x.ops.all fun o => o.mask &&& s.cur.mask == 0 || o.kind.permuteDests.all fun r => !dst.contains r) .hold
  | none => .ok

/-- Register writes of one lane. -/
def Gang.writeLane (g : Gang) (l : Nat) (ws : List (Nat × VReg)) : Gang := ws.foldl (fun x w => x.setV w.1 l w.2) g

/-- A vector word (R153, R154, R156): destinations, sources with the tags they accept, and for each active lane the
register writes and the flags, from the registers read before any write. -/
def State.lanewise (s : State) (dst : List Nat) (srcs : List (Nat × List Tag)) (ss : List Nat)
    (f : Gang → Nat → List (Nat × VReg) × BitVec 8) : Host.Outcome State Fault Refusal :=
  s.issue ((s.gangWord (dst ++ srcs.map (·.1)) ss).andThen ((s.permuteFree dst).andThen (s.needTags srcs)))
    fun mk t =>
      match s.hereGang with
      | some x =>
        let t := t.modHere fun y => (lanesOf mk).foldl (fun y l => y.writeLane l (f x l).1) y
        t.raiseFlags ((lanesOf mk).foldl (fun b l => b ||| (f x l).2) 0)
      | none => t

/-! ### Ended units of a launch (R229) -/

/-- The launch of a unit. -/
def Unit.launch (x : Unit) : Launch := ⟨x.bind.handle, x.origin.map (·.job)⟩

/-- The launch's unit in slot `u` has ended (R229). -/
def State.hasEnded (s : State) (u : Nat) (l : Launch) : Bool := (mget [] s.gone u).contains l

/-- Some unit of the launch is resident or saved. -/
def State.remains (s : State) (l : Launch) : Bool :=
  (s.units.any fun p => p.2.launch == l) || s.saved.any fun v => v.launch == l

/-- A unit of the launch in slot `u` has ended: noted while others of the launch remain. -/
def State.noteEnd (s : State) (u : Nat) (l : Launch) : State :=
  { s with gone := mset [] s.gone u ((l :: mget [] s.gone u).filter s.remains) }

/-- A unit of the launch is again in slot `u`. -/
def State.returned (s : State) (u : Nat) (x : Unit) : State :=
  { s with gone := mset [] s.gone u ((mget [] s.gone u).filter (· != x.launch)) }

/-! ### Operations that return later (R27, R133) -/

/-- Operations retire in the order their stream issued them: one stays counted while an older one it follows stays (R27). -/
def retireFrom : List Nat → List Op → List Op
  | _, [] => []
  | kept, o :: t =>
    if o.accs.isEmpty && o.after.all (fun i => !kept.contains i) then retireFrom kept t
    else o :: retireFrom (o.id :: kept) t

/-- The operations still counted. -/
def retire (ops : List Op) : List Op := retireFrom [] ops

/-- Counts an operation of the issuing stream (`Count(c)`, R38): the split's counter and the gang total, or `lmcnt`. -/
def State.addOp (s : State) (cls : Cls) (kind : OpKind) (mask : DWord) (accs : List Acc) : State :=
  let id := s.nextId
  match s.cur.stream with
  | .split u g e =>
    (s.modGang u g fun x =>
      let p := x.entry e
      let older := (if cls = .vm then p.vm else p.sp).filter fun i => x.ops.any (·.id == i)
      let o : Op := ⟨id, cls, kind, mask, accs, older, false, 0, mask⟩
      let y : Gang := { x with ops := retire (x.ops ++ [o]) }
      y.modEntry e fun p => if cls = .vm then { p with vm := older ++ [id] } else { p with sp := older ++ [id] }).fresh
  | .lead u =>
    (s.modLead u fun l =>
      let o : Op := ⟨id, .lm, kind, mask, accs, l.ops.map (·.id), false, 0, mask⟩
      { l with ops := l.ops ++ [o] }).fresh
  | .nobody => s

/-- An issue that would raise a gang load total, or `lmcnt`, above 63 waits (R27, R133). -/
def State.countRoom (s : State) (cls : Cls) : Verdict :=
  match s.cur.stream, s.hereGang, s.here with
  | .split _ _ _, some x, _ => need (decide ((if cls = .vm then x.gvm else x.gsp).length < 63)) .wait
  | .lead _, _, some (_, x) => need (decide (x.lead.lmcnt < 63)) .wait
  | _, _, _ => .ok

end Sys2Proof.Machine
end

