-- ==== Sys2Proof/Machine/Operands.lean ====
section
/-! DEFINITION. Operand forms: immediates (R59, R60), branch targets (R135), memory type codes (R66), lane addresses (R177). -/

namespace Sys2Proof.Machine

/-- `SExt(imm, 10)` as 64 bits (R59). -/
def imm64 (imm : BitVec 10) : DWord := imm.signExtend 64

/-- `Wrap(IP + SExt(disp, 16), 32)` (R135). -/
def target (ip : Word) (disp : BitVec 16) : Word := ip + disp.signExtend 32

/-- Zero-extends a one-bit answer. -/
def bool64 (b : Bool) : DWord := if b then 1 else 0

/-- Bytes of a memory type code (R66). -/
def tyBytes (ty : BitVec 4) : Nat :=
  match ty.toNat with
  | 0x4 => 8 | 0xC => 1 | 0xD => 1 | 0xE => 2 | 0xF => 2 | _ => 4

/-- Destination tag of a load with a memory type code (R66). -/
def tyTag (ty : BitVec 4) : Tag :=
  match ty.toNat with
  | 0x1 => .f32 | 0x2 => .i32 | 0x3 => .n32 | 0x4 => .f64 | 0x5 => .bf16x2 | 0x6 => .f16x2 | 0x7 => .i16x2
  | 0x8 => .n16x2 | 0x9 => .i8x4 | 0xA => .n8x4 | 0xB => .i4x8 | 0xC => .i32 | 0xD => .n32 | 0xE => .i32 | 0xF => .n32
  | _ => .raw

/-- A loaded value widened as the type code says (R66). -/
def tyWiden (ty : BitVec 4) (x : DWord) : Word :=
  match ty.toNat with
  | 0xC => (x.setWidth 8).signExtend 32
  | 0xD => (x.setWidth 8).setWidth 32
  | 0xE => (x.setWidth 16).signExtend 32
  | 0xF => (x.setWidth 16).setWidth 32
  | _ => x.setWidth 32

/-- The source tags VST and VSTS accept (R182); RAW is always accepted. -/
def tyAccepts (ty : BitVec 4) : List Tag :=
  match ty.toNat with
  | 0x0 => [.f32, .f64, .bf16x2, .f16x2, .i32, .n32, .i16x2, .n16x2, .i8x4, .n8x4, .i4x8, .rt, .mask]
  | 0x1 => [.f32] | 0x4 => [.f64] | 0x5 => [.bf16x2] | 0x6 => [.f16x2] | 0x7 => [.i16x2] | 0x8 => [.n16x2]
  | 0x9 => [.i8x4] | 0xA => [.n8x4] | 0xB => [.i4x8] | _ => [.i32, .n32]

/-- Address of lane `l` for VLD, VST, VLDS, VSTS (R177). -/
def Gang.laneAddr (g : Gang) (a b : Nat) (x : BitVec 1) (l : Nat) : DWord :=
  g.S b + (if x = 1 then (g.V a l).signExtend 64 else (g.V a l).setWidth 64)

/-- The stored value of lane `l` (R182): the register, or the pair for F64. -/
def Gang.laneData (g : Gang) (ty : BitVec 4) (d l : Nat) : DWord :=
  if ty = 4 then g.V64 d l else (g.V d l).setWidth 64

/-- Effective address of a scalar access (R131). -/
def State.scalarAddr (s : State) (a : Nat) (imm : BitVec 10) (size : Nat) : DWord :=
  s.X a + imm64 imm * BitVec.ofNat 64 size

/-- Every tag: an operand whose entry says "any tag" (R18). -/
def anyTag : List Tag := tyAccepts 0

/-- The tags of an address register whose entry does not say "any tag": every tag but MASK (R18; assumption 36). -/
def addressTags : List Tag := anyTag.filter (· != .mask)

/-- The tags of an integer operand (R157). -/
def intTags : List Tag := [.i32, .n32]

/-- The register writes of an F64 result (R14). -/
def pairWrites (d x : Nat) : List (Nat × VReg) :=
  [(d, ⟨BitVec.ofNat 32 x, .f64⟩), (d + 1, ⟨BitVec.ofNat 32 (x / 2 ^ 32), .raw⟩)]

/-- The little-endian value of bytes (R3). -/
def leValue : List Byte → Nat
  | [] => 0
  | b :: t => b.toNat + 256 * leValue t

/-- The `n` little-endian bytes of a value (R3). -/
def leBytes : Nat → Nat → List Byte
  | 0, _ => []
  | n + 1, x => BitVec.ofNat 8 x :: leBytes n (x / 256)

/-- A field of a record. -/
def recField (x : Nat) (lo len : Nat) : Nat := x / 2 ^ lo % 2 ^ len

/-- `box` of dimension `i` (R210). -/
def recBox (r : Nat) (i : Nat) : Nat := recField r (88 + 8 * i) 8

/-- Elements of the box. -/
def recCount (r : Nat) : Nat := (List.range 5).foldl (fun n i => n * (recBox r i + 1)) 1

end Sys2Proof.Machine
end

