-- ==== Sys2Proof/Machine/Mem.lean ====
section
/-! DEFINITION. Memory at its home (R238, R247, R304), the page-table walk and cached translations (R302 to R309). -/

namespace Sys2Proof.Machine

/-! ### Bytes -/

/-- What an unlisted address of memory reads as (assumption 2). -/
def Memory.unlisted : Byte := 0

/-- One byte. -/
def Memory.read (m : Memory) (a : Nat) : Byte := mget Memory.unlisted m a

/-- Writes one byte, keeping the canonical form. -/
def Memory.write (m : Memory) (a : Nat) (b : Byte) : Memory := mset Memory.unlisted m a b

/-- The canonical form: addresses strictly rising, nothing listed that an unlisted address reads as. -/
def Memory.wf (m : Memory) : Bool := canonical Memory.unlisted m

/-- `n` bytes from address `a`. -/
def Memory.readBytes (m : Memory) (a n : Nat) : List Byte := (List.range n).map fun k => m.read (a + k)

/-- The little-endian value of `n` bytes from address `a` (R3). -/
def Memory.readNat (m : Memory) (a n : Nat) : Nat := leValue (m.readBytes a n)

/-- Writes bytes by address. -/
def Memory.writeAll (m : Memory) (bs : SMap Byte) : Memory := bs.foldl (fun m p => m.write p.1 p.2) m

/-- Bytes `bs` from address `a`, by address. -/
def bytesAt (a : Nat) (bs : List Byte) : SMap Byte := bs.mapIdx fun k b => (a + k, b)

/-- The `n` low bytes of `x` from address `a`, by address. -/
def valueAt (a n x : Nat) : SMap Byte := bytesAt a (leBytes n x)

/-- The 32-byte sector of an address (R243). -/
def sectorOf (a : Nat) : Nat := a / 32

/-- The contents of a sector. -/
def Memory.readSector (m : Memory) (sec : Nat) : BitVec 256 := BitVec.ofNat 256 (m.readNat (32 * sec) 32)

/-- Byte `k` of a sector's contents. -/
def sectorByte (x : BitVec 256) (k : Nat) : Byte := x.extractLsb' (8 * k) 8

/-- A sector with the bytes of `bs` that lie in it. -/
def sectorWith (x : BitVec 256) (sec : Nat) (bs : SMap Byte) : BitVec 256 :=
  BitVec.ofNat 256 (leValue ((List.range 32).map fun k =>
    match mfind bs (32 * sec + k) with
    | some b => b
    | none => sectorByte x k))

/-! ### Backing (R304, R241) -/

/-- Package number of a device physical address. -/
def paPackage (pa : Nat) : Nat := pa / 2 ^ 44
/-- Offset within the package. -/
def paOffset (pa : Nat) : Nat := pa % 2 ^ 44

/-- Bits set in a mask of stacks or dies. -/
def countBits {w : Nat} (x : BitVec w) : Nat := ((List.range w).filter fun k => x.getLsbD k).length
/-- HBM4E: offsets 0 to 64 GB times the stacks present (R304, R360). -/
def State.isHbm (s : State) (pa : Nat) : Bool := decide (paOffset pa < countBits s.svy.hbm * Config.stackBytes)
/-- LPDDR-6 at 1 TiB to 1 TiB + 2 TB. -/
def isLpddr (pa : Nat) : Bool :=
  decide (Config.lpddrBase ≤ paOffset pa ∧ paOffset pa < Config.lpddrBase + Config.lpddrBytes)

/-- The stacks present in the field of the presented device (R241, R360). -/
def State.ownStacks (s : State) : List Nat := (List.range (8 / s.ctx.pmode)).filter s.svy.hbm.getLsbD

/-- The offset lies in the HBM4E of the presented device, the first of the package (R241, assumption 7). -/
def State.inOwnStacks (s : State) (pa : Nat) : Bool := decide (paOffset pa < s.ownStacks.length * Config.stackBytes)

/-- The stack of an HBM4E address: its 256-byte unit is hashed over the stacks present of the device that owns it (R241, R242, R360). -/
def State.stackOf (s : State) (pa : Nat) : Nat :=
  let l := if s.inOwnStacks pa then s.ownStacks else (List.range 8).filter fun k => s.svy.hbm.getLsbD k && !s.ownStacks.contains k
  l.getD (Config.stackOf (pa / 256) % l.length) 0

/-- The stack an HBM4E address lies in was lost after the survey (R362). -/
def State.lostStack (s : State) (pa : Nat) : Bool := !s.svy.lost.isEmpty && s.svy.lost.contains (16 + s.stackOf pa)

/-- The address has backing in a device of the pod (R304, R360, R362); other packages are full builds (assumption 7). -/
def State.backed (s : State) (pa : Nat) : Bool :=
  decide (paPackage pa < s.pkgs) && !s.left.contains (paPackage pa) &&
    ((if paPackage pa = Config.package then s.isHbm pa && !s.lostStack pa
      else decide (paOffset pa < 8 * Config.stackBytes)) || isLpddr pa)

/-- The memory is owned by the presented device (R239, R241), of HBM4E that of the stacks of its field that are present (R360); the model presents the first device of
the package (assumption 7). -/
def State.owned (s : State) (pa : Nat) : Bool :=
  s.backed pa && decide (paPackage pa = Config.package) &&
    (if s.isHbm pa then s.inOwnStacks pa
     else decide (paOffset pa - Config.lpddrBase < Config.lpddrBytes / s.ctx.pmode))

/-- A request reaches the controller of an HBM4E pseudo-channel: an active channel's idle timer restarts, with the timers of HBM_PWRCFG, another starts its exit
(R351 to R353). -/
def PseudoChan.request (c : PseudoChan) (cfg : PwrCfg) (now : Nat) : PseudoChan :=
  match c.state with
  | 0 => { c with cfg := cfg, last := some now }
  | 1 => { c with state := 3, last := some now }
  | 2 => { c with state := 3, srexits := (c.srexits + 1) % 2 ^ 32, last := some now }
  | _ => { c with last := some now }

/-- The pseudo-channel of an HBM4E address (R242, R360). -/
def State.channelOf (s : State) (pa : Nat) : Nat := 64 * s.stackOf pa + Config.channelIn (pa / 256) % 64

/-- The next access to the address reaches its pseudo-channel, and the hub cache does not serve it (R247, assumption 101). -/
def State.reaches (s : State) (pa : Nat) : Bool := decide (paPackage pa = Config.package) && s.isHbm pa && Config.reaches s.nextId pa

/-- An access at the home of an address restarts the idle timer of the channel it reaches (R351). -/
def State.reach (s : State) (pa : Nat) : State :=
  let c := s.channelOf pa
  let x := mget {} s.pch c
  { s with pch := if x.state = 0 ∧ s.reaches pa then mset {} s.pch c (x.request s.pwrcfg s.tick) else s.pch }

/-- The channel the next access to the address reaches is not active: the access waits for the exit that the wake sent ahead of it starts, PSEUDO_CHANNEL_WAKE
(R352). -/
def State.asleep (s : State) (pa : Nat) : Bool :=
  !s.pch.isEmpty && (mget {} s.pch (s.channelOf pa)).state != 0 && s.reaches pa

/-! ### Page-table entries (R303) -/

/-- Bit `n` of an entry. -/
def pteBit (e : DWord) (n : Nat) : Bool := e.getLsbD n
/-- `pa`, as an address. -/
def ptePa (e : DWord) : Nat := (e.extractLsb' 12 40).toNat * 4096
/-- `size`. -/
def pteSize (e : DWord) : Nat := (e.extractLsb' 2 2).toNat
/-- `kind`. -/
def pteKind (e : DWord) : Nat := (e.extractLsb' 8 2).toNat
/-- `sidx`. -/
def pteSidx (e : DWord) : Nat := (e.extractLsb' 52 12).toNat
/-- V, L, R, W, X, S, ft, pm. -/
def pteV (e : DWord) : Bool := pteBit e 0
def pteL (e : DWord) : Bool := pteBit e 1
def pteR (e : DWord) : Bool := pteBit e 4
def pteW (e : DWord) : Bool := pteBit e 5
def pteX (e : DWord) : Bool := pteBit e 6
def pteS (e : DWord) : Bool := pteBit e 7
def pteFt (e : DWord) : Bool := pteBit e 10
def ptePm (e : DWord) : Bool := pteBit e 11

/-- Pages of 64 KiB a size code covers (R302). -/
def pagesOf (size : Nat) : Nat := match size with
  | 0 => 1 | 1 => 32 | _ => 16384

/-- What a walk finds. -/
inductive Walk where
  | invalid
  | touch (entry : Nat)
  | leaf (e : DWord)
  deriving DecidableEq, Repr

/-- A non-leaf entry that R304 allows. -/
def nonLeafOk (s : State) (e : DWord) : Bool :=
  e &&& 0xFFF0000000000FFF#64 == 1 && ptePa e % 32768 == 0 && s.backed (ptePa e)

/-- A leaf that R304 allows at its level. -/
def leafOk (level : Nat) (e : DWord) : Bool :=
  pteV e && pteL e && pteKind e != 3 && (if level = 2 then pteSize e == 2 else pteSize e == 0 || pteSize e == 1) &&
    ptePa e % (pagesOf (pteSize e) * 65536) == 0 &&
    (if pteS e then pteKind e == 0 && ptePa e == 0 else pteSidx e == 0)

/-- The entry of a table, read at its home (R305). -/
def State.pte (s : State) (table idx : Nat) : DWord := BitVec.ofNat 64 (s.mem.readNat (table + 8 * idx) 8)

/-- Physical sectors of the `k`-th 256-byte unit of y of a near-memory command (R341). -/
def HubCmd.unitSectors (h : HubCmd) (k : Nat) : List Nat :=
  let y := h.req % 2 ^ 64
  let n := h.req / 2 ^ 192 % 2 ^ 32
  ((List.range 8).map fun i => (y / 256 + k) * 256 + 32 * i).filterMap fun a =>
    if y ≤ a ∧ a < y + 32 * n then (mfind h.tr (a / 65536)).map fun b => sectorOf (b / 65536 * 65536 + a % 65536) else none

/-- What reaches a sector at its home waits: a running near-memory command holds it until its update is complete (R342), or its channel is asleep (R352). -/
def State.held (s : State) (sec : Nat) : Bool :=
  s.asleep (32 * sec) || s.hub.any fun h => h.op == .nmc && h.left.any fun k => (h.unitSectors k).contains sec

/-- Whether any of some bytes lies in a held sector. -/
def State.heldBytes (s : State) (bs : SMap Byte) : Bool := bs.any fun p => s.held (sectorOf p.1)

/-- A record about this is already waiting, or not yet answered. -/
def FaultRing.pending (f : FaultRing) (w : RingWhat) : Bool := f.waiting.any (·.what == w) || f.asked.any (·.2.what == w)

/-- The host has been asked about a first-touch entry, and the access that walks was held for it: a stream's is when the stream was held before the entry became
valid, that of an engine or of the hub always (R308, R311, assumption 98). -/
def State.holdsFor (s : State) (entry : Nat) : Bool := s.fr.pending (.touch entry) && (match s.cur.stream with
  | .nobody => true
  | st => s.fr.held.contains (entry, st))

/-- The walk of R302 from `ptroot`; a first-touch entry the host has refused gives a translation trap to what it held. A valid one is seen by every walk but those
of the accesses that are held for it until the host has answered (R308, R311), and a walk waits at a held sector (R342). -/
def State.walk (s : State) (va : Nat) : Walk :=
  let root := s.ctx.ptroot.toNat
  let at1 := root + 8 * (va / 2 ^ 40 % 4096)
  if !s.backed root then .invalid
  else if s.held (sectorOf at1) then .touch at1
  else
    let e1 := s.pte root (va / 2 ^ 40 % 4096)
    let at2 := ptePa e1 + 8 * (va / 2 ^ 28 % 4096)
    if !nonLeafOk s e1 then .invalid
    else if s.held (sectorOf at2) then .touch at2
    else
      let e2 := s.pte (ptePa e1) (va / 2 ^ 28 % 4096)
      if leafOk 2 e2 then .leaf e2
      else if !nonLeafOk s e2 then .invalid
      else
        let e3 := s.pte (ptePa e2) (va / 2 ^ 16 % 4096)
        let entry := ptePa e2 + 8 * (va / 2 ^ 16 % 4096)
        if s.held (sectorOf entry) then .touch entry
        else if s.refused.contains entry then .invalid
        else if leafOk 3 e3 then (if s.holdsFor entry then .touch entry else .leaf e3)
        else if !pteV e3 && pteFt e3 && pteKind e3 == 0 then .touch entry
        else .invalid

/-- The cached leaf for an address, of the sets of one owner (R306). -/
def tlbFind : List TlbEntry → Nat → Nat → Option DWord
  | [], _, _ => none
  | t :: r, own, vpn =>
    if t.own = own ∧ t.vpn ≤ vpn ∧ vpn < t.vpn + t.pages then some t.leaf else tlbFind r own vpn

/-- The leaf for an address: a cached translation, or what the walk finds (R6, R308). -/
def State.xlate (s : State) (tlb : List TlbEntry) (own : Nat) (va : DWord) : Walk :=
  if va.toNat ≥ 2 ^ 52 then .invalid
  else match tlbFind tlb own (va.toNat / 65536) with
    | some e => .leaf e
    | none => s.walk va.toNat

/-- The cached entry a leaf gives. -/
def tlbEntry (own : Nat) (va : DWord) (leaf : DWord) : TlbEntry :=
  let n := pagesOf (pteSize leaf)
  ⟨own, va.toNat / 65536 / n * n, n, leaf⟩

/-- Caches the translation of an address, if it is not cached (R306). -/
def tlbFill (tlb : List TlbEntry) (own : Nat) (va leaf : DWord) : List TlbEntry :=
  match tlbFind tlb own (va.toNat / 65536) with
  | some _ => tlb
  | none => tlbEntry own va leaf :: tlb

/-- The physical place of an address under a leaf that is no seam leaf. -/
def leafAddr (leaf va : DWord) : Nat := ptePa leaf + va.toNat % (pagesOf (pteSize leaf) * 65536)

/-- A line a migration has moved is reached at its destination (R321). -/
def State.redirect (s : State) (pa : Nat) : Nat :=
  if s.mig.busy && decide (s.mig.src ≤ pa ∧ pa < s.mig.src + s.mig.bytes) && s.mig.moved.contains ((pa - s.mig.src) / 128) then
    s.mig.dst + (pa - s.mig.src)
  else pa

/-- The place of an address under a leaf, a running migration taken into account. -/
def State.phys (s : State) (leaf va : DWord) : Nat :=
  if pteKind leaf = 0 then s.redirect (leafAddr leaf va) else leafAddr leaf va

/-- Accesses at some addresses, by the translations `xlate`, restart the idle timers of the channels they reach (R351). -/
def State.reachBy (s : State) (xlate : DWord → Walk) (vas : List DWord) : State :=
  vas.foldl (fun t va => match xlate va with
    | .leaf e => if pteKind e = 0 ∧ pteS e = false then t.reach (s.phys e va) else t
    | _ => t) s

/-- The L1 translation of a unit's address (R306). -/
def State.laneXlate (s : State) (u : Nat) (va : DWord) : Walk := s.xlate (s.core (coreOf u)).tlb u va

/-- Caches the translations of some addresses in the L1 TLB of a unit. -/
def State.laneTlbFill (s : State) (u : Nat) (vas : List DWord) : State :=
  vas.foldl (fun t va => match s.laneXlate u va with
    | .leaf e => t.modCore (coreOf u) fun k => { k with tlb := tlbFill k.tlb u va e }
    | _ => t) s

/-- The address lies in the peer-window region of the context (R301). -/
def State.inPeerRegion (s : State) (va : DWord) : Bool :=
  s.ctx.pwbase != 0 && decide (s.ctx.pwbase.toNat ≤ va.toNat ∧ va.toNat < s.ctx.pwbase.toNat + Config.peerWindowBytes)

/-- The sector of a device address is poisoned (R318). -/
def State.poisoned (s : State) (pa : Nat) : Bool := s.poison.contains (sectorOf pa)

/-- The PCIe link marks the completion of a read of this host address poisoned (R318). -/
def State.linkPoisoned (s : State) (a : Nat) : Bool := s.linkBad.contains (sectorOf a)

/-- Whether any of `n` bytes from `pa` is poisoned. -/
def State.poisonedRange (s : State) (pa n : Nat) : Bool := (List.range n).any fun k => s.poisoned (pa + k)

end Sys2Proof.Machine
end

