-- ==== Sys2Proof/Machine/Past.lean ====
section
/-! DEFINITION. Overwritten values that a read on another path may still return (R266, R254): what each write replaces is remembered, a read on another path
chooses freely how many of the latest writes it has not seen, and a cross-path fence ends the choice. -/

namespace Sys2Proof.Machine

/-- Two byte sets share an address. -/
def sharesByte (a b : SMap Byte) : Bool := a.any fun p => (mfind b p.1).isSome

/-- The memory a place belongs to (0 device, 1 host, 2 + core a scratchpad), and its address there; a seam element has none of these. -/
def Loc.cell : Loc → Option (Nat × Nat)
  | .dev pa => some (0, pa)
  | .host a => some (1, a)
  | .spad c off => some (2 + c, off)
  | .peer c off => some (2 + c, off)
  | .seam _ _ _ => none

/-- The decoded element of a seam array in core `c`, as bytes of a memory of its own. -/
def seamCell (c sidx blk elem : Nat) : Nat × Nat := (1024 + c + 1024 * sidx, 4 * (256 * blk + elem))

/-- The write touched one of `n` bytes from `a`. -/
def Past.touches (p : Past) (space a n : Nat) : Bool := p.space == space && p.bytes.any fun b => decide (a ≤ b.1 ∧ b.1 < a + n)

/-- A read: its path, its unit, the operation or command it belongs to, and, for a command that fetches ahead, the number from which what was written since its start
counts (R331, R336). -/
structure Reader where
  path : Nat
  unit : Nat
  id : Nat
  since : Option Nat := none
  deriving DecidableEq, Repr

/-- The unit number by which the requests of graph nodes read, and that of a unit in save area `id`. -/
def nodeReader : Nat := 4096
/-- Of a unit in save area `id`. -/
def areaReader (id : Nat) : Nat := 4097 + id

/-- The sight covers a read. -/
def Sight.covers (t : Sight) (r : Reader) : Bool := t.path == r.path && decide (t.id ≤ r.id) && t.unit.all (· == r.unit)

/-- A read may not have seen the write: it is another path's and no fence lies between, or it fell while the reading command was fetching. -/
def Past.open (p : Past) (r : Reader) : Bool := (p.path != r.path && !p.seen.any (·.covers r)) || r.since.any fun n => decide (n ≤ p.id)

/-- Some reads have seen the write. -/
def Past.see (p : Past) (t : Sight) : Past :=
  if p.seen.any fun q => q.path == t.path && (q.unit.isNone || q.unit == t.unit) && decide (q.id ≤ t.id) then p
  else { p with seen := t :: p.seen.filter fun q => !(q.path == t.path && q.unit == t.unit) }

/-- The write is of a path, or reads of the path have seen it, of units that `near` picks. -/
def Past.shown (p : Past) (path : Nat) (near : Nat → Bool) : Bool := (p.path == path && near p.unit) || p.seen.any fun t => t.path == path && t.unit.all near

/-- The writes to some bytes that a read may not have seen, oldest first: none of which it has seen another part, for a read of one location returns one write (R180). -/
def State.pasts (s : State) (r : Reader) (space a n : Nat) : List Past := s.past.filter fun p =>
  p.open r && p.touches space a n && !s.past.any fun q => q.id == p.id && q.touches space a n && !q.open r

/-- Those it has not seen: the latest ones, as many as the free choice says. -/
def State.unseen (s : State) (r : Reader) (space a n : Nat) : List Past :=
  let l := s.pasts r space a n
  l.drop (l.length - Config.pastPick s.tick r.id a % (l.length + 1))

/-- A byte as it was before some writes. -/
def pastByte (l : List Past) (a : Nat) (now : Byte) : Byte := (l.findSome? fun p => mfind p.bytes a).getD now

/-- `n` bytes at address `a` of a memory as a read returns them, `v` being what they hold. -/
def State.viewAt (s : State) (r : Reader) (sp a n v : Nat) : Nat := match s.unseen r sp a n with
  | [] => v
  | old => leValue ((leBytes n v).mapIdx fun k b => pastByte old (a + k) b)

/-- `n` bytes at a place. -/
def State.view (s : State) (r : Reader) (l : Loc) (n v : Nat) : Nat := match l.cell with
  | some c => s.viewAt r c.1 c.2 n v
  | none => v

/-- Some reads have seen what a write did to the bytes `f` picks, and not the rest of it. -/
def Past.seeAt (p : Past) (t : Sight) (f : Nat → Bool) : List Past :=
  let a := p.bytes.filter fun b => f b.1
  let b := p.bytes.filter fun b => !f b.1
  if a.isEmpty then [p] else if b.isEmpty then [p.see t] else [{ p with bytes := b }, ({ p with bytes := a } : Past).see t]

/-- A read has returned bytes of some places: what it has seen, later reads of its path and unit see too (R258). -/
def State.viewedAt (s : State) (r : Reader) (ls : List (Loc × Nat)) : State :=
  let cells := ls.filterMap fun l => l.1.cell.map fun c => (c.1, c.2, l.2)
  { s with past := s.past.flatMap fun p =>
      let new := if p.open r then cells.filter fun c => c.1 == p.space && p.touches c.1 c.2.1 c.2.2 && !(s.unseen r c.1 c.2.1 c.2.2).contains p else []
      p.seeAt ⟨r.path, some r.unit, r.id⟩ fun k => new.any fun c => decide (c.2.1 ≤ k ∧ k < c.2.1 + c.2.2) }

/-- A read has returned some bytes. -/
def State.viewed (s : State) (r : Reader) (l : Loc) (n : Nat) : State := s.viewedAt r [(l, n)]

/-- An atomic, or a poll, has read the latest value of some bytes. -/
def State.viewedAll (s : State) (r : Reader) (l : Loc) (n : Nat) : State := match l.cell with
  | some (sp, a) => { s with past := s.past.flatMap fun p => p.seeAt ⟨r.path, some r.unit, r.id⟩ fun k => p.space == sp && decide (a ≤ k ∧ k < a + n) }
  | none => s

/-- A write is remembered, the last `Config.pastWrites` of them. -/
def State.remember (s : State) (l : List Past) (p : Past) : State :=
  let l := l ++ [{ p with id := s.nextId }]
  { s with past := l.drop (l.length - Config.pastWrites), nextId := s.nextId + 1 }

/-- A write of path `path` is about to replace some bytes, which it names with their values; readers of its own path see no older write of them any more. -/
def State.note (s : State) (path space unit : Nat) (cmd : Option Nat) (old : SMap Byte) : State :=
  if old.isEmpty then s
  else s.remember (s.past.flatMap fun p => if p.path != path && p.space == space then p.seeAt ⟨path, none, 0⟩ fun k => (mfind old k).isSome else [p])
    { path := path, space := space, unit := unit, cmd := cmd, bytes := old }

/-- A write of the host or of another package, which only a command that fetched ahead may have missed (R250, R331). -/
def State.noteOutside (s : State) (space : Nat) (old : SMap Byte) : State :=
  if old.isEmpty then s
  else s.remember s.past { path := 5, space := space, unit := nodeReader, bytes := old, seen := [⟨0, none, 0⟩, ⟨1, none, 0⟩, ⟨2, none, 0⟩, ⟨3, none, 0⟩, ⟨4, none, 0⟩] }

/-- The old values of some device bytes, at their home. -/
def State.oldDev (s : State) (b : SMap Byte) : SMap Byte := b.map fun p => (p.1, s.mem.read p.1)
/-- Of some bytes of host memory. -/
def State.oldHost (s : State) (b : SMap Byte) : SMap Byte := b.map fun p => (p.1, s.hostMem.read p.1)
/-- Of some bytes of a scratchpad. -/
def State.oldSpad (s : State) (c : Nat) (b : SMap Byte) : SMap Byte := b.map fun p => (p.1, mget 0 (s.core c).spad p.1)

/-- What some bytes held is nobody's to read any more. -/
def Past.without (p : Past) (space : Nat) (inside : Nat → Bool) : Past :=
  if p.space = space then { p with bytes := p.bytes.filter fun b => !inside b.1 } else p

/-- The same of every write. -/
def State.forget (s : State) (space : Nat) (inside : Nat → Bool) : State := { s with past := (s.past.map (·.without space inside)).filter (!·.bytes.isEmpty) }

/-- Every write that `f` picks has been seen by the reads of some path of unit `u` that follow. -/
def State.seeWhere (s : State) (u q : Nat) (f : Past → Bool) : State :=
  { s with past := s.past.map fun p => if f p then p.see ⟨q, some u, s.nextId⟩ else p }

/-- XFENCE `p`, `q` of unit `u` (R197, R255): reads of the unit on `q` from now on see every write of path `p`, and every write that path `p` has seen, of the unit
itself or, on the lane path, of its core (R267), but those of commands whose completion nobody has observed. -/
def State.pathFence (s : State) (u p q : Nat) (unobserved : Nat → Bool) : State :=
  s.seeWhere u q fun x => x.shown p (fun v => if p = 0 then coreOf v == coreOf u else v == u) && !x.cmd.any unobserved

/-- Units `u` and `v` lie in one instance of a level: the core, the layer, the chiplet, the reticle field, and wider the package (R36). -/
def sameInstance (lvl u v : Nat) : Bool := match lvl with
  | 0 => u == v
  | 1 => coreOf u == coreOf v
  | 2 => layerOf (coreOf u) == layerOf (coreOf v)
  | 3 => layerOf (coreOf u) / 2 == layerOf (coreOf v) / 2
  | 4 => layerOf (coreOf u) / 8 == layerOf (coreOf v) / 8
  | _ => true

/-- An acquire of unit `u` at a level: what lane reads of units the level encloses have seen, its own see from now on (R256, R258). -/
def State.adopt (s : State) (u lvl : Nat) : State := s.seeWhere u 0 (·.shown 0 (sameInstance lvl u))

/-- Reads by unit number `u`, on every path, see what commands that have ended have written. -/
def State.seeEnded (s : State) (u : Nat) (running : Nat → Bool) : State :=
  [0, 1, 2, 3, 4].foldl (fun s q => s.seeWhere u q fun x => !x.cmd.any running) s

/-- What unit `u` has seen says nothing of another unit in its place. -/
def State.forgetSight (s : State) (u : Nat) : State := { s with past := s.past.map fun p => { p with seen := p.seen.filter (·.unit != some u) } }

/-- A unit is gone: its writes are seen by all that follows it (R269, R284). -/
def State.forgetUnit (s : State) (u : Nat) : State := { s with past := s.past.filter fun p => p.unit != u }

end Sys2Proof.Machine
end

