-- ==== Sys2Proof/Machine/Ring.lean ====
section
/-! DEFINITION. The fault ring and the error records (R329, R372). -/

namespace Sys2Proof.Machine

/-- `kind` of a record (R329). -/
def RingWhat.kind : RingWhat → Nat
  | .touch _ => 1
  | .leadTrap _ => 2
  | .error => 3

/-- The 32 bytes of a record (R329). -/
def RingRec.bytes (r : RingRec) (seq : Nat) (ph : Bool) : List Byte :=
  leBytes 32 (r.info.toNat + seq % 2 ^ 32 * 2 ^ 64 + r.what.kind * 2 ^ 112 + (if ph then 2 ^ 127 else 0) + r.handle.toNat * 2 ^ 128 + r.addr.toNat * 2 ^ 192)

/-- The next slot may be written: the ring is set up and the write index does not reach FR_HEAD. -/
def FaultRing.room (f : FaultRing) : Bool := decide (4 ≤ f.size) && (f.widx + 1) % 2 ^ f.size != f.head

/-- Writes a record into the next slot. -/
def State.ringWrite (s : State) (r : RingRec) : State :=
  let f := s.fr
  let wraps := f.widx + 1 == 2 ^ f.size
  { s with
    hostMem := s.hostMem.writeAll (bytesAt (f.base.toNat + 32 * f.widx) (r.bytes f.seq f.ph))
    fr := { f with widx := if wraps then 0 else f.widx + 1, ph := if wraps then !f.ph else f.ph, seq := f.seq + 1,
                   asked := if r.what = .error then f.asked else f.asked ++ [(f.seq % 2 ^ 32, r)] } }

/-- Writes waiting records while there is room. -/
def State.ringFlush (s : State) : Nat → State
  | 0 => s
  | n + 1 => match s.fr.waiting with
    | [] => s
    | r :: t => if s.fr.room then (({ s with fr := { s.fr with waiting := t } } : State).ringWrite r).ringFlush n else s

/-- Writes waiting records while there is room. -/
def State.ringPump (s : State) : State := s.ringFlush s.fr.waiting.length

/-- A first-touch or lead-trap record: written, or waiting for room. -/
def State.ringPost (s : State) (r : RingRec) : State := ({ s with fr := { s.fr with waiting := s.fr.waiting ++ [r] } } : State).ringPump

/-- `info` of an error record (R372). -/
def ErrRec.info (e : ErrRec) : Nat := e.detail % 2 ^ 32 + e.sev % 256 * 2 ^ 40 + e.die % 256 * 2 ^ 48 + e.cls % 256 * 2 ^ 56

/-- An error record is written: to the buffer, which keeps the newest 4,096, or with FSPLIT bit 5 to the fault ring, where it is dropped and
counted when there is no room (R328, R329, R372). -/
def State.logError (s : State) (e : ErrRec) : State :=
  if s.fsplit.getLsbD 5 then
    if s.fr.waiting.isEmpty && s.fr.room then s.ringWrite { what := .error, addr := e.addr, info := BitVec.ofNat 64 e.info }
    else { s with fr := { s.fr with lost := s.fr.lost + 1 } }
  else { s with errs := mput s.errs (s.errNext % Config.errorRecords) e, errNext := s.errNext + 1 }

/-- An error record; what the manual does not give of it is free (assumption 30). -/
def State.report (s : State) (cls : Nat) (addr : DWord := 0) (sev : Option Nat := none) (detail : Option Nat := none) (die : Option Nat := none) : State :=
  let f := fun (k : Nat) (x : Option Nat) => x.getD (Config.errorField k s.nextId)
  (s.logError { cls := cls, die := f 0 die, sev := f 1 sev, detail := f 2 detail, addr := addr }).fresh

/-- The record about `w` that was numbered `seq`, if it is not yet answered. -/
def FaultRing.answered (f : FaultRing) (seq : Nat) : Option RingRec := (f.asked.find? fun p => p.1 == seq).map (·.2)

/-- It has been answered. -/
def State.ringAnswer (s : State) (seq : Nat) : State := { s with fr := { s.fr with asked := s.fr.asked.filter fun p => p.1 != seq } }

/-- A write to FR_BASE (R329). -/
def State.frBase (s : State) (v : DWord) : State :=
  if v.toNat % 4096 ≠ 0 then s else ({ s with fr := { s.fr with base := v, widx := 0, head := 0, ph := true } } : State).ringPump

/-- A write to FR_SIZE (R329). -/
def State.frSize (s : State) (v : DWord) : State :=
  if v.toNat < 4 ∨ 16 < v.toNat then s else ({ s with fr := { s.fr with size := v.toNat, widx := 0, head := 0, ph := true } } : State).ringPump

/-- A write to FR_HEAD: an index of the ring (R329). -/
def State.frHead (s : State) (v : DWord) : State :=
  if v.toNat < 2 ^ s.fr.size then ({ s with fr := { s.fr with head := v.toNat } } : State).ringPump else s

/-- FR_BASE (R329). -/
def execFrBase (v : BitVec 64) (s : State) : Host.Outcome State Fault Refusal := .next (s.frBase v)

/-- FR_SIZE (R329). -/
def execFrSize (v : BitVec 64) (s : State) : Host.Outcome State Fault Refusal := .next (s.frSize v)

/-- FR_HEAD (R329). -/
def execFrHead (v : BitVec 64) (s : State) : Host.Outcome State Fault Refusal := .next (s.frHead v)

end Sys2Proof.Machine
end

