-- ==== Sys2Proof/Machine/Flags.lean ====
section
/-! DEFINITION. The sticky FP flags (R29, R90). -/

namespace Sys2Proof.Machine

/-- Flags of one operation, in the places of `fpflags` (R29). -/
abbrev FpFlags := BitVec 8

/-- Invalid operation. -/
def flagNv : FpFlags := 0x01
/-- Division by zero. -/
def flagDz : FpFlags := 0x02
/-- Overflow. -/
def flagOf : FpFlags := 0x04
/-- Underflow. -/
def flagUf : FpFlags := 0x08
/-- Inexact. -/
def flagNx : FpFlags := 0x10
/-- Argument out of the reduced range. -/
def flagRg : FpFlags := 0x20

/-- `f` when the condition holds. -/
def flagIf (c : Bool) (f : FpFlags) : FpFlags := if c then f else 0

/-- The bits SWR may write to `fpflags` (R152). -/
def flagsWritable : FpFlags := 0x3F
/-- The bits SWR may write to `fpctl` (R152). -/
def fpctlWritable : BitVec 8 := 0x07

end Sys2Proof.Machine
end

