-- ==== Sys2Proof/Machine/Float.lean ====
section
/-! DEFINITION. Floating point: encodings (R81, R82), exact values, rounding (R85 to R89), the operations of R158, conversions to integers (R94). -/

namespace Sys2Proof.Machine

/-- A binary format: exponent bits, fraction bits (R81). -/
structure Fmt where
  ew : Nat
  fw : Nat
  deriving DecidableEq, Repr

/-- R81. -/
def fmtF64 : Fmt := ⟨11, 52⟩
def fmtF32 : Fmt := ⟨8, 23⟩
def fmtF16 : Fmt := ⟨5, 10⟩
def fmtBF16 : Fmt := ⟨8, 7⟩

/-- The exponent of the smallest normal number. -/
def Fmt.emin (f : Fmt) : Int := 2 - 2 ^ (f.ew - 1)
/-- The exponent field of all ones. -/
def Fmt.emax (f : Fmt) : Nat := 2 ^ f.ew - 1
/-- The encoding of infinity without its sign. -/
def Fmt.infMag (f : Fmt) : Nat := f.emax * 2 ^ f.fw
/-- The canonical NaN (R83). -/
def Fmt.nan (f : Fmt) : Nat := f.infMag + 2 ^ (f.fw - 1)
/-- The sign bit. -/
def Fmt.signBit (f : Fmt) : Nat := 2 ^ (f.ew + f.fw)

/-- An encoding with its sign. -/
def Fmt.signed (f : Fmt) (neg : Bool) (mag : Nat) : Nat := if neg then f.signBit + mag else mag

/-- An exact value: NaN, ±∞, ±0, or plus or minus `m` times 2^`e` with `m` not 0. -/
inductive Exact where
  | nan
  | inf (neg : Bool)
  | zero (neg : Bool)
  | real (neg : Bool) (m : Nat) (e : Int)
  deriving DecidableEq, Repr

/-- An operation's encoding and its flags. -/
structure Rounded where
  bits : Nat
  flags : FpFlags := 0
  deriving DecidableEq, Repr

/-- Sign, exponent field and fraction of an encoding. -/
def Fmt.sign (f : Fmt) (x : Nat) : Bool := x / f.signBit % 2 == 1
def Fmt.exp (f : Fmt) (x : Nat) : Nat := x / 2 ^ f.fw % 2 ^ f.ew
def Fmt.frac (f : Fmt) (x : Nat) : Nat := x % 2 ^ f.fw

/-- A signalling NaN (R82). -/
def Fmt.isSnan (f : Fmt) (x : Nat) : Bool :=
  f.exp x == f.emax && f.frac x != 0 && f.frac x < 2 ^ (f.fw - 1)
/-- A NaN (R82). -/
def Fmt.isNan (f : Fmt) (x : Nat) : Bool := f.exp x == f.emax && f.frac x != 0
/-- A subnormal number (R82). -/
def Fmt.isSubnormal (f : Fmt) (x : Nat) : Bool := f.exp x == 0 && f.frac x != 0

/-- The value of an encoding (R81, R82). -/
def Fmt.value (f : Fmt) (x : Nat) : Exact :=
  let e := f.exp x
  let m := f.frac x
  let neg := f.sign x
  if e = f.emax then (if m = 0 then .inf neg else .nan)
  else if e = 0 then (if m = 0 then .zero neg else .real neg m (f.emin - f.fw))
  else .real neg (2 ^ f.fw + m) (f.emin + (e - 1) - f.fw)

/-- The value of a source, with subnormals read as zero under `ftz` (R88). -/
def Fmt.source (f : Fmt) (ftz : Bool) (x : Nat) : Exact :=
  if ftz && f.isSubnormal x then .zero (f.sign x) else f.value x

/-- `m` times 2^`e` in units of 2^`q`: the whole part, and the rest compared with half a unit
(0 none, 1 below half, 2 half, 3 above half). -/
def scaleTo (m : Nat) (e q : Int) : Nat × Nat :=
  if q ≤ e then (m * 2 ^ (e - q).toNat, 0)
  else
    let k := (q - e).toNat
    let r := m % 2 ^ k
    (m / 2 ^ k, if r = 0 then 0 else if 2 * r < 2 ^ k then 1 else if 2 * r = 2 ^ k then 2 else 3)

/-- The rounding modes (R28): 0 nearest even, 1 toward zero, 2 up, 3 down. -/
abbrev Mode := BitVec 2

/-- Whether rounding adds one to the magnitude (R85). -/
def roundUp (mode : Mode) (neg : Bool) (n rest : Nat) : Bool :=
  match mode.toNat with
  | 0 => rest == 3 || (rest == 2 && n % 2 == 1)
  | 1 => false
  | 2 => rest != 0 && !neg
  | _ => rest != 0 && neg

/-- A magnitude rounded to an integer count of 2^`q`. -/
def roundTo (mode : Mode) (neg : Bool) (m : Nat) (e q : Int) : Nat :=
  let p := scaleTo m e q
  p.1 + if roundUp mode neg p.1 p.2 then 1 else 0

/-- `Round(x, fmt, mode)` of a non-zero real (R85 to R88). -/
def roundReal (f : Fmt) (mode : Mode) (ftz neg : Bool) (m : Nat) (e : Int) : Rounded :=
  let top := e + Nat.log2 m
  let q := max top f.emin - f.fw
  let p := scaleTo m e q
  let inexact := p.2 != 0
  let mag := (max top f.emin - f.emin).toNat * 2 ^ f.fw + roundTo mode neg m e q
  let tiny := decide (top < f.emin) &&
    !(decide (top = f.emin - 1) && roundTo mode neg m e (top - f.fw) == 2 ^ (f.fw + 1))
  if f.infMag ≤ mag then
    let up := match mode.toNat with
      | 0 => true
      | 1 => false
      | 2 => !neg
      | _ => neg
    ⟨f.signed neg (if up then f.infMag else f.infMag - 1), flagOf ||| flagNx⟩
  else if tiny && ftz then ⟨f.signed neg 0, flagUf ||| flagNx⟩
  else ⟨f.signed neg mag, flagIf inexact flagNx ||| flagIf (tiny && inexact) flagUf⟩

/-- `Round(x, fmt, mode)` (R85). `ftz` is passed for the results that R88 names. -/
def round (f : Fmt) (mode : Mode) (ftz : Bool) : Exact → Rounded
  | .nan => ⟨f.nan, 0⟩
  | .inf neg => ⟨f.signed neg f.infMag, 0⟩
  | .zero neg => ⟨f.signed neg 0, 0⟩
  | .real neg m e => roundReal f mode ftz neg m e

/-- The value with the sign inverted. -/
def Exact.neg : Exact → Exact
  | .nan => .nan
  | .inf n => .inf !n
  | .zero n => .zero !n
  | .real n m e => .real (!n) m e

/-- A signed integer times 2^`e`; `negZero` is the sign of a zero. -/
def exactOfInt (x : Int) (e : Int) (negZero : Bool) : Exact :=
  if x = 0 then .zero negZero else .real (decide (x < 0)) x.natAbs e

/-- A real's signed mantissa in units of 2^`q`, `q` at most its exponent. -/
def mant (neg : Bool) (m : Nat) (e q : Int) : Int :=
  let k : Int := m * 2 ^ (e - q).toNat
  if neg then -k else k

/-- The exact sum, with the zero signs of R89; the flag says ∞ − ∞. -/
def exactAdd (mode : Mode) : Exact → Exact → Exact × FpFlags
  | .nan, _ => (.nan, 0)
  | _, .nan => (.nan, 0)
  | .inf a, .inf b => if a = b then (.inf a, 0) else (.nan, flagNv)
  | .inf a, _ => (.inf a, 0)
  | _, .inf b => (.inf b, 0)
  | .zero a, .zero b => (.zero (if a = b then a else mode == 3), 0)
  | .zero _, .real n m e => (.real n m e, 0)
  | .real n m e, .zero _ => (.real n m e, 0)
  | .real n m e, .real n' m' e' =>
    let q := min e e'
    (exactOfInt (mant n m e q + mant n' m' e' q) q (mode == 3), 0)

/-- The exact product, with the zero signs of R89; the flag says 0 × ∞. -/
def exactMul : Exact → Exact → Exact × FpFlags
  | .nan, _ => (.nan, 0)
  | _, .nan => (.nan, 0)
  | .inf a, .inf b => (.inf (a != b), 0)
  | .inf _, .zero _ => (.nan, flagNv)
  | .zero _, .inf _ => (.nan, flagNv)
  | .inf a, .real n _ _ => (.inf (a != n), 0)
  | .real n _ _, .inf b => (.inf (n != b), 0)
  | .zero a, .zero b => (.zero (a != b), 0)
  | .zero a, .real n _ _ => (.zero (a != n), 0)
  | .real n _ _, .zero b => (.zero (n != b), 0)
  | .real n m e, .real n' m' e' => (.real (n != n') (m * m') (e + e'), 0)

/-- Whether a real is below another: signed comparison of mantissas in common units. -/
def realLt (n : Bool) (m : Nat) (e : Int) (n' : Bool) (m' : Nat) (e' : Int) : Bool :=
  let q := min e e'
  decide (mant n m e q < mant n' m' e' q)

/-- `a < b` of two values that are no NaN, ±0 equal (R160). -/
def exactLt : Exact → Exact → Bool
  | .nan, _ => false
  | _, .nan => false
  | .inf a, .inf b => a && !b
  | .inf a, _ => a
  | _, .inf b => !b
  | .zero _, .zero _ => false
  | .zero _, .real n _ _ => !n
  | .real n _ _, .zero _ => n
  | .real n m e, .real n' m' e' => realLt n m e n' m' e'

/-- Flags of signalling NaN sources (R83). -/
def snanFlags (f : Fmt) (xs : List Nat) : FpFlags := flagIf (xs.any f.isSnan) flagNv

/-- What an FP operation reads of `fpctl` (R28): the mode, and whether `ftz` acts on the format (R88). -/
structure FpEnv where
  mode : Mode := 0
  ftz : Bool := false
  deriving DecidableEq, Repr

/-- VADD (R158). -/
def fpAdd (f : Fmt) (v : FpEnv) (a b : Nat) : Rounded :=
  let r := exactAdd v.mode (f.source v.ftz a) (f.source v.ftz b)
  let y := round f v.mode v.ftz r.1
  ⟨y.bits, y.flags ||| r.2 ||| snanFlags f [a, b]⟩

/-- VSUB (R158). -/
def fpSub (f : Fmt) (v : FpEnv) (a b : Nat) : Rounded :=
  let r := exactAdd v.mode (f.source v.ftz a) (f.source v.ftz b).neg
  let y := round f v.mode v.ftz r.1
  ⟨y.bits, y.flags ||| r.2 ||| snanFlags f [a, b]⟩

/-- VMUL (R158). -/
def fpMul (f : Fmt) (v : FpEnv) (a b : Nat) : Rounded :=
  let r := exactMul (f.source v.ftz a) (f.source v.ftz b)
  let y := round f v.mode v.ftz r.1
  ⟨y.bits, y.flags ||| r.2 ||| snanFlags f [a, b]⟩

/-- The fused forms (R158): the product negated when `np`, the addend when `nd`; one rounding. -/
def fpFma (f : Fmt) (np nd : Bool) (v : FpEnv) (a b d : Nat) : Rounded :=
  let p := exactMul (f.source v.ftz a) (f.source v.ftz b)
  let c := f.source v.ftz d
  let r := exactAdd v.mode (if np then p.1.neg else p.1) (if nd then c.neg else c)
  let y := round f v.mode v.ftz r.1
  ⟨y.bits, y.flags ||| p.2 ||| r.2 ||| snanFlags f [a, b, d]⟩

/-- A source as VMIN and VMAX return it: unrounded, after `ftz` (R158). -/
def fpRead (f : Fmt) (ftz : Bool) (x : Nat) : Nat := if ftz && f.isSubnormal x then f.signed (f.sign x) 0 else x

/-- `a` is below `b`, with −0 below +0 (R158). -/
def fpBelow (f : Fmt) (a b : Nat) : Bool :=
  exactLt (f.value a) (f.value b) || (!exactLt (f.value b) (f.value a) && f.sign a && !f.sign b)

/-- VMIN, or VMAX when `big` (R158). -/
def fpPick (f : Fmt) (big : Bool) (v : FpEnv) (a b : Nat) : Rounded :=
  let x := fpRead f v.ftz a
  let y := fpRead f v.ftz b
  let r :=
    if f.isNan x && f.isNan y then f.nan
    else if f.isNan x then y
    else if f.isNan y then x
    else if fpBelow f x y then (if big then y else x) else (if big then x else y)
  ⟨r, snanFlags f [a, b]⟩

/-- VABS: the sign bit cleared (R84). -/
def fpAbs (f : Fmt) (_ : FpEnv) (a : Nat) : Rounded := ⟨a % f.signBit, 0⟩

/-- VNEG: the sign bit inverted (R84). -/
def fpNeg (f : Fmt) (_ : FpEnv) (a : Nat) : Rounded :=
  ⟨if f.sign a then a % f.signBit else a + f.signBit, 0⟩

/-- An exact value rounded to an integer (R94). -/
def roundInt (mode : Mode) (neg : Bool) (m : Nat) (e : Int) : Int :=
  let n : Int := roundTo mode neg m e 0
  if neg then -n else n

/-- A float converted to an integer of the range `lo` to `hi` (R94). -/
def toInteger (mode : Mode) (lo hi : Int) : Exact → Int × FpFlags
  | .nan => (0, flagNv)
  | .inf neg => (if neg then lo else hi, flagNv)
  | .zero _ => (0, 0)
  | .real neg m e =>
    let n := roundInt mode neg m e
    if n < lo then (lo, flagNv)
    else if hi < n then (hi, flagNv)
    else (n, flagIf ((scaleTo m e 0).2 != 0) flagNx)

/-- The ordering outcomes of a comparison (R160). -/
structure Ordering4 where
  lt : Bool
  eq : Bool
  un : Bool
  deriving DecidableEq, Repr

/-- Compares two encodings (R160). -/
def fpCompare (f : Fmt) (ftz : Bool) (a b : Nat) : Ordering4 :=
  if f.isNan a || f.isNan b then ⟨false, false, true⟩
  else
    let x := f.source ftz a
    let y := f.source ftz b
    ⟨exactLt x y, !exactLt x y && !exactLt y x, false⟩

end Sys2Proof.Machine
end

