-- ==== Sys2Proof/Machine/SeamCode.lean ====
section
/-! DEFINITION. The seam code (R107 to R122): records, addresses, encoding and decoding of blocks. -/

namespace Sys2Proof.Machine

/-- A seam record (R107). -/
structure SeamRec where
  d : Nat
  rate : Nat
  fin : Bool
  nx : Nat
  ny : Nat
  nz : Nat
  sbase : Nat
  dbase : Nat
  deriving DecidableEq, Repr

/-- Values of a block (R108). -/
def SeamRec.n (r : SeamRec) : Nat := 4 ^ r.d
/-- Bits of a block. -/
def SeamRec.bits (r : SeamRec) : Nat := r.rate * r.n
/-- Bytes of a block. -/
def SeamRec.bytes (r : SeamRec) : Nat := r.bits / 8
/-- Elements of the array. -/
def SeamRec.elements (r : SeamRec) : Nat := r.nx * r.ny * r.nz

/-- The record whose 32 bytes have value `x`; none when it is in error (R108). -/
def seamRecOf (x : Nat) : Option SeamRec :=
  let d := recField x 0 2
  let rate := recField x 8 6
  let fin := recField x 14 1 == 1
  let nx := recField x 32 32
  let ny := recField x 64 32
  let nz := recField x 96 32
  let sbase := recField x 128 64
  let dbase := recField x 192 64
  let rateOk := match d with
    | 1 => rate == 8 || rate == 16 || rate == 24 || rate == 32
    | 2 => rate % 2 == 0 && 2 ≤ rate && rate ≤ 32
    | 3 => 1 ≤ rate && rate ≤ 32
    | _ => false
  if rateOk && recField x 2 6 == 0 && recField x 16 16 == 0 && (fin || decide (2 * 4 ^ d + 15 ≤ rate * 4 ^ d)) &&
      nx != 0 && ny != 0 && nz != 0 && (2 ≤ d || ny == 1) && (3 ≤ d || nz == 1) && decide (nx * ny * nz ≤ 2 ^ 36) &&
      dbase % 65536 == 0 && sbase % 32 == 0 && decide (sbase < 2 ^ 52)
  then some ⟨d, rate, fin, nx, ny, nz, sbase, dbase⟩
  else none

/-- Address of a record (R109). -/
def State.seamRecAddr (s : State) (sidx : Nat) : Nat := s.ctx.seambase.toNat + 32 * sidx

/-- Where the record stands: a migration may have moved its line (R321). -/
def State.seamRecPlace (s : State) (sidx : Nat) : Nat := s.redirect (s.seamRecAddr sidx)

/-- What reads or writes the record waits at its home (R342). -/
def State.seamRecHeld (s : State) (sidx : Nat) : Bool := s.held (sectorOf (s.seamRecPlace sidx))

/-- The contents of record `sidx` at its home, `clip` left out; where it cannot be read 0, which is in error (R109, R301). -/
def State.seamRecBits (s : State) (sidx : Nat) : Nat :=
  let a := s.seamRecPlace sidx
  if sidx < s.ctx.seamlen ∧ s.backed a ∧ !s.poisoned a then
    let x := s.mem.readNat a 32
    x - 2 ^ 15 * recField x 15 1
  else 0

/-- The record of index `sidx`, read at its home; none when it is in error (R108, R109, R301). -/
def State.seamRec (s : State) (sidx : Nat) : Option SeamRec := seamRecOf (s.seamRecBits sidx)

/-- What an access names its seam array by: the index, and the record as it stood at issue, so that it never mixes two (R109, assumption 89). -/
def State.seamHandle (s : State) (sidx : Nat) : Nat := sidx + 4096 * s.seamRecBits sidx

/-- The record of a handle. -/
def handleRec (h : Nat) : Option SeamRec := seamRecOf (h / 4096)

/-- Block number and slot of an element address; none outside the decoded view (R110 to R112). The spec speaks only of addresses at or beyond its end; one below `dbase`
is outside it too: DESIGN CHOICE (assumption 104). -/
def SeamRec.place (r : SeamRec) (va : Nat) : Option (Nat × Nat) :=
  let off := (va - r.dbase) / 4
  if va < r.dbase ∨ r.elements ≤ off then none
  else
    let x := off % r.nx
    let y := off / r.nx % r.ny
    let z := off / (r.nx * r.ny)
    let bx := (r.nx + 3) / 4
    let by' := (r.ny + 3) / 4
    some (x / 4 + bx * (y / 4 + by' * (z / 4)), x % 4 + 4 * (y % 4) + 16 * (z % 4))

/-- Storage address of a block (R111). -/
def SeamRec.storage (r : SeamRec) (blk : Nat) : Nat := r.sbase + blk * r.bytes

/-- The slot whose value a padding slot takes: coordinates clamped to the extents (R112). -/
def SeamRec.padSlot (r : SeamRec) (blk slot : Nat) : Nat :=
  let bx := (r.nx + 3) / 4
  let by' := (r.ny + 3) / 4
  let x := min (4 * (blk % bx) + slot % 4) (r.nx - 1)
  let y := min (4 * (blk / bx % by') + slot / 4 % 4) (r.ny - 1)
  let z := min (4 * (blk / (bx * by')) + slot / 16) (r.nz - 1)
  x % 4 + 4 * (y % 4) + 16 * (z % 4)

/-! ### Transform (R116) -/

/-- `Fwd4`. -/
def fwd4 (a0 a1 a2 a3 : Word) : List Word :=
  let d0 := a1 - a0
  let s0 := a0 + d0.sshiftRight 1
  let d1 := a3 - a2
  let s1 := a2 + d1.sshiftRight 1
  let dd := s1 - s0
  [s0 + dd.sshiftRight 1, dd, d0, d1]

/-- `Inv4`. -/
def inv4 (ss dd d0 d1 : Word) : List Word :=
  let s0 := ss - dd.sshiftRight 1
  let s1 := s0 + dd
  let a0 := s0 - d0.sshiftRight 1
  let a2 := s1 - d1.sshiftRight 1
  [a0, a0 + d0, a2, a2 + d1]

/-- Applies `f` to every line of four slots along the dimension of stride `st`. -/
def onLines (st : Nat) (f : Word → Word → Word → Word → List Word) (v : List Word) : List Word :=
  v.mapIdx fun j _ =>
    let p := j / st % 4
    let b := j - p * st
    (f (v.getD b 0) (v.getD (b + st) 0) (v.getD (b + 2 * st) 0) (v.getD (b + 3 * st) 0)).getD p 0

/-- Along x, then y, then z. -/
def forward (d : Nat) (v : List Word) : List Word :=
  let v := onLines 1 fwd4 v
  let v := if 2 ≤ d then onLines 4 fwd4 v else v
  if 3 ≤ d then onLines 16 fwd4 v else v

/-- Along z, then y, then x. -/
def inverse (d : Nat) (v : List Word) : List Word :=
  let v := if 3 ≤ d then onLines 16 inv4 v else v
  let v := if 2 ≤ d then onLines 4 inv4 v else v
  onLines 1 inv4 v

/-- `Seq`: slots by ascending i + j + k, then k, then j (R117). -/
def seqOrder (d : Nat) : List Nat :=
  (List.range 10).flatMap fun t =>
    (List.range (if 3 ≤ d then 4 else 1)).flatMap fun k =>
      (List.range (if 2 ≤ d then 4 else 1)).filterMap fun j =>
        if j + k ≤ t ∧ t ≤ j + k + 3 then some (t - j - k + 4 * j + 16 * k) else none

/-- The negabinary constant of R118. -/
def negaBits : Word := 0xAAAAAAAA

/-! ### Encoding (R114, R115, R118, R119) -/

/-- The replacement a finite-only array makes (R114). -/
def finite (x : Word) : Word :=
  if fmtF32.isNan x.toNat then 0
  else if x = 0x7F800000 then 0x7F7FFFFF
  else if x = 0xFF800000 then 0xFF7FFFFF
  else x

/-- The class of a value in the special form (R113). -/
def classOf (x : Word) : Nat :=
  if fmtF32.isNan x.toNat then 3 else if x = 0x7F800000 then 1 else if x = 0xFF800000 then 2 else 0

/-- Quantises a finite value at exponent `e` (R115). -/
def quantSlot (e : Int) (x : Word) : Word :=
  match fmtF32.value x.toNat with
  | .real neg m ex =>
    let q : Int := (scaleTo m ex (e - 22)).1
    BitVec.ofInt 32 (if neg then -q else q)
  | _ => 0

/-- Bits `bs` written from position `pos` up to `limit`. -/
def bitsFrom (limit : Nat) : Nat → List Bool → Nat
  | _, [] => 0
  | pos, b :: t => if limit ≤ pos then 0 else (if b then 2 ^ pos else 0) + bitsFrom limit (pos + 1) t

/-- The planes from 31 − P down, in coefficient order (R119). -/
def planeBits (p : Nat) (u : List Word) : List Bool :=
  (List.range (32 - p)).flatMap fun i => u.map fun w => w.getLsbD (31 - p - i)

/-- P: planes from 31 down in which every word holds 0, at most 31 (R118). -/
def emptyPlanes (u : List Word) : Nat :=
  let all := u.foldl (· ||| ·) 0
  if all = 0 then 31 else min 31 (31 - Nat.log2 all.toNat)

/-- The bits of a block, and whether a non-finite value was replaced (R114). -/
def encodeBlock (d rate : Nat) (fin : Bool) (vals : List Word) : Nat × Bool :=
  let clip := fin && vals.any fun x => classOf x != 0
  let vals := if fin then vals.map finite else vals
  let n := 4 ^ d
  if vals.all fun x => x == 0 || x == 0x80000000 then (1, clip)
  else
    let special := vals.any fun x => classOf x != 0
    let plain := vals.map fun x => if classOf x = 0 then x else 0
    let emax := max 1 (plain.foldl (fun m x => max m (fmtF32.exp x.toNat)) 0)
    let q := plain.map (quantSlot ((emax : Int) - 127))
    let c := forward d q
    let u := (seqOrder d).map fun j => (c.getD j 0 + negaBits) ^^^ negaBits
    let p := emptyPlanes u
    let base := if special then 2 * n + 2 else 2
    let head :=
      (if special then 2 + 4 * leClasses (vals.map classOf) else 0) + emax * 2 ^ base + p * 2 ^ (base + 8)
    (head + bitsFrom (rate * n) (base + 13) (planeBits p u), clip)
where
  /-- Two bits of class for each slot. -/
  leClasses : List Nat → Nat
    | [] => 0
    | x :: t => x + 4 * leClasses t

/-! ### Decoding (R121, R122) -/

/-- A decoded coefficient from its plane bits: bit `k` of `u[j]` lies at `h` + (31 − P − k) n + j; bits past the block are 0. -/
def coefficient (x h limit p n j : Nat) : Word :=
  BitVec.ofNat 32 ((List.range (32 - p)).foldl (fun acc i =>
    let pos := h + i * n + j
    acc + (if pos < limit ∧ x / 2 ^ pos % 2 = 1 then 2 ^ (31 - p - i) else 0)) 0)

/-- The slot order undone: the value of slot `i` is that of the coefficient placed there. -/
def unorder (d : Nat) (c : List Word) : List Word :=
  (List.range (4 ^ d)).map fun i => c.getD ((seqOrder d).idxOf i) 0

/-- A clamped slot as F32 (R122 steps 6 and 7). -/
def slotValue (e : Int) (x : Word) : Word :=
  let q := max (-(2 ^ 24 - 1)) (min x.toInt (2 ^ 24 - 1))
  BitVec.ofNat 32 (round fmtF32 0 false (exactOfInt q (e - 22) false)).bits

/-- The values of a block of `rate` × `n` bits; none when its header is malformed (R121). -/
def decodeBlock (d rate : Nat) (fin : Bool) (x : Nat) : Option (List Word) :=
  let n := 4 ^ d
  let z := x % 2 == 1
  let sp := x / 2 % 2 == 1
  if z && sp then none
  else if z then some (List.replicate n 0)
  else if sp && fin then none
  else
    let base := if sp then 2 * n + 2 else 2
    let field := x / 2 ^ base % 256
    if field = 255 then none
    else
      let e : Int := (max 1 field : Nat) - 127
      let p := x / 2 ^ (base + 8) % 32
      let c := (List.range n).map fun j =>
        ((coefficient x (base + 13) (rate * n) p n j) ^^^ negaBits) - negaBits
      let q := inverse d (unorder d c)
      some (q.mapIdx fun i w =>
        match (if sp then x / 2 ^ (2 * i + 2) % 4 else 0) with
        | 0 => slotValue e w
        | 1 => 0x7F800000
        | 2 => 0xFF800000
        | _ => 0x7FC00000)

end Sys2Proof.Machine
end

