-- ==== Sys2Proof/Machine/MemSys.lean ====
section
/-! DEFINITION. Where accesses go and how they are performed: places and checks (R177, R178, R186), the memory port and L1 (R243, R244), layer caches and the home (R246 to R250), the conditions of fences and release words (R195, R389). -/

namespace Sys2Proof.Machine

/-! ### Levels (R36, R37) -/

/-- Widest in-device scope of the presentation mode. -/
def State.widest (s : State) : Nat := match s.ctx.pmode with
  | 1 => 5 | 2 => 4 | _ => 3

/-- Layers of the presented device (R241). -/
def State.layerCount (s : State) : Nat := 16 / s.ctx.pmode

/-- The survey included this compute layer. -/
def State.layerPresent (s : State) (y : Nat) : Bool := (mget {} s.svy.dies y).state == 1

/-- The build has one logic layer per chiplet, as the survey found it: layers it included, and no chiplet with both (R262, R264). -/
def State.oneLayer (s : State) : Bool :=
  (List.range 16).any s.layerPresent && (List.range 8).all fun k => !(s.layerPresent (2 * k) && s.layerPresent (2 * k + 1))

/-- `Promote` of an already widened level: the layer is past where the chart reports it the same as the chiplet (R264), levels above the device's become pod (R37). -/
def State.promoteFrom (s : State) (e : Nat) : Nat :=
  let e := if e = 2 ∧ s.oneLayer then 3 else e
  if s.widest < e ∧ e < 6 then 6 else e

/-! ### Places -/

/-- What an access is. -/
inductive AccKind where
  | load | store | atomic | poll
  deriving DecidableEq, Repr

/-- An access to be placed: its size, kind, and whether its type may reach a seam page (R110). -/
structure Want where
  size : Nat
  kind : AccKind
  seamOk : Bool := false
  deriving DecidableEq, Repr

/-- Where an access goes, `pm` of its page, or why it does not. -/
inductive Place where
  | at (l : Loc) (pm : Bool)
  | touch
  | fault (c : TrapCode)
  deriving DecidableEq, Repr

/-- The permission an access needs (R304). -/
def AccKind.allowed (k : AccKind) (leaf : DWord) : Bool :=
  match k with
  | .store => pteW leaf
  | .atomic => pteR leaf && pteW leaf
  | _ => pteR leaf

/-- Units of one launch: the same job's node, by handle (R186, R287). -/
def sameLaunch (a b : Unit) : Bool :=
  a.bind.handle == b.bind.handle && (a.origin.map (·.job)) == (b.origin.map (·.job))

/-- A peer-window address (R186) of unit `u`. -/
def State.peerPlace (s : State) (u : Nat) (x : Unit) (a size : Nat) : Place :=
  let slot := a / 2 ^ 25 % 4
  let core := a / 2 ^ 19 % 64
  let off := a % 2 ^ 19
  let c := layerOf (coreOf u) * Config.coresPerLayer + core
  let t := 4 * c + slot
  if 2 ^ 27 ≤ a ∨ Config.coresPerLayer ≤ core then .fault .protection
  else match s.unit? t with
    | none => .fault .protection
    | some y =>
      if (t != u && !(x.bind.cohort && sameLaunch x y)) || y.kte.scratch < off + size then .fault .protection
      else if t = u then .at (.spad c (y.bind.spbase + off)) false
      else .at (.peer c (y.bind.spbase + off)) false

/-- A global access of unit `u` through a leaf (checks 3 and 4 of R178; R110, R304). -/
def State.leafPlace (s : State) (va leaf : DWord) (w : Want) : Place :=
  if pteS leaf then
    if w.kind = .atomic then .fault .atomicOnSeam
    else if w.kind = .poll ∨ w.size ≠ 4 ∨ !w.seamOk then .fault .protection
    else if s.seamRecHeld (pteSidx leaf) then .touch
    else match s.seamRec (pteSidx leaf) with
      | some r => match r.place va.toNat with
        | some p => if w.kind.allowed leaf then .at (.seam (s.seamHandle (pteSidx leaf)) p.1 p.2) false else .fault .protection
        | none => .fault .protection
      | none => if w.kind.allowed leaf then .at (.seam (s.seamHandle (pteSidx leaf)) 0 0) false else .fault .protection
  else if !w.kind.allowed leaf then .fault .protection
  else
    let pa := s.phys leaf va
    if pteKind leaf != 0 then .at (.host pa) false
    else if s.backed pa then .at (.dev pa) (ptePm leaf)
    else .fault .protection

/-- A global access of unit `u`, checks 1 to 4 of R178 in order. -/
def State.globalPlace (s : State) (u : Nat) (x : Unit) (va : DWord) (w : Want) : Place :=
  if va.toNat % w.size ≠ 0 then .fault .misaligned
  else if s.inPeerRegion va then s.peerPlace u x (va.toNat - s.ctx.pwbase.toNat) w.size
  else match s.laneXlate u va with
    | .invalid => .fault .translation
    | .touch _ => .touch
    | .leaf e => s.leafPlace va e w

/-- A scratchpad access of unit `u` (checks 1 and 4). -/
def State.spadPlace (u : Nat) (x : Unit) (off : DWord) (size align : Nat) : Place :=
  if off.toNat % align ≠ 0 then .fault .misaligned
  else if x.kte.scratch < off.toNat + size then .fault .protection
  else .at (.spad (coreOf u) (x.bind.spbase + off.toNat)) false

/-! ### Scratchpads -/

/-- Bytes of a core's scratchpad as a value. -/
def State.spadRead (s : State) (c off n : Nat) : Nat := leValue ((List.range n).map fun k => mget 0 (s.core c).spad (off + k))

/-- The same as a read returns it (R266, assumption 85). -/
def State.spadView (s : State) (r : Reader) (c off n : Nat) : Nat := s.view r (.spad c off) n (s.spadRead c off n)

/-- The read that a word of the stream that issues makes. -/
def State.laneReader (s : State) : Reader := ⟨0, s.who.u, s.nextId, none⟩

/-- An uncorrectable error lies in the 4-byte words the bytes touch (R318). -/
def State.spadPoisoned (s : State) (c off n : Nat) : Bool :=
  (List.range n).any fun k => (s.core c).spadBad.contains ((off + k) / 4)

/-- Writes bytes; a word written whole is sound again (assumption 24). -/
def State.spadWrite (s : State) (c off n x : Nat) : State :=
  s.modCore c fun k =>
    { k with
      spad := (valueAt off n x).foldl (fun m p => mset 0 m p.1 p.2) k.spad
      spadBad := k.spadBad.filter fun w => !(decide (off ≤ 4 * w) && decide (4 * w + 4 ≤ off + n)) }

/-! ### Overlap -/

/-- The sector key of a place outside scratchpads: device sectors even, host sectors odd. -/
def Loc.sector : Loc → Option Nat
  | .dev pa => some (2 * sectorOf pa)
  | .host a => some (2 * sectorOf a + 1)
  | _ => none

/-- The sector key of a port request. -/
def PortReq.sector (r : PortReq) : Option Nat :=
  match r.dest, r.bytes with
  | .dev, p :: _ => some (2 * sectorOf p.1)
  | .host, p :: _ => some (2 * sectorOf p.1 + 1)
  | _, _ => none

/-- The sector key of device byte `pa`. -/
def devKey (pa : Nat) : Nat := 2 * sectorOf pa
/-- Of host byte `a`. -/
def hostKey (a : Nat) : Nat := 2 * sectorOf a + 1

/-- The bytes of an access, as addresses. -/
def Acc.bytes (a : Acc) : List Nat :=
  match a.loc with
  | .dev pa => (List.range a.size).map (pa + ·)
  | .host x => (List.range a.size).map (x + ·)
  | .peer _ off => (List.range a.size).map (off + ·)
  | _ => []

/-- Two accesses may touch the same location (R181). -/
def Acc.clash (a b : Acc) : Bool :=
  match a.loc, b.loc with
  | .dev p, .dev q => decide (p < q + b.size ∧ q < p + a.size)
  | .host p, .host q => decide (p < q + b.size ∧ q < p + a.size)
  | .peer c p, .peer k q => c == k && decide (p < q + b.size ∧ q < p + a.size)
  | .seam i p _, .seam j q _ => i == j && p == q
  | _, _ => false

/-- An access touches bytes of a port request. -/
def Acc.meets (a : Acc) (r : PortReq) : Bool :=
  match a.loc, r.dest with
  | .dev p, .dev => r.bytes.any fun x => decide (p ≤ x.1 ∧ x.1 < p + a.size)
  | .host p, .host => r.bytes.any fun x => decide (p ≤ x.1 ∧ x.1 < p + a.size)
  | .peer c p, .peer k => c == k && r.bytes.any fun x => decide (p ≤ x.1 ∧ x.1 < p + a.size)
  | _, _ => false

/-- The core's memory port holds a store, or a write-back of a block, the access must wait for (R181, R244, R378). -/
def Core.portBusy (k : Core) (a : Acc) : Bool :=
  (k.port.any fun r => (a.loc.sector.isSome && r.sector == a.loc.sector) || a.meets r) ||
    match a.loc with
    | .dev pa => k.wbs.any fun w => w.bytes.any fun p => decide (sectorOf pa ≤ sectorOf p.1 ∧ sectorOf p.1 ≤ sectorOf (pa + (a.size - 1)))
    | _ => false

/-- The outstanding operations of a stream's holder: gang `g`, or the lead for 32. -/
def Unit.opsAt (x : Unit) (g : Nat) : List Op :=
  if g = 32 then x.lead.ops else match mfind x.gangs g with
    | some y => y.ops
    | none => []

/-! ### Clocks and the layer caches (R246, R249) -/

/-- Every counter of `a` is at most that of `b`. -/
def clockLe (a b : Clock) : Bool := a.all fun p => decide (p.2 ≤ mget 0 b p.1)

/-- The larger counter of each. -/
def clockJoin (a b : Clock) : Clock := b.foldl (fun m p => mset 0 m p.1 (max (mget 0 m p.1) p.2)) a

/-- A write names this stamp from layer `src`: everything it names but itself has been applied (R249). -/
def clockReady (src : Nat) (stamp clock : Clock) : Bool :=
  stamp.all fun p => decide (p.2 ≤ mget 0 clock p.1 + if p.1 = src then 1 else 0)

/-- The sectors of some bytes carry a clock with what they carried. -/
def stampWith (m : SMap Clock) (c : Clock) (bytes : SMap Byte) : SMap Clock :=
  (bytes.map fun p => sectorOf p.1).eraseDups.foldl (fun m sec => mput m sec (clockJoin (mget [] m sec) c)) m

/-- A write of layer `y` to device bytes past its layer cache carries the layer's clock, and with it what its writer may have observed (R257; assumption 87). -/
def State.stampDev (s : State) (y : Nat) (bytes : SMap Byte) : State := { s with stamps := stampWith s.stamps (s.layer y).clock bytes }

/-- The same to host memory. -/
def State.stampHost (s : State) (y : Nat) (bytes : SMap Byte) : State := { s with hostStamps := stampWith s.hostStamps (s.layer y).clock bytes }

/-- A write of another package carries every stamp: its writer may have observed anything that stands at a home. -/
def State.stampAll (s : State) (bytes : SMap Byte) : State := { s with stamps := stampWith s.stamps (s.stamps.foldl (fun c p => clockJoin c p.2) []) bytes }

/-- Layer `y` has applied what the stamp of a device sector names: a read of it may be delivered there (R249). -/
def State.devReady (s : State) (y sec : Nat) : Bool := clockLe (mget [] s.stamps sec) (s.layer y).clock

/-- The same of a sector of host memory. -/
def State.hostReady (s : State) (y sec : Nat) : Bool := clockLe (mget [] s.hostStamps sec) (s.layer y).clock

/-- A sector enters a layer cache; one that is full gives up another, the lowest (assumption 88). -/
def LayerCache.fill (l : LayerCache) (sec : Nat) (x : BitVec 256) : LayerCache :=
  let keep := if l.copies.length < Config.layerSectors || (mfind l.copies sec).isSome then l.copies else l.copies.drop 1
  { l with copies := mput keep sec x }

/-- The line of a sector key of L1 (R244). -/
def l1Line (key : Nat) : Nat := key / 8 * 2 + key % 2

/-- A sector enters L1; when its lines are all taken another leaves, the lowest (assumption 88). -/
def Core.fillL1 (k : Core) (key : Nat) (x : BitVec 256) : Core :=
  let others := k.l1.filter fun p => l1Line p.1 != l1Line key
  if k.l1.length < Config.l1Lines || (others.map fun p => l1Line p.1).eraseDups.length < Config.l1Lines then { k with l1 := mput k.l1 key x }
  else { k with l1 := mput (k.l1.filter fun p => l1Line p.1 != (others.map fun q => l1Line q.1).headD 0) key x }

/-- A layer's copy of a sector, fetched from its home when it has applied every write the sector's stamp names (R249). -/
def State.layerFetch (s : State) (y sec : Nat) : Option State :=
  let l := s.layer y
  match mfind l.copies sec with
  | some _ => some s
  | none =>
    if s.held sec then none
    else if s.devReady y sec then
      some ((s.modLayer y (·.fill sec (s.mem.readSector sec))).reach (32 * sec))
    else none

/-- A sector as the layer's cores read it: the copy, under the layer's own writes not yet at home. -/
def State.layerSector (s : State) (y sec : Nat) : BitVec 256 :=
  let l := s.layer y
  l.out.foldl (fun x w => sectorWith x sec w.bytes) (match mfind l.copies sec with
    | some x => x
    | none => s.mem.readSector sec)

/-- A poisoned sector as the layer reads it: a whole-sector write with `pm` on its way home has already cleared it (R319). -/
def State.layerPoisoned (s : State) (y sec : Nat) : Bool :=
  s.poison.contains sec && !(s.layer y).out.any fun w =>
    w.pm && w.bytes.length == 32 && w.bytes.all fun p => sectorOf p.1 == sec

/-- `n` bytes at `a` of a sector's contents as a value. -/
def sectorValue (x : BitVec 256) (a n : Nat) : Nat := leValue ((List.range n).map fun k => sectorByte x (a % 32 + k))

/-! ### Stores (R243, R244) -/

/-- Requests of one 32-byte sector each, from bytes by address (R243). -/
def groupSectors : SMap Byte → List (SMap Byte)
  | [] => []
  | p :: t => match groupSectors t with
    | (q :: r) :: rest => if sectorOf q.1 = sectorOf p.1 then (p :: q :: r) :: rest else [p] :: (q :: r) :: rest
    | other => [p] :: other

/-- Older accesses of the stream, still outstanding, that a store must not pass (R181). -/
def Unit.olderLoads (x : Unit) (w : Who) (r : PortReq) : List Nat :=
  ((x.opsAt w.g).filter fun o => (w.g == 32 || o.lanes &&& w.mask != 0) && o.accs.any fun a => !a.done && a.meets r).map (·.id)

/-- A request enters the memory port; its sector leaves L1 (R244). -/
def State.enterPort (s : State) (w : Who) (x : Unit) (dest : Dest) (bytes : SMap Byte) (pm : Bool) (lanes : List (Nat × DWord)) : State :=
  let r : PortReq := { id := s.nextId, who := w, dest := dest, bytes := bytes, pm := pm, lanes := lanes }
  let r := { r with after := x.olderLoads w r }
  (s.modCore (coreOf w.u) fun k =>
    { k with
      port := k.port ++ [r]
      l1 := match r.sector with
        | some q => merase k.l1 q
        | none => k.l1 }).fresh

/-- A lane's store: place, size, value, `pm` of the page, address, and the lane (none: a scalar store, of every lane of its split). -/
structure LaneStore where
  loc : Loc
  size : Nat
  value : Nat
  pm : Bool := false
  addr : DWord := 0
  lane : Option Nat := none
  deriving DecidableEq, Repr

/-- Whose access a store to a seam block is: its lane's, for a fault found later (R121, R179). -/
def LaneStore.owner (t : LaneStore) (w : Who) : Who := match t.lane with
  | some l => { w with mask := laneBit l }
  | none => w

/-- Bytes of the stores that go to one kind of place, higher lanes over lower (R183). -/
def storeBytes (pick : Loc → Option Nat) (l : List LaneStore) : SMap Byte :=
  l.foldl (fun m t => match pick t.loc with
    | some a => (valueAt a t.size t.value).foldl (fun m p => mput m p.1 p.2) m
    | none => m) []

/-- `pm` of the store that covers a sector. -/
def storePm (l : List LaneStore) (bytes : SMap Byte) : Bool :=
  l.any fun t => match t.loc, bytes with
    | .dev pa, p :: _ => t.pm && sectorOf pa == sectorOf p.1
    | _, _ => false

/-- The lanes whose stores are part of a request, with their addresses; 64 for a scalar store. -/
def storeLanes (pick : Loc → Option Nat) (l : List LaneStore) (bytes : SMap Byte) : List (Nat × DWord) :=
  l.filterMap fun t => match pick t.loc, bytes with
    | some a, p :: _ => if sectorOf a == sectorOf p.1 then some (t.lane.getD 64, t.addr) else none
    | _, _ => none

/-- Cores whose scratchpads the stores reach through the peer window. -/
def peerCores (l : List LaneStore) : List Nat :=
  (l.filterMap fun t => match t.loc with
    | .peer c _ => some c
    | _ => none).eraseDups

/-- The stores of one word (R182, R183, R243): own scratchpad at once, the rest through the memory port, seam elements to the coalescer (R251). -/
def State.storeAll (s : State) (w : Who) (x : Unit) (l : List LaneStore) : State :=
  let c := coreOf w.u
  let s := s.note 0 (2 + c) w.u none (s.oldSpad c (storeBytes (fun o => match o with | .spad _ off => some off | _ => none) l))
  let s := l.foldl (fun s t => match t.loc with
    | .spad c off => s.spadWrite c off t.size t.value
    | .seam i b e => (s.modCore (coreOf w.u) fun k =>
        { k with seamq := k.seamq ++ [⟨s.nextId, t.owner w, i, b, e, t.addr, BitVec.ofNat 32 t.value⟩] }).fresh
    | _ => s) s
  let dev := fun (o : Loc) => match o with | .dev pa => some pa | _ => none
  let host := fun (o : Loc) => match o with | .host a => some a | _ => none
  let peer := fun (c : Nat) (o : Loc) => match o with | .peer k off => if k = c then some off else none | _ => none
  let s := (groupSectors (storeBytes dev l)).foldl (fun s b => s.enterPort w x .dev b (storePm l b) (storeLanes dev l b)) s
  let s := (groupSectors (storeBytes host l)).foldl (fun s b => s.enterPort w x .host b false (storeLanes host l b)) s
  (peerCores l).foldl (fun s c => (groupSectors (storeBytes (peer c) l)).foldl (fun s b => s.enterPort w x (.peer c) b false (storeLanes (peer c) l b)) s) s

/-! ### The home (R247, R250) -/

/-- The bytes of a sector removed from a byte set. -/
def dropSector (sec : Nat) (b : SMap Byte) : SMap Byte := b.filter fun p => sectorOf p.1 != sec

/-- A write performed at its home hub slice (R247): one sector's bytes. A poisoned sector takes only a whole-sector write of a page
with `pm` (R319); any other write to it is discarded and recorded, and one to memory that is lost is discarded (R362). Answers whether the bytes were written. -/
def State.atHome (s : State) (bytes : SMap Byte) (pm : Bool) : State × Bool :=
  match bytes with
  | [] => (s, true)
  | p :: _ =>
    let sec := sectorOf p.1
    let s := ({ s with homeSeq := s.homeSeq + 1 } : State).reach p.1
    if !s.backed p.1 then (s, false)
    else if s.poison.contains sec then
      if pm && bytes.length == 32 then
        ({ s with poison := s.poison.filter (· != sec), mem := s.mem.writeAll bytes }, true)
      else (s.report (if isLpddr p.1 then 4 else 3) (BitVec.ofNat 64 p.1) (some 1), false)
    else ({ s with mem := s.mem.writeAll bytes }, true)

/-- A write of layer `y` performed at home and forwarded to the other layers (R249). -/
def State.homeWrite (s : State) (y : Nat) (bytes : SMap Byte) (pm : Bool) (stamp : Clock) : State :=
  match bytes with
  | [] => s
  | p :: _ =>
    let sec := sectorOf p.1
    let r := s.atHome bytes pm
    let s := r.1
    let sent := if r.2 then bytes else []
    let s := if r.2 then { s with stamps := mput s.stamps sec (clockJoin (mget [] s.stamps sec) stamp) } else s
    let s := s.modLayer y fun l =>
      { l with
        copies := if r.2 then mmodify l.copies sec (sectorWith · sec bytes) else merase l.copies sec
        inq := l.inq.map fun f => { f with bytes := f.bytes.filter fun q => (mfind sent q.1).isNone } }
    ((List.range s.layerCount).filter (· != y)).foldl (fun s z =>
      s.modLayer z fun l => { l with inq := l.inq ++ [⟨y, sent, stamp⟩] }) s

/-- A write from outside the layers (another package, the host, an engine at the hub): every layer's copy of the sector is invalidated first (R250). -/
def State.outsideWrite (s : State) (bytes : SMap Byte) (pm : Bool) : State :=
  (groupSectors bytes).foldl (fun s b => match b with
    | [] => s
    | p :: _ =>
      let sec := sectorOf p.1
      let s := (List.range s.layerCount).foldl (fun s z => s.modLayer z fun l =>
        { l with copies := merase l.copies sec, inq := l.inq.map fun f => { f with bytes := dropSector sec f.bytes } }) s
      (s.atHome b pm).1) s

/-- A write of the host or of another package to device memory; commands that fetch ahead may have missed it (R250, R331). -/
def State.remoteWrite (s : State) (bytes : SMap Byte) (pm : Bool) : State := (s.noteOutside 0 (s.oldDev bytes)).outsideWrite bytes pm

/-- The next value of a layer's own counter, and its clock with it: the stamp of a write it sends (R249). -/
def LayerCache.nextStamp (l : LayerCache) (y : Nat) : Clock := mset 0 l.clock y (mget 0 l.clock y + 1)

/-- A store reaches the layer cache: it is sent on, stamped (R246, R249). -/
def State.layerWrite (s : State) (y : Nat) (w : Who) (bytes : SMap Byte) (pm : Bool) : State :=
  let old := bytes.map fun p => (p.1, sectorByte (s.layerSector y (sectorOf p.1)) (p.1 % 32))
  ((s.note 0 0 w.u none old).modLayer y fun l =>
    let stamp := l.nextStamp y
    { l with clock := stamp, out := l.out ++ [⟨s.nextId, w, bytes, pm, stamp⟩] }).fresh

/-- A write of one sector that layer `y` sends to its home and that is performed there at once (atomics, write-backs): stamped as R249 says. -/
def State.homeSend (s : State) (y : Nat) (bytes : SMap Byte) (pm : Bool) : State :=
  let stamp := (s.layer y).nextStamp y
  (s.modLayer y fun l => { l with clock := stamp }).homeWrite y bytes pm stamp

/-! ### Fences and release words (R195, R389) -/

/-- Accesses of a stream: same unit and holder, and shared lanes. -/
def Who.same (a b : Who) : Bool := a.u == b.u && a.g == b.g && (a.g == 32 || a.mask &&& b.mask != 0)

/-- Every earlier load, atomic and permute of the stream has returned (R195). -/
def State.loadsReturned (s : State) : Bool :=
  match s.cur.stream with
  | .split u g e => match s.gang? u g with
    | some x => x.vmcnt (x.entry e) == 0 && x.spcnt (x.entry e) == 0
    | none => true
  | .lead u => match s.unit? u with
    | some x => x.lead.lmcnt == 0
    | none => true
  | .nobody => true

/-- Every earlier store of the stream is performed at the ordering point of level `lvl` (R195), and with it the writes the stream may have observed there:
those of its core's memory port, and of its layer (R196, R257; assumption 87). -/
def State.storesPerformed (s : State) (w : Who) (lvl : Nat) : Bool :=
  let k := s.core (coreOf w.u)
  !(k.seamq.any fun q => q.who.same w) &&
    (lvl < 2 || k.port.isEmpty) && (lvl < 3 || (s.layer (layerOf (coreOf w.u))).out.isEmpty)

/-- No dirty block of the core's dressing cache is left to be encoded, written and acknowledged (R195). -/
def State.blocksWritten (s : State) (c : Nat) : Bool :=
  let k := s.core c
  k.dress.all (!·.dirty) && k.wbs.isEmpty

/-- The conditions of FENCE.REL at level `lvl` (R195, R389). -/
def State.released (s : State) (lvl : Nat) : Verdict :=
  let w := s.who
  need (s.loadsReturned && s.storesPerformed w lvl && (lvl == 0 || s.blocksWritten (coreOf w.u))) .wait

/-- Storage address of a block's first byte, the name of its claim (R251). -/
def Block.saddr (b : Block) : Nat := b.phys.headD 0

/-- What an acquire at level `lvl` discards: L1 and the clean blocks of the dressing cache, with their claims (R195, R245, R252); the claim of a block that
is still being written back goes when it is (R123). -/
def State.acquire (s : State) (c lvl : Nat) : State :=
  if lvl < 2 then s
  else
    let k := s.core c
    let freed := (k.dress.filter fun b => !b.dirty && b.claimed && !k.wbs.any (·.saddr == b.saddr)).map (·.saddr)
    let s := (s.modCore c fun k => { k with l1 := [], dress := k.dress.filter (·.dirty) })
    freed.foldl (fun s a => { s with claims := mmodify s.claims a fun q =>
      if q.recalling then q else { q with owner := none } }) s

/-- An acquire of the stream that issues: what it discards, and what its unit's lane reads see from now on (R256). -/
def State.acquireHere (s : State) (c lvl : Nat) : State := (s.acquire c lvl).adopt s.who.u lvl

/-- After a FENCE.REL of layer scope a load returns what another core of the layer wrote before its own (R259): L1 and the read copies are dropped. -/
def State.relDrop (s : State) (c lvl : Nat) : State :=
  if lvl = 2 then s.modCore c fun k => { k with l1 := [], dress := k.dress.filter fun b => b.dirty || b.claimed } else s

end Sys2Proof.Machine
end

