-- ==== Sys2Proof/Machine/Seam.lean ====
section
/-! DEFINITION. The dressing unit (R109 to R124, R245, R251 to R253): block storage, fills, encoding and write-back, claims. -/

namespace Sys2Proof.Machine

/-- Where a block's storage lies, or why it cannot be reached. -/
inductive Storage where
  | at (r : SeamRec) (phys : List Nat)
  | touch
  | fault (c : TrapCode)
  deriving DecidableEq, Repr

/-- The physical addresses of `n` storage bytes from virtual address `va` (R111, R179, R251). Where the pages of a straddling block fail in different ways, the fault of
the highest byte is taken: DESIGN CHOICE (assumption 105). -/
def State.storageBytes (s : State) (u : Nat) (va : Nat) : Nat → Storage → Storage
  | 0, acc => acc
  | n + 1, acc =>
    match acc with
    | .at r ps =>
      let a := BitVec.ofNat 64 (va + n)
      match s.laneXlate u a with
      | .invalid => .fault .translation
      | .touch _ => .touch
      | .leaf e =>
        if pteS e then .fault .seamMalformed
        else if !pteR e then .fault .protection
        else if pteKind e != 0 || !s.owned (s.phys e a) then .fault .protection
        else s.storageBytes u va n (.at r (s.phys e a :: ps))
    | other => other

/-- The storage of block `blk` of the array of handle `sidx`, translated for unit `u` (R179). A store also needs W. -/
def State.blockStorage (s : State) (u sidx blk : Nat) (write : Bool) : Storage :=
  match handleRec sidx with
  | none => .fault .seamMalformed
  | some r =>
    let va := r.storage blk
    let writable := [va, va + r.bytes - 1].all fun a => match s.laneXlate u (BitVec.ofNat 64 a) with
      | .leaf e => pteW e
      | _ => true
    match s.storageBytes u va r.bytes (.at r []) with
    | .at r ps =>
      if write && !writable then .fault .protection
      else if ps.any s.poisoned then .fault .poisonedData
      else .at r ps
    | other => other

/-- The block held in a core's dressing cache. -/
def Core.block (k : Core) (sidx blk : Nat) : Option Block := k.dress.find? fun b => b.sidx == sidx && b.blk == blk

/-- Without a block. -/
def Core.dropBlock (k : Core) (sidx blk : Nat) : Core :=
  { k with dress := k.dress.filter fun b => !(b.sidx == sidx && b.blk == blk) }

/-- Replaces a block. -/
def Core.putBlock (k : Core) (b : Block) : Core :=
  { k with dress := b :: (k.dropBlock b.sidx b.blk).dress }

/-- Bytes at scattered addresses, written over a byte map. -/
def scatter (ps : List Nat) (bs : List Byte) : SMap Byte := (ps.zip bs).foldl (fun m p => mput m p.1 p.2) []

/-- Sector keys of some device bytes. -/
def sectorKeys (ps : List Nat) : List Nat := (ps.map fun a => 2 * sectorOf a).eraseDups

/-- The record's `clip` bit is set at its home (R109). -/
def State.setClip (s : State) (c sidx : Nat) : State :=
  let a := s.seamRecPlace (sidx % 4096) + 1
  s.homeSend (layerOf c) [(a, s.mem.read a ||| 0x80)] false

/-- Encodes a dirty block at one instant (R114, R124): its write-back is sent through the port, its sectors leave L1 (R378), and the record's `clip` bit is set
where a value was replaced, with the write-back when its home holds it (R109, R342). -/
def State.encode (s : State) (c : Nat) (b : Block) (release : Bool) : State :=
  let vals := b.elems.mapIdx fun i _ => b.elems.getD (b.pad.getD i i) 0
  let r := encodeBlock b.d b.rate b.fin vals
  let t := s.modCore c fun k =>
    { k with
      wbs := k.wbs ++ [⟨b.saddr, scatter b.phys (leBytes b.phys.length r.1), release, b.sidx, b.blk, b.unit, r.2 && s.seamRecHeld (b.sidx % 4096)⟩]
      l1 := (sectorKeys b.phys).foldl merase k.l1 }
  if r.2 && !s.seamRecHeld (b.sidx % 4096) then t.setClip c b.sidx else t

/-- Encodes every dirty block of a core; they stay resident, clean and claimed (R195). -/
def State.encodeDirty (s : State) (c : Nat) : State :=
  ((s.core c).dress.filter (·.dirty)).foldl (fun s b =>
    (s.encode c b false).modCore c (·.putBlock { b with dirty := false })) s

/-- A block leaves a dressing cache: encoded and written back first if dirty (R123). -/
def State.evict (s : State) (c : Nat) (b : Block) : State :=
  (if b.dirty then s.encode c b true else s).modCore c (·.dropBlock b.sidx b.blk)

/-- The core still holds or writes back a block of this storage address. -/
def State.holdsClaimed (s : State) (c saddr : Nat) : Bool :=
  (s.core c).dress.any (fun b => b.claimed && b.saddr == saddr) || (s.core c).wbs.any (·.saddr == saddr)

/-- A claim. -/
def State.claim (s : State) (saddr : Nat) : Claim := mget {} s.claims saddr

/-- Replaces a claim. -/
def State.setClaim (s : State) (saddr : Nat) (q : Claim) : State := { s with claims := mset {} s.claims saddr q }

/-- A fault found after issue (R179): the lane's, every lane of the split's for a scalar access, or the lead's; from 64 on `g` names a tile
command whose seam store it is (R209, R334). -/
def State.lateFault (s : State) (u g : Nat) (lanes : List Nat) (code : TrapCode) (addr : DWord) : State :=
  if g = 32 then s.modLead u fun l => { l with late := match l.late with
    | some f => some f
    | none => some ⟨0, code, addr⟩ }
  else if 64 ≤ g then s.modUnit u fun x => { x with cmds := x.cmds.map fun k =>
    if k.id + 64 = g ∧ !k.bad then { k with bad := true, err := code.code + 32 * addr.toNat } else k }
  else s.modGang u g fun x => { x with late := x.late ++ lanes.map fun l => ⟨l, code, addr⟩ }

/-- The waiting seam stores of a block take a fault and are dropped (R121, R179). -/
def State.failStores (s : State) (c sidx blk : Nat) (code : TrapCode) : State :=
  let mine := fun (q : SeamStore) => q.sidx == sidx && q.blk == blk
  let s := ((s.core c).seamq.filter mine).foldl (fun s q => s.lateFault q.who.u q.who.g (lanesOf q.who.mask) code q.addr) s
  s.modCore c fun k => { k with seamq := k.seamq.filter fun q => !mine q }

/-- The sectors some bytes lie in. -/
def sectorsOf (ps : List Nat) : List Nat := (ps.map sectorOf).eraseDups

/-- SEAM_CLAIM_REQUEST: a core with stores waiting for a block it does not hold claimed asks its home for the claim (R251, R252), which a held sector delays
(R342). -/
def execSeamClaimRequest (c sidx blk : Nat) (s : State) : Host.Outcome State Fault Refusal :=
  .next (match (s.core c).seamq.find? fun q => q.sidx == sidx && q.blk == blk with
    | none => s
    | some q => match s.blockStorage q.who.u sidx blk true with
      | .touch => s
      | .fault code => s.failStores c sidx blk code
      | .at _ ps =>
        let a := ps.headD 0
        let k := s.claim a
        if (sectorsOf ps).any s.held then s
        else match k.owner with
        | none => s.setClaim a { k with owner := some c }
        | some o =>
          if o = c || k.queue.contains c then s
          else s.setClaim a { k with recalling := true, queue := k.queue ++ [c] })

/-- SEAM_RECALL: the owner receives the recall, writes the block back if it is dirty, and discards its copy (R252). -/
def execSeamRecall (c saddr : Nat) (s : State) : Host.Outcome State Fault Refusal :=
  let k := s.claim saddr
  .next (if k.recalling && k.owner == some c then
    ((s.core c).dress.filter fun b => b.saddr == saddr).foldl (fun s b => s.evict c b) s
  else s)

/-- RECALL_COMPLETE: the block is written back, and the claim passes to the oldest queued core (R252). -/
def execRecallComplete (saddr : Nat) (s : State) : Host.Outcome State Fault Refusal :=
  let k := s.claim saddr
  .next (match k.recalling, k.owner with
    | true, some c =>
      if s.holdsClaimed c saddr then s
      else match k.queue with
        | [] => s.setClaim saddr {}
        | d :: t => s.setClaim saddr ⟨some d, !t.isEmpty, t⟩
    | _, _ => s)

/-- CLAIM_RELEASE: a core that no longer holds the block, nor stores waiting for it, gives the claim back (R252). -/
def execClaimRelease (c saddr : Nat) (s : State) : Host.Outcome State Fault Refusal :=
  let k := s.claim saddr
  let waiting := (s.core c).seamq.any fun q => match s.blockStorage q.who.u q.sidx q.blk true with
    | .at _ ps => ps.headD 0 == saddr
    | _ => false
  .next (if k.owner == some c && !k.recalling && !s.holdsClaimed c saddr && !waiting then s.setClaim saddr {} else s)

/-- Applies the waiting stores of a block in program order (R251). -/
def applyStores (elems : List Word) : List SeamStore → List Word
  | [] => elems
  | q :: t => applyStores (elems.set q.elem q.value) t

/-- The value of storage bytes read at home. -/
def State.storageValue (s : State) (ps : List Nat) : Nat := leValue (ps.map s.mem.read)

/-- A block as it is installed. -/
def newBlock (r : SeamRec) (sidx blk : Nat) (ps : List Nat) (elems : List Word) : Block :=
  { sidx := sidx, blk := blk, d := r.d, rate := r.rate, fin := r.fin, pad := (List.range r.n).map (r.padSlot blk), phys := ps, elems := elems,
    claimed := false, dirty := false }

/-- Storage bytes as a core's fetch through its layer cache delivers them (R245); a block the core is writing back is awaited (R181). -/
def State.copyValue (s : State) (c : Nat) (ps : List Nat) : Option (State × Nat) :=
  let y := layerOf c
  if (s.core c).wbs.any (·.saddr == ps.headD 0) then none
  else ((sectorsOf ps).foldl (fun o sec => o.bind fun t => t.layerFetch y sec) (some s)).map fun t =>
    (t, leValue (ps.map fun a => sectorByte (t.layerSector y (sectorOf a)) (a % 32)))

/-- Decoded bytes of a core's dressing cache. -/
def Core.dressed (k : Core) : Nat := (k.dress.map fun b => 4 * b.elems.length).sum

/-- A new block enters a dressing cache: others leave it while it would not fit, the one that came first before the rest (R123, assumption 88). -/
def State.installBlock (s : State) (c : Nat) (b : Block) : State :=
  let t := ((s.core c).dress.filter fun o => !(o.sidx == b.sidx && o.blk == b.blk)).foldr (fun o s =>
    if (s.core c).dressed + 4 * b.elems.length ≤ Config.dressBytes then s else s.evict c o) (s.modCore c (·.dropBlock b.sidx b.blk))
  t.modCore c (·.putBlock b)

/-- A read copy: fetched through the layer cache, for the load of unit `u` that waits for it (R245). -/
def State.fillCopy (s : State) (c u sidx blk : Nat) : State :=
  match s.blockStorage u sidx blk false with
  | .at r ps => match s.copyValue c ps with
    | none => s
    | some (t, v) => match decodeBlock r.d r.rate r.fin v with
      | some e => t.installBlock c (newBlock r sidx blk ps e)
      | none => s
  | _ => s

/-- An older access of the store's stream to its block is still outstanding, and the store waits for it (R134, R181). -/
def State.storeBehind (s : State) (q : SeamStore) : Bool := match s.unit? q.who.u with
  | some x => (x.opsAt q.who.g).any fun o => decide (o.id < q.id) && (q.who.g == 32 || o.lanes &&& q.who.mask != 0) && o.accs.any fun a => !a.done &&
      match a.loc with
      | .seam i b _ => i == q.sidx && b == q.blk
      | _ => false
  | none => false

/-- The waiting stores of a block that can be applied now, in program order. -/
def State.readyStores (s : State) (c sidx blk : Nat) : List SeamStore :=
  ((s.core c).seamq.filter fun q => q.sidx == sidx && q.blk == blk).takeWhile fun q => !s.storeBehind q

/-- What waiting stores are about to replace in a block, which only a command that fetched ahead may have missed (R331). -/
def State.noteElems (s : State) (c : Nat) (b : Block) (l : List SeamStore) : State :=
  s.noteOutside (seamCell c (b.sidx % 4096) b.blk 0).1
    (l.foldl (fun m q => (valueAt (seamCell c (b.sidx % 4096) b.blk q.elem).2 4 (b.elems.getD q.elem 0).toNat).foldl (fun m p => mput m p.1 p.2) m) [])

/-- Its waiting stores are applied to a claimed block, which is dirty with them (R251). -/
def State.applyTo (s : State) (c : Nat) (b : Block) (l : List SeamStore) : State :=
  let s := s.noteElems c b l
  let b := { b with elems := applyStores b.elems l, claimed := true, dirty := true, unit := (l.headD ⟨0, ⟨0, 0, 0⟩, 0, 0, 0, 0, 0⟩).who.u }
  (s.installBlock c b).modCore c fun k => { k with seamq := k.seamq.filter fun q => !l.contains q }

/-- A load of some unit of the core that waits for a block: the unit. -/
def State.blockWanted (s : State) (c sidx blk : Nat) : Option Nat :=
  [4 * c, 4 * c + 1, 4 * c + 2, 4 * c + 3].find? fun u => match s.unit? u with
    | some x =>
      (x.lead.ops ++ x.gangs.flatMap (·.2.ops)).any fun o => o.accs.any fun a => match a.loc with
        | .seam i b _ => i == sidx && b == blk
        | _ => false
    | none => false

/-- A waiting load has its read copy made (R245). -/
def State.copyFill (s : State) (c sidx blk : Nat) : State := match (s.core c).block sidx blk, s.blockWanted c sidx blk with
  | none, some u => s.fillCopy c u sidx blk
  | _, _ => s

/-- SEAM_BLOCK_FILL: storage bytes arrive and are decoded (R122). With waiting stores and the claim granted: read afresh at home, the
stores applied, the block dirty and claimed (R251). Otherwise a read copy for a waiting load (R245). A malformed block is not installed (R121). -/
def execSeamBlockFill (c sidx blk : Nat) (s : State) : Host.Outcome State Fault Refusal :=
  .next (match s.readyStores c sidx blk with
    | [] => s.copyFill c sidx blk
    | q :: l => match s.blockStorage q.who.u sidx blk true with
      | .touch => s
      | .fault code => s.failStores c sidx blk code
      | .at r ps =>
        let a := ps.headD 0
        let y := layerOf c
        let granted := (s.claim a).owner == some c
        let clear := !((s.core c).wbs.any (·.saddr == a)) && (sectorsOf ps).all fun sec => !s.held sec && clockLe (mget [] s.stamps sec) (s.layer y).clock &&
          !((s.layer y).out.any fun w => w.bytes.any fun p => sectorOf p.1 == sec)
        let fresh := fun (s : State) => match decodeBlock r.d r.rate r.fin (s.storageValue ps) with
          | some e => s.applyTo c (newBlock r sidx blk ps e) (q :: l)
          | none => s.failStores c sidx blk .seamMalformed
        match (s.core c).block sidx blk with
        | some b =>
          if b.claimed && granted && !(s.claim a).recalling then s.applyTo c b (q :: l)
          else if granted && !(s.claim a).recalling && clear && !b.dirty then fresh s
          else s
        | none => if granted && !(s.claim a).recalling && clear then fresh s else s.copyFill c sidx blk)

/-- DRESSING_CACHE_EVICTION (R123). -/
def execDressingCacheEviction (c sidx blk : Nat) (s : State) : Host.Outcome State Fault Refusal :=
  .next (match (s.core c).block sidx blk with
    | some b => s.evict c b
    | none => s)

/-- The write-backs a SEVICT waits for are acknowledged: its accesses to blocks no longer being written back are done (R198). -/
def sevictDone (busy : List Nat) (ops : List Op) : List Op :=
  retire (ops.map fun o => match o.kind with
    | .sevict => { o with accs := o.accs.filter fun a => match a.loc with
        | .dev pa => busy.contains pa
        | _ => true }
    | _ => o)

/-- SEAM_WRITEBACK_ACK: the oldest write-back of a block is performed at its home, byte by byte under its mask, and acknowledged (R198, R253). -/
def execSeamWritebackAck (c saddr : Nat) (s : State) : Host.Outcome State Fault Refusal :=
  .next (match (s.core c).wbs.find? fun w => w.saddr == saddr with
    | none => s
    | some w =>
      let y := layerOf c
      if (s.layer y).out.any (fun r => sharesByte r.bytes w.bytes) || s.heldBytes w.bytes || (w.clip && s.seamRecHeld (w.sidx % 4096)) then s
      else
        let s := (groupSectors w.bytes).foldl (fun s b => s.homeSend y b false) (s.note 0 0 w.unit none (s.oldDev w.bytes))
        let s := if w.clip then s.setClip c w.sidx else s
        let s := s.modCore c fun k => { k with wbs := k.wbs.erase w }
        let busy := (s.core c).wbs.map (·.saddr)
        [4 * c, 4 * c + 1, 4 * c + 2, 4 * c + 3].foldl (fun s u => s.modUnit u fun x =>
          { x with gangs := x.gangs.map fun p => (p.1, { p.2 with ops := sevictDone busy p.2.ops }) }) s)

end Sys2Proof.Machine
end

