-- ==== Sys2Proof/Machine/Vmem.lean ====
section
/-! DEFINITION. Vector memory words (R177 to R189, R198): VLD, VST, VLDS, VSTS, VLDP, SEVICT, VLDT, and the scalar loads and stores (R131 to R134). -/

namespace Sys2Proof.Machine

/-- Places of the active lanes: lane, address, place. -/
abbrev Places := List (Nat × DWord × Place)

/-- The verdict of the lanes' checks: a first-touch entry holds the word (R309), lanes that fail trap and the others go on (R178). -/
def placesVerdict (ps : Places) : Verdict :=
  if ps.any fun p => p.2.2 == .touch then .hold
  else match ps.filterMap fun p => match p.2.2 with
      | .fault c => some (⟨p.1, c, p.2.1⟩ : LaneFault)
      | _ => none with
    | [] => .ok
    | fs => .part fs

/-- The lanes of `mk` that reached a place. -/
def placed (ps : Places) (mk : DWord) : List (Nat × DWord × Loc × Bool) :=
  ps.filterMap fun p => match p.2.2 with
    | .at l pm => if mk.getLsbD p.1 then some (p.1, p.2.1, l, pm) else none
    | _ => none

/-- Places of global accesses of the active lanes. -/
def State.lanePlaces (s : State) (addr : Gang → Nat → DWord) (w : Want) : Places :=
  match s.cur.stream, s.here, s.hereGang with
  | .split u _ _, some (_, x), some g => (lanesOf s.cur.mask).map fun l => (l, addr g l, s.globalPlace u x (addr g l) w)
  | _, _, _ => []

/-- Places of own-scratchpad accesses of the active lanes. -/
def State.laneSpadPlaces (s : State) (addr : Gang → Nat → DWord) (size : Nat) : Places :=
  match s.cur.stream, s.here, s.hereGang with
  | .split u _ _, some (_, x), some g => (lanesOf s.cur.mask).map fun l => (l, addr g l, State.spadPlace u x (addr g l) size size)
  | _, _, _ => []

/-- The register writes of a loaded value (R66, R182). -/
def loadWrites (d : Nat) (ty : BitVec 4) (v : Nat) : List (Nat × VReg) :=
  if ty = 4 then pairWrites d v else [(d, ⟨tyWiden ty (BitVec.ofNat 64 v), tyTag ty⟩)]

/-- The registers a type code names from `d` on. -/
def tyRegs (d : Nat) (ty : BitVec 4) : List Nat := if ty = 4 then [d, d + 1] else [d]

/-- A lane's load as an access: the own scratchpad is read at once (R201, R385; assumption 3), the latest value by a poll (R188), other places when the data
returns. -/
def State.loadAcc (s : State) (d : Nat) (ty : BitVec 4) (l : Nat) (addr : DWord) (loc : Loc) (poll : Bool := false) : Acc :=
  match loc with
  | .spad c off =>
    { lane := l, loc := loc, size := tyBytes ty, addr := addr, writes := loadWrites d ty (if poll then s.spadRead c off (tyBytes ty) else s.spadView s.laneReader c off (tyBytes ty)), done := true,
      bad := if s.spadPoisoned c off (tyBytes ty) then some .poisonedData else none }
  | _ => { lane := l, loc := loc, size := tyBytes ty, addr := addr }

/-- The operation of a load; what its lanes saw of the own scratchpad is noted. -/
def State.addRead (s : State) (cls : Cls) (kind : OpKind) (mk : DWord) (accs : List Acc) : State :=
  let seen := (accs.filter (·.done)).map fun a => (a.loc, a.size)
  match kind with
  | .poll _ _ => seen.foldl (fun t l => t.viewedAll s.laneReader l.1 l.2) (s.addOp cls kind mk accs)
  | _ => (s.addOp cls kind mk accs).viewedAt s.laneReader seen

/-- Caches the translations the lanes used. -/
def State.cacheLanes (s : State) (ps : Places) (mk : DWord) : State :=
  match s.cur.stream.unit with
  | some u => s.laneTlbFill u ((placed ps mk).map (·.2.1))
  | none => s

/-- The type codes a seam page takes (R110). -/
def seamType (ty : BitVec 4) : Bool := ty.toNat ≤ 3 || (5 ≤ ty.toNat && ty.toNat ≤ 11)

/-- VLD (R182). -/
def execVld (ty : BitVec 4) (d a : BitVec 7) (b : BitVec 6) (x : BitVec 1) (s : State) : Host.Outcome State Fault Refusal :=
  let ps := s.lanePlaces (fun g l => g.laneAddr a.toNat b.toNat x l) ⟨tyBytes ty, .load, seamType ty⟩
  s.issue ((s.gangWord [d.toNat, a.toNat] [b.toNat]).andThen ((s.permuteFree (tyRegs d.toNat ty)).andThen
      ((s.needTags [(a.toNat, addressTags)]).andThen ((s.countRoom .vm).andThen (placesVerdict ps)))))
    fun mk t => (t.addRead .vm (.load d.toNat ty) mk
      ((placed ps mk).map fun p => s.loadAcc d.toNat ty p.1 p.2.1 p.2.2.1)).cacheLanes ps mk

/-- The stores of the lanes that reached a place. -/
def State.laneStores (s : State) (ty : BitVec 4) (d : Nat) (ps : Places) (mk : DWord) : List LaneStore :=
  match s.hereGang with
  | some g => (placed ps mk).map fun p => ⟨p.2.2.1, tyBytes ty, (g.laneData ty d p.1).toNat % 2 ^ (8 * tyBytes ty), p.2.2.2, p.2.1, some p.1⟩
  | none => []

/-- Performs or sends the stores of the word for the lanes `mk`. -/
def State.sendStores (s : State) (mk : DWord) (l : List LaneStore) : State :=
  match s.here with
  | some (_, x) => s.storeAll { s.who with mask := mk } x l
  | none => s

/-- VST (R182, R183). -/
def execVst (ty : BitVec 4) (d a : BitVec 7) (b : BitVec 6) (x : BitVec 1) (s : State) : Host.Outcome State Fault Refusal :=
  let ps := s.lanePlaces (fun g l => g.laneAddr a.toNat b.toNat x l) ⟨tyBytes ty, .store, seamType ty⟩
  s.issue ((s.gangWord [d.toNat, a.toNat] [b.toNat]).andThen ((s.needTags [(d.toNat, tyAccepts ty), (a.toNat, addressTags)]).andThen (placesVerdict ps)))
    fun mk t => (t.sendStores mk (s.laneStores ty d.toNat ps mk)).cacheLanes ps mk

/-- VLDS (R185). -/
def execVlds (ty : BitVec 4) (d a : BitVec 7) (b : BitVec 6) (x : BitVec 1) (s : State) : Host.Outcome State Fault Refusal :=
  let ps := s.laneSpadPlaces (fun g l => g.laneAddr a.toNat b.toNat x l) (tyBytes ty)
  s.issue ((s.gangWord [d.toNat, a.toNat] [b.toNat]).andThen ((s.permuteFree (tyRegs d.toNat ty)).andThen
      ((s.needTags [(a.toNat, addressTags)]).andThen ((s.countRoom .sp).andThen (placesVerdict ps)))))
    fun mk t => t.addRead .sp .captured mk ((placed ps mk).map fun p => t.loadAcc d.toNat ty p.1 p.2.1 p.2.2.1)

/-- VSTS (R185). -/
def execVsts (ty : BitVec 4) (d a : BitVec 7) (b : BitVec 6) (x : BitVec 1) (s : State) : Host.Outcome State Fault Refusal :=
  let ps := s.laneSpadPlaces (fun g l => g.laneAddr a.toNat b.toNat x l) (tyBytes ty)
  s.issue ((s.gangWord [d.toNat, a.toNat] [b.toNat]).andThen ((s.needTags [(d.toNat, tyAccepts ty), (a.toNat, addressTags)]).andThen (placesVerdict ps)))
    fun mk t => t.sendStores mk (s.laneStores ty d.toNat ps mk)

/-- VLDP.N32 (R188). -/
def execVldpN32 (d a b : BitVec 7) (s : State) : Host.Outcome State Fault Refusal :=
  let ps := s.lanePlaces (fun g l => g.V64 a.toNat l) ⟨4, .poll, false⟩
  s.issue ((s.gangWord [d.toNat, a.toNat, b.toNat] []).andThen ((s.permuteFree [d.toNat]).andThen
      (((s.needTags [(a.toNat, addressTags)]).andThen (s.needGood [a.toNat + 1, b.toNat])).andThen ((s.countRoom .vm).andThen (placesVerdict ps)))))
    fun mk t =>
      match s.hereGang with
      | some g =>
        let cmp := (placed ps mk).foldl (fun m p => mput m p.1 (g.V b.toNat p.1)) []
        (t.addRead .vm (.poll d.toNat cmp) mk
          ((placed ps mk).map fun p => s.loadAcc d.toNat 3 p.1 p.2.1 p.2.2.1 true)).cacheLanes ps mk
      | none => t

/-- The block a lane's SEVICT names: none where its address has no seam page or its array's record is in error (R198). -/
def State.sevictBlock (s : State) (u : Nat) (va : DWord) : Option Loc :=
  match s.laneXlate u va with
  | .leaf e =>
    if pteS e then match s.seamRec (pteSidx e) with
      | some r => (r.place va.toNat).map fun p => .seam (s.seamHandle (pteSidx e)) p.1 0
      | none => none
    else none
  | _ => none

/-- SEVICT: only the translation is checked; lanes of one block act on it once (R198). -/
def execSevict (a : BitVec 7) (s : State) : Host.Outcome State Fault Refusal :=
  match s.cur.stream, s.hereGang with
  | .split u _ _, some g =>
    let ps : Places := (lanesOf s.cur.mask).map fun l =>
      let va := g.V64 a.toNat l
      (l, va, if va.toNat % 4 ≠ 0 then Place.fault .misaligned
        else if s.inPeerRegion va then .at (.host 0) false
        else match s.laneXlate u va with
          | .invalid => .fault .translation
          | .touch _ => .touch
          | .leaf _ => .at (.host 0) false)
    s.issue ((s.gangWord [a.toNat] []).andThen (((s.needTags [(a.toNat, addressTags)]).andThen (s.needGood [a.toNat + 1])).andThen
        ((s.countRoom .vm).andThen (placesVerdict ps))))
      fun mk t =>
        let blocks := ((placed ps mk).filterMap fun p =>
          if s.inPeerRegion p.2.1 then none else (s.sevictBlock u p.2.1).map fun l => (l, p.1, p.2.1))
        let once := blocks.foldl (fun acc b => if acc.any (fun q => q.1 == b.1) then acc else acc ++ [b]) []
        (t.addOp .vm .sevict mk (once.map fun b => { lane := b.2.1, loc := b.1, addr := b.2.2 })).cacheLanes ps mk
  | _, _ => s.issue (s.gangWord [] []) fun _ t => t

/-- The base of a lane's transposing block: the offset in the first lane of its group of 16 ranks (R187). -/
def Gang.vldtBase (g : Gang) (mk : DWord) (a l : Nat) : Nat :=
  match laneAt mk (rankOf mk l / 16 * 16) with
  | some f => (g.V a f).toNat
  | none => 0

/-- A transposing load of elements of `size` bytes (R187). -/
def State.vldt (s : State) (size : Nat) (d a : BitVec 7) (pack : (Nat → Nat) → List (Nat × VReg)) : Host.Outcome State Fault Refusal :=
  match s.cur.stream, s.here, s.hereGang with
  | .split u _ _, some (_, x), some g =>
    let mk := s.cur.mask
    let ps : Places := (lanesOf mk).map fun l =>
      let base := BitVec.ofNat 64 (g.vldtBase mk a.toNat l)
      (l, base, State.spadPlace u x base (64 * size) 16)
    let n := if size = 1 then 1 else if size = 2 then 2 else 4
    let dst := (List.range n).map (d.toNat + ·)
    s.issue ((s.gangWord [d.toNat, a.toNat] []).andThen ((s.permuteFree dst).andThen ((s.needGood [a.toNat]).andThen ((s.countRoom .sp).andThen (placesVerdict ps)))))
      fun mk' t =>
        let cell := fun (l off r : Nat) => off + (16 * r + rankOf mk l % 16) * size
        let ls := placed ps mk'
        (t.addOp .sp .captured mk' (ls.map fun p =>
          match p.2.2.1 with
          | .spad c off =>
            { lane := p.1, loc := p.2.2.1, size := size, addr := p.2.1, writes := pack fun r => t.spadView t.laneReader c (cell p.1 off r) size, done := true,
              bad := if (List.range 4).any fun r => t.spadPoisoned c (cell p.1 off r) size then some .poisonedData else none }
          | l => { lane := p.1, loc := l, done := true })).viewedAt t.laneReader (ls.flatMap fun p => match p.2.2.1 with
            | .spad c off => (List.range 4).map fun r => (.spad c (cell p.1 off r), size)
            | _ => [])
  | _, _, _ => s.issue (s.gangWord [] []) fun _ t => t

/-- VLDT.B8 (R187). -/
def execVldtB8 (d a : BitVec 7) (s : State) : Host.Outcome State Fault Refusal :=
  s.vldt 1 d a fun e => [(d.toNat, ⟨BitVec.ofNat 32 (e 0 + 2 ^ 8 * e 1 + 2 ^ 16 * e 2 + 2 ^ 24 * e 3), .raw⟩)]

/-- VLDT.B16 (R187). -/
def execVldtB16 (d a : BitVec 7) (s : State) : Host.Outcome State Fault Refusal :=
  s.vldt 2 d a fun e => [(d.toNat, ⟨BitVec.ofNat 32 (e 0 + 2 ^ 16 * e 1), .raw⟩), (d.toNat + 1, ⟨BitVec.ofNat 32 (e 2 + 2 ^ 16 * e 3), .raw⟩)]

/-- VLDT.B32 (R187). -/
def execVldtB32 (d a : BitVec 7) (s : State) : Host.Outcome State Fault Refusal :=
  s.vldt 4 d a fun e => (List.range 4).map fun r => (d.toNat + r, ⟨BitVec.ofNat 32 (e r), .raw⟩)

end Sys2Proof.Machine
end

