-- ==== Sys2Proof/Machine/Atom.lean ====
section
/-! DEFINITION. Atomics (R190 to R194): ATOM. -/

namespace Sys2Proof.Machine

/-- Bytes of an atomic's type (R68): N32, I32, N64, I64. -/
def atomBytes (ty : BitVec 2) : Nat := if ty.toNat ≤ 1 then 4 else 8

/-- A signed type. -/
def atomSigned (ty : BitVec 2) : Bool := ty.toNat % 2 == 1

/-- An operand as signed or unsigned. -/
def atomInt (ty : BitVec 2) (x : Nat) : Int :=
  let w := 8 * atomBytes ty
  if atomSigned ty && 2 ^ (w - 1) ≤ x then (x : Int) - 2 ^ w else x

/-- The value an atomic writes (R190): none where a compare fails. `op` is the sub-opcode. -/
def atomWrites (op : Nat) (ty : BitVec 2) (old x new : Nat) : Option Nat :=
  match op with
  | 0 => some ((old + x) % 2 ^ (8 * atomBytes ty))
  | 1 => some (if atomInt ty old < atomInt ty x then old else x)
  | 2 => some (if atomInt ty old < atomInt ty x then x else old)
  | 3 => some (old &&& x)
  | 4 => some (old ||| x)
  | 5 => some (old ^^^ x)
  | 6 => some x
  | _ => if old = x then some new else none

/-- The register writes of the old value (R190): tag of the type in the 32-bit forms, RAW in both registers of the 64-bit forms. -/
def atomResult (d : Nat) (ty : BitVec 2) (old : Nat) : List (Nat × VReg) :=
  if atomBytes ty = 4 then [(d, ⟨BitVec.ofNat 32 old, if atomSigned ty then .i32 else .n32⟩)]
  else [(d, ⟨BitVec.ofNat 32 old, .raw⟩), (d + 1, ⟨BitVec.ofNat 32 (old / 2 ^ 32), .raw⟩)]

/-- Where a global atomic is performed (R191). -/
def State.atomSite (s : State) (lvl : Nat) : Loc → Site
  | .host _ => .root
  | .dev pa => if !s.owned pa then .owner else if s.promoteFrom lvl ≤ 2 then .layer else .home
  | _ => .layer

/-- The place of a lane's atomic, by address space (R177, R190, R193): `sp` 0 global, 1 own scratchpad, 2 peer window. -/
def State.atomPlace (s : State) (u : Nat) (x : Unit) (op : Nat) (ty : BitVec 2) (sp : BitVec 2) (va : DWord) : Place :=
  let n := atomBytes ty
  match sp.toNat with
  | 1 => State.spadPlace u x va n n
  | 2 => if va.toNat % n ≠ 0 then .fault .misaligned else s.peerPlace u x va.toNat n
  | _ => match s.globalPlace u x va ⟨n, .atomic, false⟩ with
    | .at (.host a) pm => if (op == 0 || op == 6 || op == 7) && s.atomicOps then .at (.host a) pm else .fault .protection
    | p => p

/-- The registers that hold the operands of a form, from `d` on. -/
def atomOperands (op : Nat) (ty : BitVec 2) (d : Nat) : List Nat :=
  match op == 7, atomBytes ty == 4 with
  | false, true => [d]
  | false, false => [d, d + 1]
  | true, true => [d, d + 1]
  | true, false => [d, d + 1, d + 2, d + 3]

/-- The registers an atomic writes. -/
def atomDests (ty : BitVec 2) (d : Nat) : List Nat := if atomBytes ty = 4 then [d] else [d, d + 1]

/-- Operand (or compare value) and new value of a lane. -/
def Gang.atomData (g : Gang) (op : Nat) (ty : BitVec 2) (d l : Nat) : DWord × DWord :=
  if atomBytes ty = 4 then ((g.V d l).setWidth 64, if op = 7 then (g.V (d + 1) l).setWidth 64 else 0)
  else (g.V64 d l, if op = 7 then g.V64 (d + 2) l else 0)

/-- An own-scratchpad atomic of one lane, performed at once by the scratchpad's atomic unit: the state after, the access, whether it wrote. -/
def State.atomSpad (s : State) (op : Nat) (ty : BitVec 2) (d l c off : Nat) (va x new : DWord) : State × Acc × Bool :=
  let n := atomBytes ty
  let base : Acc := { lane := l, loc := .spad c off, size := n, addr := va, done := true }
  if s.spadPoisoned c off n then (s, { base with bad := some .poisonedData }, false)
  else
    let old := s.spadRead c off n
    let r := atomWrites op ty old x.toNat new.toNat
    let s := s.viewedAll s.laneReader base.loc n
    ((match r with
      | some v => (s.note 0 (2 + c) s.who.u none (s.oldSpad c (valueAt off n v))).spadWrite c off n v
      | none => s), { base with writes := atomResult d ty old }, r.isSome)

/-- Builds the accesses of the lanes in ascending order; scratchpad atomics are performed as they are met (R190). -/
def State.atomAccs (s : State) (g : Gang) (op : Nat) (ty : BitVec 2) (lvl d : Nat) :
    List (Nat × DWord × Loc × Bool) → State × List Acc × Bool
  | [] => (s, [], false)
  | (l, va, loc, _) :: t =>
    let x := g.atomData op ty d l
    match loc with
    | .spad c off =>
      let r := s.atomSpad op ty d l c off va x.1 x.2
      let q := r.1.atomAccs g op ty lvl d t
      (q.1, r.2.1 :: q.2.1, r.2.2 || q.2.2)
    | _ =>
      let q := s.atomAccs g op ty lvl d t
      (q.1, { lane := l, loc := loc, size := atomBytes ty, addr := va, site := s.atomSite lvl loc } :: q.2.1, q.2.2)

/-- Operands of the lanes, by lane. -/
def laneMap (ls : List Nat) (f : Nat → DWord) : SMap DWord := ls.foldl (fun m l => mput m l (f l)) []

/-- An ATOM form with sub-opcode `op` (R190). -/
def State.atom (s : State) (op : Nat) (ty : BitVec 2) (lvl : BitVec 3) (d a : BitVec 7) (sp : BitVec 2) : Host.Outcome State Fault Refusal :=
  match s.cur.stream, s.here, s.hereGang with
  | .split u _ _, some (_, x), some g =>
    let dn := d.toNat
    let addr := fun l => if sp = 0 then g.V64 a.toNat l else (g.V a.toNat l).setWidth 64
    let ps : Places := (lanesOf s.cur.mask).map fun l => (l, addr l, s.atomPlace u x op ty sp (addr l))
    let cls : Cls := if sp = 1 then .sp else .vm
    let tags := if atomBytes ty = 4 then intTags else anyTag
    let srcs := (atomOperands op ty dn).map fun r => (r, tags)
    s.issue ((s.gangWord (a.toNat :: atomOperands op ty dn) []).andThen ((s.permuteFree (atomDests ty dn)).andThen
        ((s.countRoom cls).andThen (((s.needTags srcs).andThen (s.needGood [a.toNat, if sp = 0 then a.toNat + 1 else a.toNat])).andThen (placesVerdict ps)))))
      fun mk t =>
        let r := t.atomAccs g op ty lvl.toNat dn (placed ps mk)
        let ls := lanesOf mk
        let t := r.1.addOp cls (.atom dn op ty (laneMap ls fun l => (g.atomData op ty dn l).1) (laneMap ls fun l => (g.atomData op ty dn l).2))
          mk r.2.1
        let t := if op = 7 && r.2.2 then t.modHere fun y => { y with ops := y.ops.map fun o =>
          if o.id + 1 = t.nextId then { o with good := true } else o } else t
        if sp = 0 then t.cacheLanes ps mk else t
  | _, _, _ => s.issue (s.gangWord [] []) fun _ t => t

/-- ATOM.ADD (R190). -/
def execAtomAdd (ty : BitVec 2) (lvl : BitVec 3) (d a : BitVec 7) (sp : BitVec 2) (s : State) : Host.Outcome State Fault Refusal := s.atom 0 ty lvl d a sp
/-- ATOM.MIN (R190). -/
def execAtomMin (ty : BitVec 2) (lvl : BitVec 3) (d a : BitVec 7) (sp : BitVec 2) (s : State) : Host.Outcome State Fault Refusal := s.atom 1 ty lvl d a sp
/-- ATOM.MAX (R190). -/
def execAtomMax (ty : BitVec 2) (lvl : BitVec 3) (d a : BitVec 7) (sp : BitVec 2) (s : State) : Host.Outcome State Fault Refusal := s.atom 2 ty lvl d a sp
/-- ATOM.AND (R190). -/
def execAtomAnd (ty : BitVec 2) (lvl : BitVec 3) (d a : BitVec 7) (sp : BitVec 2) (s : State) : Host.Outcome State Fault Refusal := s.atom 3 ty lvl d a sp
/-- ATOM.OR (R190). -/
def execAtomOr (ty : BitVec 2) (lvl : BitVec 3) (d a : BitVec 7) (sp : BitVec 2) (s : State) : Host.Outcome State Fault Refusal := s.atom 4 ty lvl d a sp
/-- ATOM.XOR (R190). -/
def execAtomXor (ty : BitVec 2) (lvl : BitVec 3) (d a : BitVec 7) (sp : BitVec 2) (s : State) : Host.Outcome State Fault Refusal := s.atom 5 ty lvl d a sp
/-- ATOM.XCHG (R190). -/
def execAtomXchg (ty : BitVec 2) (lvl : BitVec 3) (d a : BitVec 7) (sp : BitVec 2) (s : State) : Host.Outcome State Fault Refusal := s.atom 6 ty lvl d a sp
/-- ATOM.CAS (R190, R194). -/
def execAtomCas (ty : BitVec 2) (lvl : BitVec 3) (d a : BitVec 7) (sp : BitVec 2) (s : State) : Host.Outcome State Fault Refusal := s.atom 7 ty lvl d a sp

end Sys2Proof.Machine
end

