-- ==== Sys2Proof/Machine/Vfloat.lean ====
section
/-! DEFINITION. Floating-point vector arithmetic (R158, R159): VF32, VF64, VHALF. -/

namespace Sys2Proof.Machine

/-- What the word reads of `fpctl` for a format on which `ftz` acts (R28, R88). -/
def State.fpEnv (s : State) : FpEnv := ⟨s.cur.fpctl.setWidth 2, s.cur.fpctl.getLsbD 2⟩

/-- What it reads for F16 and BF16, on which `ftz` does not act (R88). -/
def State.fpEnvHalf (s : State) : FpEnv := ⟨s.cur.fpctl.setWidth 2, false⟩

/-- A VF32 word; `d` is a third source of the fused forms. -/
def State.vf32 (s : State) (d : BitVec 7) (srcs : List (BitVec 7)) (f : FpEnv → List Nat → Rounded) : Host.Outcome State Fault Refusal :=
  s.lanewise [d.toNat] (srcs.map fun r => (r.toNat, [Tag.f32])) [] fun g l =>
    let y := f s.fpEnv (srcs.map fun r => (g.V r.toNat l).toNat)
    ([(d.toNat, ⟨BitVec.ofNat 32 y.bits, .f32⟩)], y.flags)

/-- A VF64 word. -/
def State.vf64 (s : State) (d : BitVec 7) (srcs : List (BitVec 7)) (f : FpEnv → List Nat → Rounded) : Host.Outcome State Fault Refusal :=
  s.lanewise [d.toNat, d.toNat + 1] (srcs.map fun r => (r.toNat, [Tag.f64])) [] fun g l =>
    let y := f s.fpEnv (srcs.map fun r => (g.V64 r.toNat l).toNat)
    (pairWrites d.toNat y.bits, y.flags)

/-- A VHALF word: each element by itself (R159). -/
def State.vhalf (s : State) (tag : Tag) (d : BitVec 7) (srcs : List (BitVec 7)) (f : FpEnv → List Nat → Rounded) : Host.Outcome State Fault Refusal :=
  s.lanewise [d.toNat] (srcs.map fun r => (r.toNat, [tag])) [] fun g l =>
    let y0 := f s.fpEnvHalf (srcs.map fun r => (g.V r.toNat l).toNat % 65536)
    let y1 := f s.fpEnvHalf (srcs.map fun r => (g.V r.toNat l).toNat / 65536)
    ([(d.toNat, ⟨BitVec.ofNat 32 (y0.bits + 65536 * y1.bits), tag⟩)], y0.flags ||| y1.flags)

/-- A two-source operation on a list of sources. -/
def on2 (f : FpEnv → Nat → Nat → Rounded) (v : FpEnv) : List Nat → Rounded
  | [a, b] => f v a b
  | _ => ⟨0, 0⟩

/-- A one-source operation. -/
def on1 (f : FpEnv → Nat → Rounded) (v : FpEnv) : List Nat → Rounded
  | [a] => f v a
  | _ => ⟨0, 0⟩

/-- A three-source operation: `a`, `b`, addend `d`. -/
def on3 (f : FpEnv → Nat → Nat → Nat → Rounded) (v : FpEnv) : List Nat → Rounded
  | [a, b, d] => f v a b d
  | _ => ⟨0, 0⟩

/-- VADD.F32 (R158). -/
def execVaddF32 (d a b : BitVec 7) (s : State) : Host.Outcome State Fault Refusal :=
  s.vf32 d [a, b] (on2 (fpAdd fmtF32))

/-- VSUB.F32 (R158). -/
def execVsubF32 (d a b : BitVec 7) (s : State) : Host.Outcome State Fault Refusal :=
  s.vf32 d [a, b] (on2 (fpSub fmtF32))

/-- VMUL.F32 (R158). -/
def execVmulF32 (d a b : BitVec 7) (s : State) : Host.Outcome State Fault Refusal :=
  s.vf32 d [a, b] (on2 (fpMul fmtF32))

/-- VMIN.F32 (R158). -/
def execVminF32 (d a b : BitVec 7) (s : State) : Host.Outcome State Fault Refusal :=
  s.vf32 d [a, b] (on2 (fpPick fmtF32 false))

/-- VMAX.F32 (R158). -/
def execVmaxF32 (d a b : BitVec 7) (s : State) : Host.Outcome State Fault Refusal :=
  s.vf32 d [a, b] (on2 (fpPick fmtF32 true))

/-- VFMA.F32 (R158). -/
def execVfmaF32 (d a b : BitVec 7) (s : State) : Host.Outcome State Fault Refusal :=
  s.vf32 d [a, b, d] (on3 (fpFma fmtF32 false false))

/-- VFMS.F32 (R158). -/
def execVfmsF32 (d a b : BitVec 7) (s : State) : Host.Outcome State Fault Refusal :=
  s.vf32 d [a, b, d] (on3 (fpFma fmtF32 false true))

/-- VFNMA.F32 (R158). -/
def execVfnmaF32 (d a b : BitVec 7) (s : State) : Host.Outcome State Fault Refusal :=
  s.vf32 d [a, b, d] (on3 (fpFma fmtF32 true false))

/-- VFNMS.F32 (R158). -/
def execVfnmsF32 (d a b : BitVec 7) (s : State) : Host.Outcome State Fault Refusal :=
  s.vf32 d [a, b, d] (on3 (fpFma fmtF32 true true))

/-- VABS.F32 (R158). -/
def execVabsF32 (d a : BitVec 7) (s : State) : Host.Outcome State Fault Refusal :=
  s.vf32 d [a] (on1 (fpAbs fmtF32))

/-- VNEG.F32 (R158). -/
def execVnegF32 (d a : BitVec 7) (s : State) : Host.Outcome State Fault Refusal :=
  s.vf32 d [a] (on1 (fpNeg fmtF32))

/-- VADD.F64 (R158). -/
def execVaddF64 (d a b : BitVec 7) (s : State) : Host.Outcome State Fault Refusal :=
  s.vf64 d [a, b] (on2 (fpAdd fmtF64))

/-- VSUB.F64 (R158). -/
def execVsubF64 (d a b : BitVec 7) (s : State) : Host.Outcome State Fault Refusal :=
  s.vf64 d [a, b] (on2 (fpSub fmtF64))

/-- VMUL.F64 (R158). -/
def execVmulF64 (d a b : BitVec 7) (s : State) : Host.Outcome State Fault Refusal :=
  s.vf64 d [a, b] (on2 (fpMul fmtF64))

/-- VMIN.F64 (R158). -/
def execVminF64 (d a b : BitVec 7) (s : State) : Host.Outcome State Fault Refusal :=
  s.vf64 d [a, b] (on2 (fpPick fmtF64 false))

/-- VMAX.F64 (R158). -/
def execVmaxF64 (d a b : BitVec 7) (s : State) : Host.Outcome State Fault Refusal :=
  s.vf64 d [a, b] (on2 (fpPick fmtF64 true))

/-- VFMA.F64 (R158). -/
def execVfmaF64 (d a b : BitVec 7) (s : State) : Host.Outcome State Fault Refusal :=
  s.vf64 d [a, b, d] (on3 (fpFma fmtF64 false false))

/-- VFMS.F64 (R158). -/
def execVfmsF64 (d a b : BitVec 7) (s : State) : Host.Outcome State Fault Refusal :=
  s.vf64 d [a, b, d] (on3 (fpFma fmtF64 false true))

/-- VFNMA.F64 (R158). -/
def execVfnmaF64 (d a b : BitVec 7) (s : State) : Host.Outcome State Fault Refusal :=
  s.vf64 d [a, b, d] (on3 (fpFma fmtF64 true false))

/-- VFNMS.F64 (R158). -/
def execVfnmsF64 (d a b : BitVec 7) (s : State) : Host.Outcome State Fault Refusal :=
  s.vf64 d [a, b, d] (on3 (fpFma fmtF64 true true))

/-- VABS.F64 (R158). -/
def execVabsF64 (d a : BitVec 7) (s : State) : Host.Outcome State Fault Refusal :=
  s.vf64 d [a] (on1 (fpAbs fmtF64))

/-- VNEG.F64 (R158). -/
def execVnegF64 (d a : BitVec 7) (s : State) : Host.Outcome State Fault Refusal :=
  s.vf64 d [a] (on1 (fpNeg fmtF64))

/-- VADD.BF16 (R159). -/
def execVaddBf16 (d a b : BitVec 7) (s : State) : Host.Outcome State Fault Refusal :=
  s.vhalf .bf16x2 d [a, b] (on2 (fpAdd fmtBF16))

/-- VSUB.BF16 (R159). -/
def execVsubBf16 (d a b : BitVec 7) (s : State) : Host.Outcome State Fault Refusal :=
  s.vhalf .bf16x2 d [a, b] (on2 (fpSub fmtBF16))

/-- VMUL.BF16 (R159). -/
def execVmulBf16 (d a b : BitVec 7) (s : State) : Host.Outcome State Fault Refusal :=
  s.vhalf .bf16x2 d [a, b] (on2 (fpMul fmtBF16))

/-- VMIN.BF16 (R159). -/
def execVminBf16 (d a b : BitVec 7) (s : State) : Host.Outcome State Fault Refusal :=
  s.vhalf .bf16x2 d [a, b] (on2 (fpPick fmtBF16 false))

/-- VMAX.BF16 (R159). -/
def execVmaxBf16 (d a b : BitVec 7) (s : State) : Host.Outcome State Fault Refusal :=
  s.vhalf .bf16x2 d [a, b] (on2 (fpPick fmtBF16 true))

/-- VFMA.BF16 (R159). -/
def execVfmaBf16 (d a b : BitVec 7) (s : State) : Host.Outcome State Fault Refusal :=
  s.vhalf .bf16x2 d [a, b, d] (on3 (fpFma fmtBF16 false false))

/-- VFMS.BF16 (R159). -/
def execVfmsBf16 (d a b : BitVec 7) (s : State) : Host.Outcome State Fault Refusal :=
  s.vhalf .bf16x2 d [a, b, d] (on3 (fpFma fmtBF16 false true))

/-- VFNMA.BF16 (R159). -/
def execVfnmaBf16 (d a b : BitVec 7) (s : State) : Host.Outcome State Fault Refusal :=
  s.vhalf .bf16x2 d [a, b, d] (on3 (fpFma fmtBF16 true false))

/-- VFNMS.BF16 (R159). -/
def execVfnmsBf16 (d a b : BitVec 7) (s : State) : Host.Outcome State Fault Refusal :=
  s.vhalf .bf16x2 d [a, b, d] (on3 (fpFma fmtBF16 true true))

/-- VABS.BF16 (R159). -/
def execVabsBf16 (d a : BitVec 7) (s : State) : Host.Outcome State Fault Refusal :=
  s.vhalf .bf16x2 d [a] (on1 (fpAbs fmtBF16))

/-- VNEG.BF16 (R159). -/
def execVnegBf16 (d a : BitVec 7) (s : State) : Host.Outcome State Fault Refusal :=
  s.vhalf .bf16x2 d [a] (on1 (fpNeg fmtBF16))

/-- VADD.F16 (R159). -/
def execVaddF16 (d a b : BitVec 7) (s : State) : Host.Outcome State Fault Refusal :=
  s.vhalf .f16x2 d [a, b] (on2 (fpAdd fmtF16))

/-- VSUB.F16 (R159). -/
def execVsubF16 (d a b : BitVec 7) (s : State) : Host.Outcome State Fault Refusal :=
  s.vhalf .f16x2 d [a, b] (on2 (fpSub fmtF16))

/-- VMUL.F16 (R159). -/
def execVmulF16 (d a b : BitVec 7) (s : State) : Host.Outcome State Fault Refusal :=
  s.vhalf .f16x2 d [a, b] (on2 (fpMul fmtF16))

/-- VMIN.F16 (R159). -/
def execVminF16 (d a b : BitVec 7) (s : State) : Host.Outcome State Fault Refusal :=
  s.vhalf .f16x2 d [a, b] (on2 (fpPick fmtF16 false))

/-- VMAX.F16 (R159). -/
def execVmaxF16 (d a b : BitVec 7) (s : State) : Host.Outcome State Fault Refusal :=
  s.vhalf .f16x2 d [a, b] (on2 (fpPick fmtF16 true))

/-- VFMA.F16 (R159). -/
def execVfmaF16 (d a b : BitVec 7) (s : State) : Host.Outcome State Fault Refusal :=
  s.vhalf .f16x2 d [a, b, d] (on3 (fpFma fmtF16 false false))

/-- VFMS.F16 (R159). -/
def execVfmsF16 (d a b : BitVec 7) (s : State) : Host.Outcome State Fault Refusal :=
  s.vhalf .f16x2 d [a, b, d] (on3 (fpFma fmtF16 false true))

/-- VFNMA.F16 (R159). -/
def execVfnmaF16 (d a b : BitVec 7) (s : State) : Host.Outcome State Fault Refusal :=
  s.vhalf .f16x2 d [a, b, d] (on3 (fpFma fmtF16 true false))

/-- VFNMS.F16 (R159). -/
def execVfnmsF16 (d a b : BitVec 7) (s : State) : Host.Outcome State Fault Refusal :=
  s.vhalf .f16x2 d [a, b, d] (on3 (fpFma fmtF16 true true))

/-- VABS.F16 (R159). -/
def execVabsF16 (d a : BitVec 7) (s : State) : Host.Outcome State Fault Refusal :=
  s.vhalf .f16x2 d [a] (on1 (fpAbs fmtF16))

/-- VNEG.F16 (R159). -/
def execVnegF16 (d a : BitVec 7) (s : State) : Host.Outcome State Fault Refusal :=
  s.vhalf .f16x2 d [a] (on1 (fpNeg fmtF16))

end Sys2Proof.Machine
end

