-- ==== Sys2Proof/Machine/Vint.lean ====
section
/-! DEFINITION. Integer vector arithmetic (R157): VINT. -/

namespace Sys2Proof.Machine

/-- A VINT word of two sources. -/
def State.vint2 (s : State) (d a b : BitVec 7) (ta tb : List Tag) (tag : Tag) (f : Word → Word → Word) : Host.Outcome State Fault Refusal :=
  s.lanewise [d.toNat] [(a.toNat, ta), (b.toNat, tb)] [] fun g l =>
    ([(d.toNat, ⟨f (g.V a.toNat l) (g.V b.toNat l), tag⟩)], 0)

/-- A VINT word of one source. -/
def State.vint1 (s : State) (d a : BitVec 7) (tag : Tag) (f : Word → Word) : Host.Outcome State Fault Refusal :=
  s.lanewise [d.toNat] [(a.toNat, anyTag)] [] fun g l => ([(d.toNat, ⟨f (g.V a.toNat l), tag⟩)], 0)

/-- `SatI(x, b)` (R93). -/
def satI (x : Int) (b : Nat) : Int := max (-(2 ^ (b - 1))) (min x (2 ^ (b - 1) - 1))

/-- `SatN(x, b)` (R93). -/
def satN (x : Int) (b : Nat) : Int := max 0 (min x (2 ^ b - 1))

/-- The value of an `.N32` operand. -/
def nat32 (x : Word) : Int := x.toNat

/-- VADD.I32 (R157). -/
def execVaddI32 (d a b : BitVec 7) (s : State) : Host.Outcome State Fault Refusal :=
  s.vint2 d a b intTags intTags .i32 fun x y => x + y

/-- VADD.N32 (R157). -/
def execVaddN32 (d a b : BitVec 7) (s : State) : Host.Outcome State Fault Refusal :=
  s.vint2 d a b intTags intTags .n32 fun x y => x + y

/-- VSUB.I32 (R157). -/
def execVsubI32 (d a b : BitVec 7) (s : State) : Host.Outcome State Fault Refusal :=
  s.vint2 d a b intTags intTags .i32 fun x y => x - y

/-- VSUB.N32 (R157). -/
def execVsubN32 (d a b : BitVec 7) (s : State) : Host.Outcome State Fault Refusal :=
  s.vint2 d a b intTags intTags .n32 fun x y => x - y

/-- VMUL.I32 (R157). -/
def execVmulI32 (d a b : BitVec 7) (s : State) : Host.Outcome State Fault Refusal :=
  s.vint2 d a b intTags intTags .i32 fun x y => x * y

/-- VMUL.N32 (R157). -/
def execVmulN32 (d a b : BitVec 7) (s : State) : Host.Outcome State Fault Refusal :=
  s.vint2 d a b intTags intTags .n32 fun x y => x * y

/-- VMULHI.I32 (R157). -/
def execVmulhiI32 (d a b : BitVec 7) (s : State) : Host.Outcome State Fault Refusal :=
  s.vint2 d a b intTags intTags .i32 fun x y => BitVec.ofInt 32 (x.toInt * y.toInt / 2 ^ 32)

/-- VMULHI.N32 (R157). -/
def execVmulhiN32 (d a b : BitVec 7) (s : State) : Host.Outcome State Fault Refusal :=
  s.vint2 d a b intTags intTags .n32 fun x y => BitVec.ofNat 32 (x.toNat * y.toNat / 2 ^ 32)

/-- VADDS.I32 (R157). -/
def execVaddsI32 (d a b : BitVec 7) (s : State) : Host.Outcome State Fault Refusal :=
  s.vint2 d a b intTags intTags .i32 fun x y => BitVec.ofInt 32 (satI (x.toInt + y.toInt) 32)

/-- VADDS.N32 (R157). -/
def execVaddsN32 (d a b : BitVec 7) (s : State) : Host.Outcome State Fault Refusal :=
  s.vint2 d a b intTags intTags .n32 fun x y => BitVec.ofInt 32 (satN (nat32 x + nat32 y) 32)

/-- VSUBS.I32 (R157). -/
def execVsubsI32 (d a b : BitVec 7) (s : State) : Host.Outcome State Fault Refusal :=
  s.vint2 d a b intTags intTags .i32 fun x y => BitVec.ofInt 32 (satI (x.toInt - y.toInt) 32)

/-- VSUBS.N32 (R157). -/
def execVsubsN32 (d a b : BitVec 7) (s : State) : Host.Outcome State Fault Refusal :=
  s.vint2 d a b intTags intTags .n32 fun x y => BitVec.ofInt 32 (satN (nat32 x - nat32 y) 32)

/-- VMIN.I32 (R157). -/
def execVminI32 (d a b : BitVec 7) (s : State) : Host.Outcome State Fault Refusal :=
  s.vint2 d a b intTags intTags .i32 fun x y => if x.slt y then x else y

/-- VMIN.N32 (R157). -/
def execVminN32 (d a b : BitVec 7) (s : State) : Host.Outcome State Fault Refusal :=
  s.vint2 d a b intTags intTags .n32 fun x y => if x.ult y then x else y

/-- VMAX.I32 (R157). -/
def execVmaxI32 (d a b : BitVec 7) (s : State) : Host.Outcome State Fault Refusal :=
  s.vint2 d a b intTags intTags .i32 fun x y => if x.slt y then y else x

/-- VMAX.N32 (R157). -/
def execVmaxN32 (d a b : BitVec 7) (s : State) : Host.Outcome State Fault Refusal :=
  s.vint2 d a b intTags intTags .n32 fun x y => if x.ult y then y else x

/-- VAND.B32 (R157). -/
def execVandB32 (d a b : BitVec 7) (s : State) : Host.Outcome State Fault Refusal :=
  s.vint2 d a b anyTag anyTag .raw fun x y => x &&& y

/-- VOR.B32 (R157). -/
def execVorB32 (d a b : BitVec 7) (s : State) : Host.Outcome State Fault Refusal :=
  s.vint2 d a b anyTag anyTag .raw fun x y => x ||| y

/-- VXOR.B32 (R157). -/
def execVxorB32 (d a b : BitVec 7) (s : State) : Host.Outcome State Fault Refusal :=
  s.vint2 d a b anyTag anyTag .raw fun x y => x ^^^ y

/-- VNOT.B32 (R157). -/
def execVnotB32 (d a : BitVec 7) (s : State) : Host.Outcome State Fault Refusal :=
  s.vint1 d a .raw fun x => ~~~x

/-- VSHL.B32 (R157). -/
def execVshlB32 (d a b : BitVec 7) (s : State) : Host.Outcome State Fault Refusal :=
  s.vint2 d a b anyTag intTags .raw fun x y => x <<< (y.toNat % 32)

/-- VSHR.N32 (R157). -/
def execVshrN32 (d a b : BitVec 7) (s : State) : Host.Outcome State Fault Refusal :=
  s.vint2 d a b intTags intTags .n32 fun x y => x >>> (y.toNat % 32)

/-- VSHR.I32 (R157). -/
def execVshrI32 (d a b : BitVec 7) (s : State) : Host.Outcome State Fault Refusal :=
  s.vint2 d a b intTags intTags .i32 fun x y => x.sshiftRight (y.toNat % 32)

/-- VPOPC.B32 (R157). -/
def execVpopcB32 (d a : BitVec 7) (s : State) : Host.Outcome State Fault Refusal :=
  s.vint1 d a .n32 fun x => BitVec.ofNat 32 (popcount (x.setWidth 64))

/-- VCLZ.B32 (R157). -/
def execVclzB32 (d a : BitVec 7) (s : State) : Host.Outcome State Fault Refusal :=
  s.vint1 d a .n32 fun x => BitVec.ofNat 32 (if x = 0 then 32 else 31 - Nat.log2 x.toNat)

end Sys2Proof.Machine
end

