-- ==== Sys2Proof/Machine/Vcvt.lean ====
section
/-! DEFINITION. Conversions, quantisation and moves (R162 to R164). -/

namespace Sys2Proof.Machine

/-- The tags a conversion accepts (R162). -/
def cvtTags (code : Nat) : List Tag :=
  match code with
  | 0x01 => [.f64] | 0x0D => [.f64] | 0x04 => [.bf16x2] | 0x05 => [.f16x2] | 0x07 => [.n32]
  | 0x12 => [.i8x4] | 0x13 => [.n8x4] | 0x14 => [.i16x2] | 0x15 => [.i4x8]
  | 0x00 => [.f32] | 0x02 => [.f32] | 0x03 => [.f32] | 0x08 => [.f32] | 0x09 => [.f32] | 0x0A => [.f32] | 0x0B => [.f32]
  | _ => [.i32]

/-- The registers whose tags a conversion checks: every register of a group, the even register of an F64 pair. -/
def cvtSources (code a : Nat) : List Nat :=
  match code with
  | 0x02 => [a, a + 1] | 0x03 => [a, a + 1] | 0x10 => [a, a + 1]
  | 0x0E => [a, a + 1, a + 2, a + 3] | 0x0F => [a, a + 1, a + 2, a + 3]
  | 0x11 => (List.range 8).map (a + ·)
  | _ => [a]

/-- The registers a conversion writes. -/
def cvtDests (code d : Nat) : List Nat :=
  match code with
  | 0x00 => [d, d + 1] | 0x0C => [d, d + 1] | 0x04 => [d, d + 1] | 0x05 => [d, d + 1] | 0x14 => [d, d + 1]
  | 0x12 => [d, d + 1, d + 2, d + 3] | 0x13 => [d, d + 1, d + 2, d + 3]
  | 0x15 => (List.range 8).map (d + ·)
  | _ => [d]

/-- One float to another (R162): source format, whether `ftz` acts on the source and on the result. -/
def fpConvert (src dst : Fmt) (mode : Mode) (ftzIn ftzOut : Bool) (x : Nat) : Rounded :=
  let y := round dst mode ftzOut (src.source ftzIn x)
  ⟨y.bits, y.flags ||| snanFlags src [x]⟩

/-- A float to an integer (R94, R162). -/
def fpToInt (src : Fmt) (mode : Mode) (ftz : Bool) (lo hi : Int) (x : Nat) : Rounded :=
  let y := toInteger mode lo hi (src.source ftz x)
  ⟨(BitVec.ofInt 32 y.1).toNat, y.2⟩

/-- Element `k` of `w` bits of a packed register (R92). -/
def element (x : Word) (w k : Nat) : Nat := x.toNat / 2 ^ (w * k) % 2 ^ w

/-- Signed value of a `w`-bit element. -/
def signedElement (x : Word) (w k : Nat) : Int :=
  let n := element x w k
  if n < 2 ^ (w - 1) then n else (n : Int) - 2 ^ w

/-- Elements packed from element 0 up (R92). -/
def packElements (w : Nat) : List Int → Nat
  | [] => 0
  | x :: t => (x % 2 ^ w).toNat + 2 ^ w * packElements w t

/-- A conversion in one lane: sources as registers `a`, `a + 1`, … hold them; register writes and flags (R162). -/
def Gang.convert (g : Gang) (code : Nat) (v : FpEnv) (d a l : Nat) : List (Nat × VReg) × FpFlags :=
  let x := g.V a l
  let x64 := (g.V64 a l).toNat
  let reg := fun (n : Nat) (tag : Tag) => [(d, (⟨BitVec.ofNat 32 n, tag⟩ : VReg))]
  let pack2 := fun (f : Fmt) (tag : Tag) =>
    let y0 := fpConvert fmtF32 f v.mode false false x.toNat
    let y1 := fpConvert fmtF32 f v.mode false false (g.V (a + 1) l).toNat
    (reg (y0.bits + 65536 * y1.bits) tag, y0.flags ||| y1.flags)
  let unpack2 := fun (f : Fmt) =>
    let y0 := fpConvert f fmtF32 v.mode false false (element x 16 0)
    let y1 := fpConvert f fmtF32 v.mode false false (element x 16 1)
    ([(d, (⟨BitVec.ofNat 32 y0.bits, .f32⟩ : VReg)), (d + 1, ⟨BitVec.ofNat 32 y1.bits, .f32⟩)], y0.flags ||| y1.flags)
  let toInt := fun (f : Fmt) (m : Mode) (n : Nat) (tag : Tag) (lo hi : Int) =>
    let y := fpToInt f m v.ftz lo hi n
    (reg y.bits tag, y.flags ||| snanFlags f [n])
  let packInts := fun (n w : Nat) (sat : Int → Int) (tag : Tag) =>
    (reg (packElements w ((List.range n).map fun k => sat (g.V (a + k) l).toInt)) tag, (0 : FpFlags))
  let spread := fun (n : Nat) (tag : Tag) (f : Nat → Int) =>
    ((List.range n).map fun k => (d + k, (⟨BitVec.ofInt 32 (f k), tag⟩ : VReg)), (0 : FpFlags))
  match code with
  | 0x00 => let y := fpConvert fmtF32 fmtF64 v.mode v.ftz false x.toNat; (pairWrites d y.bits, y.flags)
  | 0x01 => let y := fpConvert fmtF64 fmtF32 v.mode v.ftz v.ftz x64; (reg y.bits .f32, y.flags)
  | 0x02 => pack2 fmtBF16 .bf16x2
  | 0x03 => pack2 fmtF16 .f16x2
  | 0x04 => unpack2 fmtBF16
  | 0x05 => unpack2 fmtF16
  | 0x06 => let y := round fmtF32 v.mode false (exactOfInt x.toInt 0 false); (reg y.bits .f32, y.flags)
  | 0x07 => let y := round fmtF32 v.mode false (exactOfInt x.toNat 0 false); (reg y.bits .f32, y.flags)
  | 0x08 => toInt fmtF32 v.mode x.toNat .i32 (-(2 ^ 31)) (2 ^ 31 - 1)
  | 0x09 => toInt fmtF32 v.mode x.toNat .n32 0 (2 ^ 32 - 1)
  | 0x0A => toInt fmtF32 1 x.toNat .i32 (-(2 ^ 31)) (2 ^ 31 - 1)
  | 0x0B => toInt fmtF32 1 x.toNat .n32 0 (2 ^ 32 - 1)
  | 0x0C => let y := round fmtF64 v.mode false (exactOfInt x.toInt 0 false); (pairWrites d y.bits, y.flags)
  | 0x0D => toInt fmtF64 v.mode x64 .i32 (-(2 ^ 31)) (2 ^ 31 - 1)
  | 0x0E => packInts 4 8 (satI · 8) .i8x4
  | 0x0F => packInts 4 8 (satN · 8) .n8x4
  | 0x10 => packInts 2 16 (satI · 16) .i16x2
  | 0x11 => packInts 8 4 (satI · 4) .i4x8
  | 0x12 => spread 4 .i32 (signedElement x 8)
  | 0x13 => spread 4 .n32 fun k => element x 8 k
  | 0x14 => spread 2 .i32 (signedElement x 16)
  | _ => spread 8 .i32 (signedElement x 4)

/-- VCVT (R162). -/
def execVcvt (d a code : BitVec 7) (s : State) : Host.Outcome State Fault Refusal :=
  let c := code.toNat
  s.lanewise (cvtDests c d.toNat) ((cvtSources c a.toNat).map fun r => (r, cvtTags c)) [] fun g l =>
    g.convert c s.fpEnv d.toNat a.toNat l

/-- One element of VQNT and its flags (R163). -/
def quantise (x sc : Nat) : Nat × FpFlags :=
  let p := exactMul (fmtF32.value x) (fmtF32.value sc)
  match p.1 with
  | .nan => (0x80, flagNv)
  | .inf neg => if neg then (0x81, flagNv) else (0x7F, flagNv)
  | .zero _ => (0, 0)
  | .real neg m e =>
    let q := roundInt 0 neg m e
    if 127 < q then (0x7F, flagNv)
    else if q < -127 then (0x81, flagNv)
    else ((q % 256).toNat, flagIf ((scaleTo m e 0).2 != 0) flagNx)

/-- VQNT (R163). -/
def execVqnt (d a b : BitVec 7) (s : State) : Host.Outcome State Fault Refusal :=
  let n := a.toNat
  s.lanewise [d.toNat] (((List.range 4).map fun k => (n + k, [Tag.f32])) ++ [(b.toNat, [Tag.f32])]) [] fun g l =>
    let e := (List.range 4).map fun k => quantise (g.V (n + k) l).toNat (g.V b.toNat l).toNat
    ([(d.toNat, ⟨BitVec.ofNat 32 (packElements 8 (e.map fun p => (p.1 : Int))), .i8x4⟩)], e.foldl (fun f p => f ||| p.2) 0)

/-- MOV: bits and tag (R164). -/
def execVcvtMov (d a : BitVec 7) (s : State) : Host.Outcome State Fault Refusal :=
  s.lanewise [d.toNat] [(a.toNat, anyTag)] [] fun g l => ([(d.toNat, g.VR a.toNat l)], 0)

/-- RETAG: the same bits under another tag; a pair for F64 (R164). -/
def execRetag (d a : BitVec 7) (tag : BitVec 4) (s : State) : Host.Outcome State Fault Refusal :=
  let ds := if tag = 2 then [d.toNat, d.toNat + 1] else [d.toNat]
  s.lanewise ds ((a.toNat, anyTag) :: if tag = 2 then [(a.toNat + 1, anyTag)] else []) [] fun g l =>
    (if tag = 2 then pairWrites d.toNat (g.V64 a.toNat l).toNat
     else [(d.toNat, ⟨g.V a.toNat l, Tag.ofCode tag.toNat⟩)], 0)

/-- VMOVS: a scalar register in every active lane (R164). -/
def execVmovs (d : BitVec 7) (a : BitVec 6) (tag : BitVec 4) (s : State) : Host.Outcome State Fault Refusal :=
  let ds := if tag = 2 then [d.toNat, d.toNat + 1] else [d.toNat]
  s.lanewise ds [] [a.toNat] fun g _ =>
    (if tag = 2 then pairWrites d.toNat (g.S a.toNat).toNat
     else [(d.toNat, ⟨(g.S a.toNat).setWidth 32, Tag.ofCode tag.toNat⟩)], 0)

end Sys2Proof.Machine
end

