-- ==== Sys2Proof/Machine/Xlane.lean ====
section
/-! DEFINITION. Cross-lane words (R168 to R176): SHFL, VOTE, REDL, VPOP. -/

namespace Sys2Proof.Machine

/-- A permute: sources read in every active lane at issue, destinations written when it completes (R169). -/
def State.permute (s : State) (dst : List Nat) (srcs : List (Nat × List Tag))
    (f : Gang → DWord → Nat → List (Nat × VReg) × FpFlags) : Host.Outcome State Fault Refusal :=
  s.issue ((s.gangWord (dst ++ srcs.map (·.1)) []).andThen
      ((s.permuteFree dst).andThen ((s.needTags srcs).andThen (s.countRoom .sp))))
    fun mk t =>
      match s.hereGang with
      | some x =>
        let ls := lanesOf mk
        (t.addOp .sp (.permute dst) mk (ls.map fun l =>
          { lane := l, loc := .spad 0 0, writes := (f x mk l).1, done := true })).raiseFlags
          (ls.foldl (fun b l => b ||| (f x mk l).2) 0)
      | none => t

/-- What rank `j` gives: bits and tag of `a` in the lane of that rank, zero RAW outside the split (R170). -/
def Gang.fromRank (g : Gang) (mk : DWord) (a : Nat) (j : Int) : VReg :=
  if j < 0 then {} else match laneAt mk j.toNat with
    | some l => g.VR a l
    | none => {}

/-- A SHFL form: the source rank from the lane's rank and the width (R170). -/
def State.shfl (s : State) (d a : BitVec 7) (srcs : List (Nat × List Tag)) (rank : Gang → Nat → Nat → Int → Int) :
    Host.Outcome State Fault Refusal :=
  s.permute [d.toNat] ((a.toNat, anyTag) :: srcs) fun g mk l =>
    ([(d.toNat, g.fromRank mk a.toNat (rank g l (popcount mk) (rankOf mk l)))], 0)

/-- SHFL.IDX (R170). -/
def execShflIdx (d a b : BitVec 7) (s : State) : Host.Outcome State Fault Refusal :=
  s.shfl d a [(b.toNat, intTags)] fun g l w _ => ((g.V b.toNat l).toNat % w : Nat)

/-- SHFL.UP (R170). -/
def execShflUp (d a : BitVec 7) (n : BitVec 6) (s : State) : Host.Outcome State Fault Refusal :=
  s.shfl d a [] fun _ _ _ k => k - n.toNat

/-- SHFL.DN (R170). -/
def execShflDn (d a : BitVec 7) (n : BitVec 6) (s : State) : Host.Outcome State Fault Refusal :=
  s.shfl d a [] fun _ _ _ k => k + n.toNat

/-- SHFL.XOR (R170). -/
def execShflXor (d a : BitVec 7) (n : BitVec 6) (s : State) : Host.Outcome State Fault Refusal :=
  s.shfl d a [] fun _ _ _ k => (k.toNat ^^^ n.toNat : Nat)

/-- SHFL.BC (R170). -/
def execShflBc (d a : BitVec 7) (n : BitVec 6) (s : State) : Host.Outcome State Fault Refusal :=
  s.shfl d a [] fun _ _ w _ => (n.toNat % w : Nat)

/-- A VOTE form (R171): `s(d)` from the ranks that vote true and the width. -/
def State.vote (s : State) (d : BitVec 6) (a : BitVec 7) (f : List Nat → Nat → DWord) : Host.Outcome State Fault Refusal :=
  s.issue ((s.gangWord [a.toNat] [d.toNat]).andThen (s.needGood [a.toNat])) fun mk t =>
    match s.hereGang with
    | some x =>
      let yes := ((lanesOf mk).filter fun l => x.V a.toNat l != 0).map (rankOf mk)
      t.modHere (·.setS d.toNat (f yes (popcount mk)))
    | none => t

/-- VOTE.ANY (R171). -/
def execVoteAny (d : BitVec 6) (a : BitVec 7) (s : State) : Host.Outcome State Fault Refusal :=
  s.vote d a fun yes _ => bool64 (!yes.isEmpty)

/-- VOTE.ALL (R171). -/
def execVoteAll (d : BitVec 6) (a : BitVec 7) (s : State) : Host.Outcome State Fault Refusal :=
  s.vote d a fun yes w => bool64 (yes.length == w)

/-- VOTE.BAL: packed by rank (R171). -/
def execVoteBal (d : BitVec 6) (a : BitVec 7) (s : State) : Host.Outcome State Fault Refusal :=
  s.vote d a fun yes _ => maskOf yes

/-- Tags accepted and given by a reduction code, and whether it works on pairs (R172). -/
def redlForm (code : Nat) : List Tag × Tag × Bool :=
  match code with
  | 0x00 => (intTags, .i32, false) | 0x03 => (intTags, .i32, false) | 0x07 => (intTags, .i32, false)
  | 0x04 => (intTags, .n32, false) | 0x08 => (intTags, .n32, false)
  | 0x01 => ([.f32], .f32, false) | 0x05 => ([.f32], .f32, false) | 0x09 => ([.f32], .f32, false)
  | 0x02 => ([.f64], .f64, true) | 0x06 => ([.f64], .f64, true) | 0x0A => ([.f64], .f64, true)
  | _ => (anyTag, .raw, false)

/-- `Combine` of a reduction code (R172). -/
def redlCombine (code : Nat) (v : FpEnv) (x y : Nat) : Rounded :=
  let bx := BitVec.ofNat 32 x
  let by' := BitVec.ofNat 32 y
  match code with
  | 0x00 => ⟨(bx + by').toNat, 0⟩
  | 0x01 => fpAdd fmtF32 v x y
  | 0x02 => fpAdd fmtF64 v x y
  | 0x03 => ⟨if bx.slt by' then x else y, 0⟩
  | 0x04 => ⟨min x y, 0⟩
  | 0x05 => fpPick fmtF32 false v x y
  | 0x06 => fpPick fmtF64 false v x y
  | 0x07 => ⟨if bx.slt by' then y else x, 0⟩
  | 0x08 => ⟨max x y, 0⟩
  | 0x09 => fpPick fmtF32 true v x y
  | 0x0A => fpPick fmtF64 true v x y
  | 0x0B => ⟨x &&& y, 0⟩
  | 0x0C => ⟨x ||| y, 0⟩
  | _ => ⟨x ^^^ y, 0⟩

/-- One round of the log-step order: neighbours combined, a last one without a neighbour kept (R173). -/
def redlRound (f : Nat → Nat → Rounded) : List Nat → List Nat × FpFlags
  | x :: y :: t =>
    let r := redlRound f t
    let c := f x y
    (c.bits :: r.1, c.flags ||| r.2)
  | l => (l, 0)

/-- The log-step reduction (R173): rounds until one value is left; six rounds reduce 64 values. -/
def redlAll (f : Nat → Nat → Rounded) : Nat → List Nat → List Nat × FpFlags
  | 0, l => (l, 0)
  | k + 1, l =>
    let r := redlRound f l
    let q := redlAll f k r.1
    (q.1, r.2 ||| q.2)

/-- REDL (R172, R173). The flags go to the issuing split once. -/
def execRedl (d a code : BitVec 7) (s : State) : Host.Outcome State Fault Refusal :=
  let c := code.toNat
  let form := redlForm c
  let wide := form.2.2
  let dst := if wide then [d.toNat, d.toNat + 1] else [d.toNat]
  s.permute dst [(a.toNat, form.1)] fun g mk _ =>
    let vals := (lanesOf mk).map fun l => if wide then (g.V64 a.toNat l).toNat else (g.V a.toNat l).toNat
    let r := redlAll (redlCombine c s.fpEnv) 6 vals
    let x := r.1.headD 0
    (if wide then pairWrites d.toNat x else [(d.toNat, ⟨BitVec.ofNat 32 x, form.2.1⟩)], r.2)

/-- The operand queue of a gang on channel `ch` (16 to 31), as a key (R175). -/
def opqKey (g ch : Nat) : Nat := 16 * g + (ch - 16)

/-- The stream of a queue is open: the lead is not stopped, or a STRM for it has elements still to fetch (R176). -/
def Unit.streamOpen (x : Unit) (key : Nat) : Bool :=
  x.lead.state != .stopped ||
    x.cmds.any fun c => c.op == .strm && c.info.toNat == key && decide (c.progress.headD 0 < recCount (c.recs.headD 0).toNat)

/-- VPOP (R175, R176). -/
def execVpop (d ch : BitVec 7) (s : State) : Host.Outcome State Fault Refusal :=
  match s.cur.stream, s.here with
  | .split u g _, some (_, x) =>
    let c := ch.toNat
    let key := opqKey g c
    let q := (mget {} x.opq key).elems
    let chan := if 49 ≤ c then Verdict.trap (s.allLanes .channelUnavailable) else .ok
    s.issue ((s.gangWord [d.toNat] []).andThen ((s.permuteFree [d.toNat]).andThen (chan.andThen
        ((need ((!x.streamOpen key || decide (popcount s.cur.mask ≤ q.length)) && (q.take (popcount s.cur.mask)).all (!·.stale)) .wait).andThen
          (need (!x.badFirst (64 + key) (popcount s.cur.mask)) (.trap (s.allLanes .poisonedData)))))))
      fun mk t =>
        let t := t.modHere fun y => (lanesOf mk).foldl (fun y l => y.setV d.toNat l (q.getD (rankOf mk l) {}).r) y
        t.modUnit u fun x => { x.popBad (64 + key) (popcount mk) with opq := mset {} x.opq key { (mget {} x.opq key) with elems := q.drop (popcount mk) } }
  | _, _ => s.issue (s.gangWord [] []) fun _ t => t

/-- The lanes an outstanding permute writes next: a free part of those left (R381, assumption 86). -/
def Op.nextLanes (o : Op) : List Acc :=
  let some' := o.accs.filter fun a => (Config.permuteLanes o.id o.accs.length).getLsbD a.lane
  if some'.isEmpty then o.accs else some'

/-- PERMUTE_COMPLETE: an outstanding permute writes its results lane by lane (R170), and when all are written its count falls in order (R27, R169). -/
def execPermuteComplete (u g op : Nat) (s : State) : Host.Outcome State Fault Refusal :=
  .next (s.modGang u g fun x =>
    match x.ops.find? fun o => o.id == op with
    | some o =>
      if o.kind.permuteDests.isEmpty then x
      else
        let now := o.nextLanes
        let x := now.foldl (fun y a => if o.mask.getLsbD a.lane then y.writeLane a.lane a.writes else y) x
        { x with ops := retire (x.ops.map fun p => if p.id = op then { p with accs := p.accs.filter fun a => !now.contains a } else p) }
    | none => x)

end Sys2Proof.Machine
end

