-- ==== Sys2Proof/Machine/Chain.lean ====
section
/-! DEFINITION. Chains (R43, R46, R47): pipes, destinations, legality. -/

namespace Sys2Proof.Machine

/-! ### Destinations (R47) -/

/-- A vector register as a destination: its number. -/
def regV {w : Nat} (d : BitVec w) : Nat := d.toNat
/-- A scalar register: `s` of a gang, `h` of a lead. -/
def regS {w : Nat} (d : BitVec w) : Nat := 256 + d.toNat
/-- A mask register. -/
def regM {w : Nat} (d : BitVec w) : Nat := 512 + d.toNat
/-- An accumulator tile. -/
def regT {w : Nat} (d : BitVec w) : Nat := 768 + d.toNat
/-- The shadow weight plane. -/
def shadowReg : Nat := 1024

/-- The registers an instruction writes, implicit destinations included (R47). -/
def dests (lead : Bool) : Instr → List Nat
  | .nop => []
  | .exit => []
  | .gbar => []
  | .ubar => []
  | .wait _ _ => []
  | .trap _ => []
  | .bkpt _ => []
  | .rett => []
  | .cancelGraph _ => []
  | .cancelPhase _ => []
  | .cancelJob _ => []
  | .ctxsv _ => []
  | .br _ => []
  | .brZ _ _ => []
  | .brNz _ _ => []
  | .brd _ _ => []
  | .brdN _ _ => []
  | .call link _ => [regS link]
  | .ret _ => []
  | .spawn c _ => [regS c]
  | .add d _ _ => [regS d]
  | .sub d _ _ => [regS d]
  | .mul d _ _ => [regS d]
  | .mulhiI64 d _ _ => [regS d]
  | .mulhiN64 d _ _ => [regS d]
  | .and d _ _ => [regS d]
  | .or d _ _ => [regS d]
  | .xor d _ _ => [regS d]
  | .shl d _ _ => [regS d]
  | .shr d _ _ => [regS d]
  | .sar d _ _ => [regS d]
  | .minI64 d _ _ => [regS d]
  | .minN64 d _ _ => [regS d]
  | .maxI64 d _ _ => [regS d]
  | .maxN64 d _ _ => [regS d]
  | .seq d _ _ => [regS d]
  | .sltI64 d _ _ => [regS d]
  | .sltN64 d _ _ => [regS d]
  | .mov d _ => [regS d]
  | .popc d _ => [regS d]
  | .clz d _ => [regS d]
  | .mtos d _ => [regS d]
  | .stom d _ => [regM d]
  | .mand d _ _ => [regM d]
  | .mor d _ _ => [regM d]
  | .mxor d _ _ => [regM d]
  | .mnot d _ => [regM d]
  | .addi d _ _ => [regS d]
  | .andi d _ _ => [regS d]
  | .ori d _ _ => [regS d]
  | .xori d _ _ => [regS d]
  | .shli d _ _ => [regS d]
  | .shri d _ _ => [regS d]
  | .sari d _ _ => [regS d]
  | .seqi d _ _ => [regS d]
  | .sltiI64 d _ _ => [regS d]
  | .sltiN64 d _ _ => [regS d]
  | .ldi d _ _ => [regS d]
  | .ldih d _ _ => [regS d]
  | .srd d num => if lead then [regS d] else if num ≤ 1 then [regV d] else if num = 0x13 then [regV d, regV d + 1] else [regS d]
  | .swr _ _ => []
  | .sldB64 d _ _ => [regS d]
  | .sldN32 d _ _ => [regS d]
  | .sldI32 d _ _ => [regS d]
  | .sstB64 _ _ _ => []
  | .sstB32 _ _ _ => []
  | .dsld d _ _ => [regS d]
  | .dsst _ _ _ => []
  | .sldsB64 d _ _ => [regS d]
  | .sstsB64 _ _ _ => []
  | .vaddI32 d _ _ => [regV d]
  | .vaddN32 d _ _ => [regV d]
  | .vsubI32 d _ _ => [regV d]
  | .vsubN32 d _ _ => [regV d]
  | .vmulI32 d _ _ => [regV d]
  | .vmulN32 d _ _ => [regV d]
  | .vmulhiI32 d _ _ => [regV d]
  | .vmulhiN32 d _ _ => [regV d]
  | .vaddsI32 d _ _ => [regV d]
  | .vaddsN32 d _ _ => [regV d]
  | .vsubsI32 d _ _ => [regV d]
  | .vsubsN32 d _ _ => [regV d]
  | .vminI32 d _ _ => [regV d]
  | .vminN32 d _ _ => [regV d]
  | .vmaxI32 d _ _ => [regV d]
  | .vmaxN32 d _ _ => [regV d]
  | .vandB32 d _ _ => [regV d]
  | .vorB32 d _ _ => [regV d]
  | .vxorB32 d _ _ => [regV d]
  | .vnotB32 d _ => [regV d]
  | .vshlB32 d _ _ => [regV d]
  | .vshrN32 d _ _ => [regV d]
  | .vshrI32 d _ _ => [regV d]
  | .vpopcB32 d _ => [regV d]
  | .vclzB32 d _ => [regV d]
  | .vaddF32 d _ _ => [regV d]
  | .vsubF32 d _ _ => [regV d]
  | .vmulF32 d _ _ => [regV d]
  | .vminF32 d _ _ => [regV d]
  | .vmaxF32 d _ _ => [regV d]
  | .vfmaF32 d _ _ => [regV d]
  | .vfmsF32 d _ _ => [regV d]
  | .vfnmaF32 d _ _ => [regV d]
  | .vfnmsF32 d _ _ => [regV d]
  | .vabsF32 d _ => [regV d]
  | .vnegF32 d _ => [regV d]
  | .vaddF64 d _ _ => [regV d, regV d + 1]
  | .vsubF64 d _ _ => [regV d, regV d + 1]
  | .vmulF64 d _ _ => [regV d, regV d + 1]
  | .vminF64 d _ _ => [regV d, regV d + 1]
  | .vmaxF64 d _ _ => [regV d, regV d + 1]
  | .vfmaF64 d _ _ => [regV d, regV d + 1]
  | .vfmsF64 d _ _ => [regV d, regV d + 1]
  | .vfnmaF64 d _ _ => [regV d, regV d + 1]
  | .vfnmsF64 d _ _ => [regV d, regV d + 1]
  | .vabsF64 d _ => [regV d, regV d + 1]
  | .vnegF64 d _ => [regV d, regV d + 1]
  | .vaddBf16 d _ _ => [regV d]
  | .vsubBf16 d _ _ => [regV d]
  | .vmulBf16 d _ _ => [regV d]
  | .vminBf16 d _ _ => [regV d]
  | .vmaxBf16 d _ _ => [regV d]
  | .vfmaBf16 d _ _ => [regV d]
  | .vfmsBf16 d _ _ => [regV d]
  | .vfnmaBf16 d _ _ => [regV d]
  | .vfnmsBf16 d _ _ => [regV d]
  | .vabsBf16 d _ => [regV d]
  | .vnegBf16 d _ => [regV d]
  | .vaddF16 d _ _ => [regV d]
  | .vsubF16 d _ _ => [regV d]
  | .vmulF16 d _ _ => [regV d]
  | .vminF16 d _ _ => [regV d]
  | .vmaxF16 d _ _ => [regV d]
  | .vfmaF16 d _ _ => [regV d]
  | .vfmsF16 d _ _ => [regV d]
  | .vfnmaF16 d _ _ => [regV d]
  | .vfnmsF16 d _ _ => [regV d]
  | .vabsF16 d _ => [regV d]
  | .vnegF16 d _ => [regV d]
  | .vcmp _ _ md _ _ => [regM md]
  | .vsel d _ _ _ => [regV d]
  | .vcvt d _ code => cvtDests code.toNat d.toNat
  | .vqnt d _ _ => [regV d]
  | .vcvtMov d _ => [regV d]
  | .retag d _ tag => if tag = 2 then [regV d, regV d + 1] else [regV d]
  | .vmovs d _ tag => if tag = 2 then [regV d, regV d + 1] else [regV d]
  | .vrcpF32 d _ => [regV d]
  | .vrsqF32 d _ => [regV d]
  | .vsqrtF32 d _ => [regV d]
  | .vexp2F32 d _ => [regV d]
  | .vlog2F32 d _ => [regV d]
  | .vsinF32 d _ => [regV d]
  | .vcosF32 d _ => [regV d]
  | .vtanhF32 d _ => [regV d]
  | .shflIdx d _ _ => [regV d]
  | .shflUp d _ _ => [regV d]
  | .shflDn d _ _ => [regV d]
  | .shflXor d _ _ => [regV d]
  | .shflBc d _ _ => [regV d]
  | .voteAny d _ => [regS d]
  | .voteAll d _ => [regS d]
  | .voteBal d _ => [regS d]
  | .redl d _ code => if (redlForm code.toNat).2.2 then [regV d, regV d + 1] else [regV d]
  | .vpop d _ => [regV d]
  | .vld ty d _ _ _ => tyRegs d.toNat ty
  | .vst _ _ _ _ _ => []
  | .vlds ty d _ _ _ => tyRegs d.toNat ty
  | .vsts _ _ _ _ _ => []
  | .vldpN32 d _ _ => [regV d]
  | .sevict _ => []
  | .vldtB8 d _ => [regV d]
  | .vldtB16 d _ => [regV d, regV d + 1]
  | .vldtB32 d _ => [regV d, regV d + 1, regV d + 2, regV d + 3]
  | .atomAdd ty _ d _ _ => atomDests ty d.toNat
  | .atomMin ty _ d _ _ => atomDests ty d.toNat
  | .atomMax ty _ d _ _ => atomDests ty d.toNat
  | .atomAnd ty _ d _ _ => atomDests ty d.toNat
  | .atomOr ty _ d _ _ => atomDests ty d.toNat
  | .atomXor ty _ d _ _ => atomDests ty d.toNat
  | .atomXchg ty _ d _ _ => atomDests ty d.toNat
  | .atomCas ty _ d _ _ => atomDests ty d.toNat
  | .fenceAcq _ => []
  | .fenceRel _ => []
  | .fenceAr _ => []
  | .xfence _ _ => []
  | .lvlq d _ _ => [regS d]
  | .boinit _ _ => []
  | .boexpect _ _ => []
  | .boarrive _ _ => []
  | .bowait _ _ => []
  | .send _ _ => []
  | .recv d _ => [regS d]
  | .chwp d _ => [regS d]
  | .dqpush _ => []
  | .dqpop d => [regS d]
  | .trec _ _ _ => []
  | .mldw _ _ _ _ => [shadowReg]
  | .mswap => []
  | .mma _ _ tile _ _ => [regT tile]
  | .mdrain _ _ _ tile _ _ => [regT tile]
  | .tcopy _ _ _ _ _ => []
  | .strm _ _ _ _ => []
  | .nmc _ _ _ => []
  | .dread _ _ _ => []
  | .dappend _ _ _ => []
  | .splitRaise _ _ _ => []
  | .gangContextFree _ _ => []
  | .gangBarrierComplete _ _ => []
  | .unitBarrierComplete _ => []
  | .unitEnd _ => []
  | .loadReturn _ _ _ _ _ => []
  | .permuteComplete _ _ _ => []
  | .writeAtHome _ _ => []
  | .forwardedWriteApply _ _ => []
  | .remoteWrite _ _ => []
  | .atomicAtSite _ _ _ _ => []
  | .atomicopCompletion _ _ _ _ _ => []
  | .seamClaimRequest _ _ _ => []
  | .seamRecall _ _ => []
  | .recallComplete _ => []
  | .claimRelease _ _ => []
  | .seamBlockFill _ _ _ => []
  | .dressingCacheEviction _ _ _ => []
  | .seamWritebackAck _ _ => []
  | .firstTouchService _ _ => []
  | .tileCommandStart _ _ => []
  | .tileCommandComplete _ _ => []
  | .engineFault _ _ => []
  | .tcopyElementWrite _ _ _ => []
  | .streamSectorFetch _ _ => []
  | .nmcStart _ => []
  | .nmcSubcommandComplete _ _ _ _ => []
  | .deepPageFetchComplete _ _ _ => []
  | .dappendExecute _ => []
  | .dappendDurable _ => []
  | .preemption _ _ => []
  | .sqTail _ _ => []
  | .sqBase _ _ => []
  | .sqSize _ _ => []
  | .sqEnable _ _ => []
  | .sqDisable _ _ => []
  | .ctxDesc _ => []
  | .xltInvPage _ => []
  | .xltInvAll _ => []
  | .xltInvComplete => []
  | .migReqHbm _ => []
  | .migReqLpddr _ => []
  | .migrationLineMove _ => []
  | .sltBindDispatch _ _ _ _ _ _ => []
  | .sltBindRestore _ _ => []
  | .qpoolLim _ _ _ => []
  | .fsplit _ => []
  | .frBase _ => []
  | .frSize _ => []
  | .frAckVerdict0 _ => []
  | .frAckVerdict1 _ => []
  | .dlogTrim _ => []
  | .dlogCtl _ => []
  | .compactionComplete _ => []
  | .hbmPwrcfg _ => []
  | .pwrCtl _ => []
  | .registerWrite _ _ => []
  | .powerMeasurement _ _ _ => []
  | .powerDownEntry _ => []
  | .selfRefreshEntry _ => []
  | .pseudoChannelWake _ => []
  | .pseudoChannelExitComplete _ => []
  | .jobAccept _ => []
  | .nodeStart _ _ => []
  | .waitNodePoll _ _ => []
  | .nodeFinish _ _ => []
  | .packageReset => []
  | .linkTrainingTimeout _ => []
  | .linkAuthentication _ _ _ => []
  | .surveyMessage _ _ => []
  | .surveyCollect => []
  | .podSurvey _ _ => []
  | .linkLoss _ => []
  | .vexlisDataFlit _ _ _ _ _ => []
  | .vexlisAckFlit _ _ => []
  | .vexlisReplayRequest _ _ => []
  | .vexlisKeyRetire _ _ _ => []
  | .vexlisIdleFlit _ _ => []
  | .keyRollover _ => []
  | .wavelengthLockLoss _ _ => []
  | .wavelengthRetry _ _ _ => []
  | .hostAtomicop _ _ _ _ _ => []
  | .hostBar2Write _ _ => []
  | .singleBitError _ _ _ => []
  | .doubleBitError _ _ _ _ => []
  | .hbmRowSparing _ _ => []
  | .carrierPowerLoss => []
  | .packageRemoval _ => []
  | .storeAcknowledged _ _ => []
  | .dreadStart _ => []
  | .frHead _ => []
  | .recoveryImageLoad _ => []

/-! ### Pipes (R51, R54) -/

/-- The pipes of both streams. -/
inductive Pipe where
  | s | v | x | m | h | l | e
  deriving DecidableEq, Repr

/-- The pipe of a major opcode in a stream; none where it has none. -/
def pipeOf (lead : Bool) (major : Nat) : Option Pipe :=
  if 1 ≤ major ∧ major ≤ 6 then some (if lead then .h else .s)
  else if major = 7 ∨ major = 0x16 ∨ major = 0x17 then some (if lead then .l else .m)
  else if lead then (if major = 0x18 then some .e else none)
  else if 8 ≤ major ∧ major ≤ 0xD then some .v
  else if 0xE ≤ major ∧ major ≤ 0x10 then some .x
  else if 0x11 ≤ major ∧ major ≤ 0x15 then some .m
  else none

/-- The major opcode of a word. -/
def majorOf (w : Word) : Nat := w.toNat / 2 ^ 26 % 32

/-- A control-transfer word: the branch major, EXIT, RETT (R43). -/
def isControl (w : Word) : Bool := majorOf w == 2 || (majorOf w == 1 && (w.toNat / 2 ^ 20 % 64 == 1 || w.toNat / 2 ^ 20 % 64 == 7))

/-- The destinations that the fields of a word name whose sub-opcode is assigned, although check 2 of R72 will refuse a field: check 1 comes before it
(assumption 82). -/
def fieldDests (lead : Bool) (w : BitVec 31) : List Nat :=
  let f := Decoding.fld w
  let op := (f 21 5).toNat
  let d := f 14 7
  match (f 26 5).toNat with
  | 0x02 => if f 22 4 = 7 then [regS (f 16 6)] else []
  | 0x03 => if 0x16 ≤ (f 20 6).toNat then [regM (f 14 6)] else [regS (f 14 6)]
  | 0x04 => [regS (f 16 6)]
  | 0x05 => [regS (f 19 6)]
  | 0x06 => if f 24 2 = 0 then dests lead (.srd (f 18 6) (f 0 8)) else []
  | 0x08 => [regV d]
  | 0x09 => [regV d]
  | 0x0A => [regV d, regV d + 1]
  | 0x0B => [regV d]
  | 0x0C => [regM (f 15 4)]
  | 0x0D => [regV (f 19 7)]
  | 0x0E => match op with
    | 0 => dests lead (.vcvt d (f 7 7) (f 0 7))
    | 3 => dests lead (.retag d (f 7 7) (f 0 4))
    | 4 => dests lead (.vmovs d (f 7 6) (f 0 4))
    | _ => [regV d]
  | 0x0F => [regV d]
  | 0x10 => if 5 ≤ op ∧ op ≤ 7 then [regS d] else if op = 8 then dests lead (.redl d (f 7 7) (f 0 7)) else [regV d]
  | 0x11 => dests lead (.vld (f 21 4) d (f 7 7) (f 1 6) (f 0 1))
  | 0x13 => if f 25 1 = 0 then dests lead (.vlds (f 21 4) d (f 7 7) (f 1 6) (f 0 1)) else []
  | 0x14 => match op with
    | 0 => [regV d]
    | 2 => dests lead (.vldtB8 d (f 7 7))
    | 3 => dests lead (.vldtB16 d (f 7 7))
    | 4 => dests lead (.vldtB32 d (f 7 7))
    | _ => []
  | 0x15 => if f 23 3 = 7 then dests lead (.atomCas (f 21 2) (f 18 3) (f 11 7) (f 4 7) (f 2 2))
    else dests lead (.atomAdd (f 21 2) (f 18 3) (f 11 7) (f 4 7) (f 2 2))
  | 0x16 => if f 22 4 = 2 then [regS (f 16 6)] else []
  | 0x17 => if f 22 4 = 0 ∨ f 22 4 = 3 then [] else [regS (f 16 6)]
  | 0x18 => if op = 1 then [shadowReg] else if op = 3 ∨ op = 4 then [regT (f 4 2)] else []
  | _ => []

/-- What a word of a chain writes; nothing when its major or sub-opcode is unassigned. -/
def wordDests (lead : Bool) (w : Word) : List Nat := match decodeWord w with
  | .ok i => dests lead i
  | .error .unassignedMajor => []
  | .error .unassignedOp => []
  | .error _ => fieldDests lead (w.extractLsb' 0 31)

/-- Two words may stand in one chain: different pipes, no shared destination. -/
def pairLegal (lead : Bool) (a b : Word) : Bool :=
  (match pipeOf lead (majorOf a), pipeOf lead (majorOf b) with
    | some p, some q => p != q
    | _, _ => true) && (wordDests lead a).all fun r => !(wordDests lead b).contains r

/-- A chain is legal (R47): it ends in its packet, and its words agree with each other. -/
def chainLegal (lead : Bool) : List Word → Bool
  | [] => true
  | [w] => !chainBit w
  | w :: t => !isControl w && t.all (pairLegal lead w) && chainLegal lead t

/-- A word that raises the scratchpad counter (R27). -/
def countsSp : Instr → Bool
  | .vlds _ _ _ _ _ => true
  | .vldtB8 _ _ => true
  | .vldtB16 _ _ => true
  | .vldtB32 _ _ => true
  | .sldsB64 _ _ _ => true
  | .shflIdx _ _ _ => true
  | .shflUp _ _ _ => true
  | .shflDn _ _ _ => true
  | .shflXor _ _ _ => true
  | .shflBc _ _ _ => true
  | .redl _ _ _ => true
  | i => match i with
    | .atomAdd _ _ _ _ sp => sp == 1
    | .atomMin _ _ _ _ sp => sp == 1
    | .atomMax _ _ _ _ sp => sp == 1
    | .atomAnd _ _ _ _ sp => sp == 1
    | .atomOr _ _ _ _ sp => sp == 1
    | .atomXor _ _ _ _ sp => sp == 1
    | .atomXchg _ _ _ _ sp => sp == 1
    | .atomCas _ _ _ _ sp => sp == 1
    | _ => false

end Sys2Proof.Machine
end

