-- ==== Sys2Proof/Machine/Fetch.lean ====
section
/-! DEFINITION. Instruction fetch (R41, R45), trailing NOPs (R44), the words of a chain (R46). -/

namespace Sys2Proof.Machine

/-- What fetching a word answers; `touch`: not yet, a first-touch entry or a held sector (R309, R342). -/
inductive Fetched where
  | word (w : Word)
  | touch
  | fault (c : TrapCode)
  deriving DecidableEq, Repr

/-- The code base a stream fetches from: the trap entry's is `tbase` (R313). -/
def State.codeBase (s : State) : DWord :=
  match s.cur.stream, s.here with
  | .split _ _ 4, _ => s.ctx.tbase
  | _, some (_, x) => x.kte.cbase
  | _, none => 0

/-- The address of word `k` of packet `ip` (R41). -/
def wordAddr (base : DWord) (ip : Word) (k : Nat) : DWord := base + BitVec.ofNat 64 (12 * ip.toNat + 4 * k)

/-- Fetches the word at `a` for unit `u`. -/
def State.fetch (s : State) (u : Nat) (a : DWord) : Fetched :=
  if s.inPeerRegion a then .fault .protection
  else match s.laneXlate u a with
    | .invalid => .fault .translation
    | .touch _ => .touch
    | .leaf e =>
      if pteS e || !pteX e then .fault .protection
      else
        let pa := s.phys e a
        if pteKind e != 0 then
          if s.linkPoisoned pa then .fault .poisonedData else .word (BitVec.ofNat 32 (s.hostMem.readNat pa 4))
        else if !s.backed pa then .fault .protection
        else if s.held (sectorOf pa) then .touch
        else if s.poisoned pa then .fault .poisonedData
        else .word (BitVec.ofNat 32 (s.mem.readNat pa 4))

/-- NOP as a word (R44). -/
def nopWord : Word := 0x04000000

/-- The word at `a` is NOP. -/
def State.isNop (s : State) (u : Nat) (a : DWord) : Bool := s.fetch u a == .word nopWord

/-- The place after word `k` of packet `ip`: trailing NOPs are passed over (R42, R44). -/
def State.placeAfter (s : State) (u : Nat) (base : DWord) (ip : Word) (k : Nat) : Word × Nat :=
  if (List.range 3).all fun j => decide (j ≤ k) || s.isNop u (wordAddr base ip j) then (ip + 1, 0) else (ip, k + 1)

/-- The words of the chain that starts at word `k` (R46), with their indices: at most to the end of the packet. -/
def State.chainAt (s : State) (u : Nat) (base : DWord) (ip : Word) : Nat → Nat → List (Nat × Fetched)
  | 0, _ => []
  | fuel + 1, k =>
    if 3 ≤ k then []
    else
      let f := s.fetch u (wordAddr base ip k)
      match f with
      | .word w => if chainBit w then (k, f) :: s.chainAt u base ip fuel (k + 1) else [(k, f)]
      | _ => [(k, f)]

/-- The place after the chain that starts at a place. -/
def State.afterChain (s : State) (u : Nat) (base : DWord) (ip : Word) (wd : Nat) : Word × Nat :=
  match (s.chainAt u base ip 3 wd).getLast? with
  | some p => s.placeAfter u base ip p.1
  | none => (ip + 1, 0)

end Sys2Proof.Machine
end

