-- ==== Sys2Proof/Machine/Pool.lean ====
section
/-! DEFINITION. What a core shares among its resident units: the queue pool (R292, R296), gang contexts and register rows (R16), and the creation of a gang (R21, R141). -/

namespace Sys2Proof.Machine

/-! ### The queue pool -/

/-- Entries of 16 bytes the elements of an operand queue take: four elements each (R292). -/
def OpQueue.entries (q : OpQueue) : Nat := (q.elems.length + 3) / 4

/-- The engine of a command. -/
def CmdOp.engine : CmdOp → Engine
  | .strm => .stream
  | .nmc => .near
  | .dread => .deep
  | .dappend => .deep
  | _ => .tile

/-- Entries an engine's command queue holds: four for each command accepted and not started (R206, R296). -/
def Unit.cmdEntries (x : Unit) (e : Engine) : Nat :=
  4 * (x.cmds.filter fun c => c.op.engine == e && c.state == .queued).length

/-- Entries the operand queues of gang `g` hold. -/
def Unit.opqEntries (x : Unit) (g : Nat) : Nat :=
  ((x.opq.filter fun p => p.1 / 16 == g).map fun p => p.2.entries).foldl (· + ·) 0

/-- The reserved groups of a unit: entries held and minimum of each (R292, R296). A gang numbered at or above `glimit`, which lives while one that has ended keeps its
number, has no minimum: DESIGN CHOICE (assumption 115). -/
def Unit.groups (x : Unit) : List (Nat × Nat) :=
  (x.dq.length, x.qlim.decision.min) ::
    ((List.range 16).map fun p => ((mget [] x.ports p).length, x.qlim.port.min)) ++
    ([Engine.tile, .stream, .near, .deep].map fun e => (x.cmdEntries e, x.qlim.engine.min)) ++
    ((List.range 32).map fun g => (x.opqEntries g, if g < x.bind.glimit then x.qlim.operand.min else 0))

/-- Entries a unit reserves (R296). -/
def Qlim.reserved (q : Qlim) (glimit : Nat) : Nat := q.decision.min + 16 * q.port.min + 4 * q.engine.min + glimit * q.operand.min

/-- Entries a unit takes from the pool: its reservation and what its queues hold above their minimums. -/
def Unit.poolUse (x : Unit) : Nat :=
  x.qlim.reserved x.bind.glimit + (x.groups.map fun p => p.1 - p.2).foldl (· + ·) 0

/-- The resident units of a core. -/
def State.unitsOf (s : State) (c : Nat) : List (Nat × Unit) := s.units.filter fun p => coreOf p.1 == c

/-- Free unreserved entries of a core (R296, R297). -/
def State.poolFree (s : State) (c : Nat) : Nat :=
  Config.poolEntries - ((s.unitsOf c).map fun p => p.2.poolUse).foldl (· + ·) 0

/-- Whether a queue of `len` entries in a group of `used` takes `n` more (R296). -/
def State.queueRoom (s : State) (c len used n : Nat) (l : Limit) : Bool :=
  decide (len + n ≤ l.cap) && decide ((used + n - l.min) - (used - l.min) ≤ s.poolFree c)

/-! ### Gang contexts and register rows (R16) -/

/-- Words per slice-lane taken in slice `k` of a core. -/
def State.rowsUsed (s : State) (c k : Nat) : Nat :=
  ((s.unitsOf c).map fun p => p.2.kte.vregs * (p.2.gangs.filter fun g => g.2.slices.contains k).length).foldl (· + ·) 0

/-- Gang contexts in use on a core; a gang that has ended keeps its own until it is freed (R143). -/
def State.contextsUsed (s : State) (c : Nat) : Nat := ((s.unitsOf c).map fun p => p.2.gangs.length).foldl (· + ·) 0

/-- Slices of one column with rows for a gang of `g` slices declaring `vregs`: the lowest of the first column that has them (assumption 25). -/
def State.findSlices (s : State) (c vregs g : Nat) : Option (List Nat) :=
  ((List.range 8).map fun col =>
    (((List.range 8).map (8 * col + ·)).filter fun k => decide (s.rowsUsed c k + vregs ≤ 512)).take g).find? fun l => l.length == g

/-- Where a gang of unit `u` would stand, if a context and rows are free. -/
def State.gangSlices (s : State) (u vregs width : Nat) : Option (List Nat) :=
  let c := coreOf u
  if s.contextsUsed c < Config.gangContexts then s.findSlices c vregs (width / 8) else none

/-- A gang as R21 creates it. -/
def newGang (width : Nat) (slices : List Nat) (args : List DWord) (ip : Word) : Gang :=
  { width := width
    slices := slices
    regs := { s := (args.mapIdx fun k x => (k, x)).foldl (fun m p => mset 0 m p.1 p.2) [] }
    split := [(0, { mask := widthMask width, ip := ip, state := .ready })] }

/-- The lowest gang number no gang of the unit holds. -/
def Unit.freeGang (x : Unit) : Option Nat := (List.range 32).find? fun g => (mfind x.gangs g).isNone

/-- Creates a gang in unit `u`, or answers that it cannot (R141). -/
def State.spawn (s : State) (u width : Nat) (args : List DWord) (ip : Word) : Option (Nat × State) :=
  match s.unit? u with
  | none => none
  | some x =>
    if x.bind.glimit ≤ x.ngang then none
    else match x.freeGang, s.gangSlices u x.kte.vregs width with
      | some g, some sl => some (g, s.modUnit u fun x => { x with gangs := mput x.gangs g (newGang width sl args ip) })
      | _, _ => none

end Sys2Proof.Machine
end

