-- ==== Sys2Proof/Machine/Control.lean ====
section
/-! DEFINITION. Control words (R44, R135 to R149, R203, R232, R233): NOP, EXIT, barriers, WAIT, TRAP, BKPT, RETT, the branches, SPAWN. -/

namespace Sys2Proof.Machine

/-! ### NOP and EXIT -/

/-- NOP (R44). -/
def execNop (s : State) : Host.Outcome State Fault Refusal := s.issue .ok fun _ t => t

/-- A gang ends when no entry and no element of the spill stack holds a lane (R143). -/
def Gang.checkEnd (g : Gang) : Gang :=
  { g with ended := g.ended || ([0, 1, 2, 3, 4].all g.isFree && g.spill.isEmpty) }

/-- The lanes `mk` of entry `e` end: the results of their outstanding loads are discarded (R143). -/
def Gang.dropLanes (g : Gang) (e : Nat) (mk : DWord) : Gang :=
  let g := g.modEntry e fun p => { p with mask := p.mask &&& ~~~mk }
  let h : Gang := { g with
    ops := g.ops.map fun o => { o with mask := o.mask &&& ~~~mk }
    late := g.late.filter fun f => !mk.getLsbD f.lane }
  h.checkEnd

/-- A lead EXIT: the lead stops, the results of its outstanding loads are discarded (R144). -/
def Lead.exit (l : Lead) : Lead := { l with state := .stopped, late := none, ops := l.ops.map fun o => { o with mask := 0 } }

/-- When a gang ends, its operand queues are emptied (R339). -/
def Unit.emptyQueues (x : Unit) (g : Nat) : Unit :=
  match mfind x.gangs g with
  | some y => if y.ended then { x with opq := x.opq.filter fun p => p.1 / 16 != g } else x
  | none => x

/-- EXIT (R143, R144). -/
def execExit (s : State) : Host.Outcome State Fault Refusal :=
  s.issueTo .ok fun mk t =>
    match t.cur.stream with
    | .split u g e => (t.modGang u g (·.dropLanes e mk)).modUnit u (·.emptyQueues g)
    | .lead u => t.advance.modLead u (·.exit)
    | .nobody => t

/-! ### Barriers (R146, R147) -/

/-- The entry of the word. -/
def State.hereEntry (s : State) : Split :=
  match s.cur.stream, s.hereGang with
  | .split _ _ e, some g => g.entry e
  | _, _ => {}

/-- Updates the entry of the word. -/
def State.modEntryHere (s : State) (f : Split → Split) : State :=
  match s.cur.stream with
  | .split u g e => s.modGang u g (·.modEntry e f)
  | _ => s

/-- A barrier word: the split waits at it until the barrier has completed. -/
def State.barrier (s : State) (b : Barrier) : Host.Outcome State Fault Refusal :=
  s.issue ((s.gangWord [] []).andThen (s.notTrapEntry.andThen (need (s.hereEntry.bar == .passed) .wait))) (fun _ t => t)
    fun t => t.modEntryHere fun p => { p with bar := b }

/-- GBAR (R146). -/
def execGbar (s : State) : Host.Outcome State Fault Refusal := s.barrier (.gang s.cur.nip s.cur.nwd s.cur.chained)

/-- UBAR (R147). -/
def execUbar (s : State) : Host.Outcome State Fault Refusal := s.barrier (.unit s.cur.nip s.cur.nwd s.cur.chained)

/-! ### WAIT, TRAP, BKPT, RETT -/

/-- WAIT: the counters of the stream are at or below the limits (R203). -/
def execWait (vm sp : BitVec 6) (s : State) : Host.Outcome State Fault Refusal :=
  s.issue (match s.cur.stream, s.here, s.hereGang with
    | .split _ _ _, _, some g =>
      need (decide (g.vmcnt s.hereEntry ≤ vm.toNat) && decide (g.spcnt s.hereEntry ≤ sp.toNat)) .wait
    | .lead _, some (_, x), _ => (need (sp == 0) s.undefined).andThen (need (decide (x.lead.lmcnt ≤ vm.toNat)) .wait)
    | _, _, _ => .ok) fun _ t => t

/-- A trap a word takes as its effect, after every word of its chain, with the chain's first word in `tip` (R232). -/
def State.trapWord (s : State) (code : TrapCode) (val : BitVec 16) : Host.Outcome State Fault Refusal :=
  let busy := match s.cur.stream, s.hereGang with
    | .split _ _ e, some g => e != 4 && !g.trapFree
    | _, _ => false
  s.issueTo (need (!busy) .wait) fun mk t =>
    let t := match t.cur.stream with
      | .lead u => t.modLead u fun l => { l with lip := t.cur.ip, lwd := t.cur.wd }
      | _ => t
    let t : State := { t with cur := { t.cur with mask := mk } }
    t.takeTrap ((match t.cur.stream with
        | .lead _ => [0]
        | _ => lanesOf mk).map fun l => ⟨l, code, val.setWidth 64⟩)

/-- TRAP (R232). -/
def execTrap (code : BitVec 16) (s : State) : Host.Outcome State Fault Refusal := s.trapWord .softwareTrap code

/-- BKPT: no effect unless the context descriptor enables debugging (R232). -/
def execBkpt (tag : BitVec 16) (s : State) : Host.Outcome State Fault Refusal :=
  if s.ctx.dbg then s.trapWord .breakpoint tag else s.issue .ok fun _ t => t

/-- Entries a split may be placed in: free at the start of the cycle and not taken since (R138). -/
def Gang.usable (g : Gang) : List Nat := (g.freeAt.getD [0, 1, 2, 3]).filter g.isFree

/-- Where the lanes of the trap entry return to (R233). -/
def State.returnPlace (s : State) (u : Nat) (x : Unit) (g : Gang) : Word × Nat :=
  if g.tcode == 16 || g.tcode == 15 then s.afterChain u x.kte.cbase g.tip g.twd else (g.tip, g.twd)

/-- The trap entry's lanes return to place `p`, or to the spill stack (R233). -/
def Gang.leaveTrap (g : Gang) (p : Word × Nat) : Gang :=
  let t := g.entry 4
  let back : Split :=
    { mask := t.mask, ip := p.1, wd := p.2, state := .ready, vm := g.gvm, sp := g.gsp, fpctl := t.fpctl, fpflags := t.fpflags }
  let h : Gang := { g.setEntry 4 {} with tcode := 0, tip := 0, twd := 0, tmask := 0 }
  match g.spill, g.usable with
  | [], e :: _ => h.setEntry e back
  | _, _ => { h with spill := ⟨t.mask, p.1, t.fpctl, t.fpflags⟩ :: h.spill }

/-- RETT (R233). -/
def execRett (s : State) : Host.Outcome State Fault Refusal :=
  match s.cur.stream, s.here, s.hereGang with
  | .split u k _, some (_, x), some g =>
    let p := s.returnPlace u x g
    let place := (g.spill.isEmpty && !g.usable.isEmpty) || (p.2 == 0 && decide (g.spill.length < Config.spillDepth))
    s.issueTo (s.needPrivilege.andThen (need place .wait)) fun _ t => t.modGang u k (·.leaveTrap p)
  | _, _, _ => s.issueTo (s.gangWord [] []) fun _ t => t

/-! ### Uniform branches (R135) -/

/-- The stream goes to word 0 of packet `ip` when the word has issued. -/
def State.jump (s : State) (ip : Word) : State := { s with cur := { s.cur with nip := ip, nwd := 0 } }

/-- BR (R135). -/
def execBr (disp : BitVec 16) (s : State) : Host.Outcome State Fault Refusal :=
  s.issue .ok fun _ t => t.jump (target s.cur.ip disp)

/-- BR.Z (R135). -/
def execBrZ (c : BitVec 6) (disp : BitVec 16) (s : State) : Host.Outcome State Fault Refusal :=
  s.issue (s.scalarWord [c.toNat]) fun _ t => if s.X c.toNat = 0 then t.jump (target s.cur.ip disp) else t

/-- BR.NZ (R135). -/
def execBrNz (c : BitVec 6) (disp : BitVec 16) (s : State) : Host.Outcome State Fault Refusal :=
  s.issue (s.scalarWord [c.toNat]) fun _ t => if s.X c.toNat = 0 then t else t.jump (target s.cur.ip disp)

/-- CALL (R135): the link receives IP + 1. -/
def execCall (link : BitVec 6) (disp : BitVec 16) (s : State) : Host.Outcome State Fault Refusal :=
  s.issue (s.scalarWord [link.toNat]) fun _ t =>
    (t.setX link.toNat ((s.cur.ip + 1).setWidth 64)).jump (target s.cur.ip disp)

/-- RET (R135). -/
def execRet (link : BitVec 6) (s : State) : Host.Outcome State Fault Refusal :=
  s.issue (s.scalarWord [link.toNat]) fun _ t => t.jump ((s.X link.toNat).setWidth 32)

/-! ### The divergent branch (R137) -/

/-- How a divergent branch acts on its gang: lanes `tk` of entry `e` go to `tgt`. `tail`: the words after it in its packet are all NOP. -/
inductive Divergence where
  | fall
  | jump
  | divide (e : Nat)
  | pushFall
  | pushTaken
  | overflow
  deriving DecidableEq, Repr

/-- R137. -/
def Gang.divergence (g : Gang) (tk ft : DWord) (tail : Bool) : Divergence :=
  if tk = 0 then .fall
  else if ft = 0 then .jump
  else match g.usable with
    | e :: _ => .divide e
    | [] =>
      if Config.spillDepth ≤ g.spill.length then .overflow
      else if tail then .pushFall
      else .pushTaken

/-- BRD and BRD.N: `tk` are the lanes taken. -/
def State.diverge (s : State) (tk : DWord) (disp : BitVec 16) : Host.Outcome State Fault Refusal :=
  let tgt := target s.cur.ip disp
  let ft := s.cur.mask &&& ~~~tk
  match s.cur.stream, s.hereGang with
  | .split _ _ e, some g =>
    let act := fun (t : State) => match t.hereGang with
      | some x => x.divergence tk ft (s.cur.nwd == 0)
      | none => .fall
    s.issue ((s.gangWord [] []).andThen (s.notTrapEntry.andThen
        (need (g.divergence tk ft (s.cur.nwd == 0) != .overflow) (.trap (s.allLanes .divergenceOverflow))))) fun _ t =>
      match act t with
      | .fall => t
      | .jump => t.jump tgt
      | .divide k => t.modHere fun x =>
          let p := x.entry e
          (x.setEntry k { p.awake with mask := tk, ip := tgt, wd := 0, idle := 0, raised := false }).setEntry e { p with mask := ft }
      | .pushFall =>
        (t.modHere fun x =>
          let p := x.entry e
          { x.setEntry e { p with mask := tk } with spill := ⟨ft, s.cur.ip + 1, p.fpctl, p.fpflags⟩ :: x.spill }).jump tgt
      | .pushTaken => t.modHere fun x =>
          let p := x.entry e
          { x.setEntry e { p with mask := ft } with spill := ⟨tk, tgt, p.fpctl, p.fpflags⟩ :: x.spill }
      | .overflow => t
  | _, _ => s.issue (s.gangWord [] []) fun _ t => t

/-- The value of a mask register for the word's gang. -/
def State.maskReg (s : State) (m : BitVec 4) : DWord := match s.hereGang with
  | some g => g.M m.toNat
  | none => 0

/-- BRD (R137). -/
def execBrd (m : BitVec 4) (disp : BitVec 16) (s : State) : Host.Outcome State Fault Refusal :=
  s.diverge (s.cur.mask &&& s.maskReg m) disp

/-- BRD.N (R137). -/
def execBrdN (m : BitVec 4) (disp : BitVec 16) (s : State) : Host.Outcome State Fault Refusal :=
  s.diverge (s.cur.mask &&& ~~~s.maskReg m) disp

/-! ### SPAWN (R141, R142) -/

/-- Encodes the dirty blocks of the stream's core while a release waits (R195, R389). -/
def State.startRelease (s : State) : State :=
  match s.here with
  | some (u, _) => s.encodeDirty (coreOf u)
  | none => s

/-- A release word of scope `lvl` waits for the conditions of FENCE.REL (R389). -/
def State.release (s : State) (lvl : Nat) : Verdict := s.released lvl

/-- SPAWN (R141). -/
def execSpawn (c : BitVec 6) (disp : BitVec 16) (s : State) : Host.Outcome State Fault Refusal :=
  let regs := (List.range 8).map (c.toNat + ·)
  match s.cur.stream, s.hereGang with
  | .split u _ _, some g =>
    s.issue ((s.gangWord [] regs).andThen (s.notTrapEntry.andThen (s.release 1)))
      (fun _ t =>
        let t := match t.spawn u g.width (regs.map g.S) (target s.cur.ip disp) with
          | some r => r.2.setX c.toNat (BitVec.ofNat 64 r.1)
          | none => t.setX c.toNat (-1)
        t.jump (s.cur.ip + 1))
      (·.startRelease)
  | _, _ => s.issue (s.gangWord [] []) fun _ t => t

end Sys2Proof.Machine
end

