-- ==== Sys2Proof/Machine/Sync.lean ====
section
/-! DEFINITION. Fences (R195), what a cross-path fence waits for (R197, R267), the level chart (R199, R262 to R264), barrier objects (R200 to R202). -/

namespace Sys2Proof.Machine

/-- The core of the stream. -/
def State.hereCore (s : State) : Nat := match s.here with
  | some (u, _) => coreOf u
  | none => 0

/-- FENCE.ACQ (R195). -/
def execFenceAcq (lvl : BitVec 3) (s : State) : Host.Outcome State Fault Refusal :=
  s.issue (need s.loadsReturned .wait) fun _ t => t.acquireHere s.hereCore (s.promoteFrom lvl.toNat)

/-- FENCE.REL (R195, R259). -/
def execFenceRel (lvl : BitVec 3) (s : State) : Host.Outcome State Fault Refusal :=
  let l := s.promoteFrom lvl.toNat
  s.issue (s.released l) (fun _ t => t.relDrop s.hereCore l) fun t => if l = 0 then t else t.startRelease

/-- FENCE.AR (R195). -/
def execFenceAr (lvl : BitVec 3) (s : State) : Host.Outcome State Fault Refusal :=
  let l := s.promoteFrom lvl.toNat
  s.issue (s.released l) (fun _ t => t.acquireHere s.hereCore l) fun t => if l = 0 then t else t.startRelease

/-- What XFENCE waits for on path `p` (R197): 0 lane, 1 tile, 2 stream, 3 near, 4 deep. Engine writes are performed when their command
completes, those to seam blocks through the dressing cache. For the lane path the loads of the stream are waited for too (assumption 26),
and every store that stands in the core's memory port, those of other streams of the core that happen before it among them (R267). -/
def State.pathDone (s : State) (p : Nat) : Bool :=
  match p with
  | 0 => s.loadsReturned && (s.core s.hereCore).port.isEmpty && (s.core s.hereCore).seamq.isEmpty && s.blocksWritten s.hereCore
  | 1 => s.blocksWritten s.hereCore
  | _ => true

/-! ### The level chart -/

/-- A row of the level chart (R262). -/
structure LevelRow where
  present : Nat := 1
  members : Nat
  typ : Nat
  worst : Nat
  site : Nat
  same : Nat
  deriving DecidableEq, Repr

/-- Active cores of a layer, as the survey found them (R264, R355). -/
def State.layerCores (s : State) (y : Nat) : Nat := (mget {} s.svy.dies y).ncore

/-- Members of the instance of a level that encloses layer `y`, as the survey found it: cores of a layer, layers of a chiplet, chiplets of a reticle field, fields of the
package (R199, R262, R264). -/
def State.membersAt (s : State) (lvl y : Nat) : Nat :=
  let chiplet := fun (k : Nat) => s.layerPresent (2 * k) || s.layerPresent (2 * k + 1)
  let field := fun (f : Nat) => [0, 1, 2, 3].any fun k => chiplet (4 * f + k)
  match lvl with
  | 2 => s.layerCores y
  | 3 => if s.oneLayer then s.layerCores y else ([2 * (y / 2), 2 * (y / 2) + 1].filter s.layerPresent).length
  | 4 => (([0, 1, 2, 3].map (4 * (y / 8) + ·)).filter chiplet).length
  | _ => ([0, 1].filter field).length

/-- Members of a level as the issuing core's layer `y` sees it; through BAR0 the smallest of any present layer of the presented device (R264; for the levels above
the layer assumption 100). -/
def State.members (s : State) (y : Option Nat) (lvl : Nat) : Nat := match y with
  | some y => s.membersAt lvl y
  | none => (((List.range s.layerCount).filter s.layerPresent).map (s.membersAt lvl)).min?.getD 0

/-- The chart of R263, and of R264 where the build has one logic layer per chiplet. -/
def State.buildRow (s : State) (y : Option Nat) (lvl : Nat) : LevelRow :=
  match lvl with
  | 0 => { members := 8, typ := 2, worst := 8, site := 1, same := 0 }
  | 1 => { members := 64, typ := 12, worst := 60, site := 1, same := 1 }
  | 2 =>
    if s.oneLayer then { present := 0, members := s.members y 2, typ := 210, worst := 980, site := 2, same := 3 }
    else { members := s.members y 2, typ := 96, worst := 420, site := 1, same := 2 }
  | 3 => { members := s.members y 3, typ := 210, worst := 980, site := 2, same := 3 }
  | 4 => { members := s.members y 4, typ := 340, worst := 1650, site := 2, same := 4 }
  | 5 => { members := s.members y 5, typ := 520, worst := 2700, site := 2, same := 5 }
  | _ => { members := s.pkgs - s.left.length, typ := 5800, worst := 96000, site := 3, same := 6 }

/-- A field of the chart as LVLQ and LVL_ROW give it: a level promoted to pod reports the pod's cost and site (R199, R262). -/
def State.levelField (s : State) (y : Option Nat) (lvl f : Nat) : Nat :=
  let eff := s.promoteFrom lvl
  let r := s.buildRow y lvl
  let c := if eff = 6 then s.buildRow y 6 else r
  match f with
  | 0 => r.present
  | 1 => r.members
  | 2 => c.typ
  | 3 => c.worst
  | 4 => c.site
  | 5 => r.same
  | _ => eff

/-- LVLQ (R199). -/
def execLvlq (d : BitVec 6) (lvl : BitVec 3) (f : BitVec 4) (s : State) : Host.Outcome State Fault Refusal :=
  s.issue (s.scalarWord [d.toNat]) fun _ t => t.setX d.toNat (BitVec.ofNat 64 (s.levelField (some (layerOf s.hereCore)) lvl.toNat f.toNat))

/-! ### Barrier objects -/

/-- A barrier object (R200); `rest`: the reserved bits, kept as written. -/
structure BarObj where
  rest : Nat
  phase : Nat
  aarr : Nat
  xarr : Nat
  abytes : Nat
  xbytes : Nat
  deriving DecidableEq, Repr

/-- The object of 16 bytes (R200). -/
def barObj (x : Nat) : BarObj :=
  { xbytes := x % 2 ^ 32, abytes := x / 2 ^ 32 % 2 ^ 32, xarr := x / 2 ^ 64 % 2 ^ 16, aarr := x / 2 ^ 80 % 2 ^ 16,
    phase := x / 2 ^ 96 % 2, rest := x / 2 ^ 97 % 2 ^ 31 }

/-- Its 16 bytes. -/
def BarObj.value (b : BarObj) : Nat :=
  b.xbytes + b.abytes * 2 ^ 32 + b.xarr * 2 ^ 64 + b.aarr * 2 ^ 80 + b.phase * 2 ^ 96 + b.rest * 2 ^ 97

/-- `Complete()` (R201). -/
def BarObj.complete (b : BarObj) : BarObj :=
  if b.xarr ≤ b.aarr ∧ b.xbytes ≤ b.abytes ∧ (b.aarr, b.abytes, b.xbytes) ≠ (0, 0, 0) then
    { b with phase := 1 - b.phase, aarr := 0, abytes := 0, xbytes := 0 }
  else b

/-- BOINIT on an object (R201). -/
def BarObj.init (b : BarObj) (v : DWord) : BarObj :=
  { b with xarr := v.toNat % 2 ^ 16, aarr := 0, xbytes := 0, abytes := 0, phase := 0 }

/-- BOEXPECT on an object (R201). -/
def BarObj.expect (b : BarObj) (v : DWord) : BarObj :=
  { b with xbytes := (b.xbytes + v.toNat % 2 ^ 32) % 2 ^ 32 }.complete

/-- BOARRIVE on an object (R201). -/
def BarObj.arrive (b : BarObj) (v : DWord) : BarObj :=
  { b with
    aarr := (b.aarr + v.toNat % 2 ^ 16) % 2 ^ 16
    abytes := (b.abytes + v.toNat / 2 ^ 16 % 2 ^ 32) % 2 ^ 32 }.complete

/-- An engine arrival of `n` bytes (R201). -/
def BarObj.deliver (b : BarObj) (n : Nat) : BarObj := { b with abytes := (b.abytes + n) % 2 ^ 32 }.complete

/-- Performs an operation on the object at an offset of a core's scratchpad (R201). -/
def State.onBarObj (s : State) (c off : Nat) (f : BarObj → BarObj) : State :=
  s.spadWrite c off 16 (f (barObj (s.spadRead c off 16))).value

/-- The checks of a barrier-object word (R178, R201): alignment to 16, the declared scratchpad, then damaged bytes (R318). -/
def State.objPlace (s : State) (obj : BitVec 6) : Option (Nat × Nat) × Verdict :=
  match s.here with
  | some (u, x) =>
    let a := s.X obj.toNat
    match State.spadPlace u x a 16 16 with
    | .at (.spad c off) _ =>
      if s.spadPoisoned c off 16 then (none, .trap (s.allLanes .poisonedData a)) else (some (c, off), .ok)
    | .fault code => (none, .trap (s.allLanes code a))
    | _ => (none, .ok)
  | none => (none, .ok)

/-- A barrier-object word that changes the object. -/
def State.objWord (s : State) (obj v : BitVec 6) (rel : Verdict) (f : BarObj → DWord → BarObj) : Host.Outcome State Fault Refusal :=
  let p := s.objPlace obj
  s.issue ((s.scalarWord [obj.toNat, v.toNat]).andThen (rel.andThen p.2))
    (fun _ t => match p.1 with
      | some (c, off) => t.onBarObj c off (f · (s.X v.toNat))
      | none => t)
    (·.startRelease)

/-- BOINIT (R201). -/
def execBoinit (obj v : BitVec 6) (s : State) : Host.Outcome State Fault Refusal := s.objWord obj v .ok BarObj.init

/-- BOEXPECT (R201). -/
def execBoexpect (obj v : BitVec 6) (s : State) : Host.Outcome State Fault Refusal := s.objWord obj v .ok BarObj.expect

/-- BOARRIVE: a release of core scope (R201, R202, R389). -/
def execBoarrive (obj v : BitVec 6) (s : State) : Host.Outcome State Fault Refusal := s.objWord obj v (s.release 1) BarObj.arrive

/-- The phase of an object as the operations of earlier cycles left it. -/
def State.phaseBefore (s : State) (c off : Nat) : Nat :=
  (mget 0 ((s.core c).spadSnap.getD (s.core c).spad) (off + 12)).toNat % 2

/-- BOWAIT: waits while the phase equals bit 0 of `v` (R201). -/
def execBowait (obj v : BitVec 6) (s : State) : Host.Outcome State Fault Refusal :=
  let p := s.objPlace obj
  s.issue ((s.scalarWord [obj.toNat, v.toNat]).andThen (p.2.andThen (match p.1 with
    | some (c, off) => need (s.phaseBefore c off != (s.X v.toNat).toNat % 2) .wait
    | none => .ok))) fun _ t => t

end Sys2Proof.Machine
end

