-- ==== Sys2Proof/Machine/Chan.lean ====
section
/-! DEFINITION. Channels (R149, R228 to R230): SEND, RECV, CHWP, DQPUSH, DQPOP. -/

namespace Sys2Proof.Machine

/-- A channel from 49 on traps as channel-unavailable (R70, R228). -/
def State.channelOk (s : State) (ch : BitVec 6) : Verdict :=
  need (decide (ch.toNat < 49)) (.trap (s.allLanes .channelUnavailable))

/-- Where a SEND on a port goes. -/
inductive SendTo where
  | noRoute
  | wait
  | discard
  | port (t p : Nat)
  deriving DecidableEq, Repr

/-- The routed unit of a port, if it is resident, off the core, or ended (R229, R291). -/
def State.sendTo (s : State) (u : Nat) (x : Unit) (p : Nat) : SendTo :=
  match mfind x.routes p with
  | none => .noRoute
  | some r =>
    let t := 4 * (layerOf (coreOf u) * Config.coresPerLayer + r.core) + r.slot
    match s.unit? t with
    | some y =>
      if y.launch == x.launch then
        let q := mget [] y.ports r.port
        if s.queueRoom (coreOf t) q.length q.length 1 y.qlim.port then .port t r.port else .wait
      else if s.hasEnded t x.launch then .discard else .wait
    | none => if s.hasEnded t x.launch then .discard else .wait

/-- SEND: a release of layer scope (R229, R389). -/
def execSend (a ch : BitVec 6) (s : State) : Host.Outcome State Fault Refusal :=
  match s.here with
  | some (u, x) =>
    let p := ch.toNat - 32
    let tgt := s.sendTo u x p
    s.issue ((s.scalarWord [a.toNat]).andThen ((s.channelOk ch).andThen
        ((need (tgt != .noRoute) (.trap (s.allLanes .channelUnavailable))).andThen
          ((s.release (s.promoteFrom 2)).andThen (need (tgt != .wait) .wait)))))
      (fun _ t => match t.sendTo u x p with
        | .port k q => t.modUnit k fun y => { y with ports := mset [] y.ports q (mget [] y.ports q ++ [s.X a.toNat]) }
        | _ => t)
      (·.startRelease)
  | none => s.issue s.undefined fun _ t => t

/-- RECV: an acquire of layer scope (R229). -/
def execRecv (d ch : BitVec 6) (s : State) : Host.Outcome State Fault Refusal :=
  match s.here with
  | some (u, x) =>
    let p := ch.toNat - 32
    s.issue ((s.scalarWord [d.toNat]).andThen ((s.channelOk ch).andThen ((need (mget [] x.ports p != []) .wait).andThen
        (need (!x.badFirst (1 + p) 1) (.trap (s.allLanes .poisonedData)))))) fun _ t =>
      match mget [] x.ports p with
      | v :: q => ((t.modUnit u fun y => { y.popBad (1 + p) 1 with ports := mset [] y.ports p q }).setX d.toNat v).acquireHere (coreOf u) (s.promoteFrom 2)
      | [] => t
  | none => s.issue s.undefined fun _ t => t

/-- A copy channel as CHWP reads it: pointer in bits 62 to 0, stopped in bit 63 (R220). -/
def Chan.value (c : Chan) : DWord := BitVec.ofNat 64 (c.ptr % 2 ^ 63 + if c.stopped then 2 ^ 63 else 0)

/-- CHWP (R228, R230). -/
def execChwp (d ch : BitVec 6) (s : State) : Host.Outcome State Fault Refusal :=
  let n := ch.toNat
  match s.cur.stream, s.here with
  | .split _ g _, some (_, x) =>
    let v := if n < 16 then (mget {} x.chans n).value
      else if n < 32 then BitVec.ofNat 64 (mget {} x.opq (opqKey g n)).elems.length
      else BitVec.ofNat 64 (mget [] x.ports (n - 32)).length
    s.issue ((s.scalarWord [d.toNat]).andThen (s.channelOk ch)) fun _ t => t.setX d.toNat v
  | _, some (_, x) =>
    let v := if n < 16 then (mget {} x.chans n).value else BitVec.ofNat 64 (mget [] x.ports (n - 32)).length
    s.issue ((need (decide (n < 16 ∨ 32 ≤ n)) s.undefined).andThen ((s.scalarWord [d.toNat]).andThen (s.channelOk ch)))
      fun _ t => t.setX d.toNat v
  | _, none => s.issue s.undefined fun _ t => t

/-- DQPUSH: a release of core scope (R149, R150, R389). -/
def execDqpush (a : BitVec 6) (s : State) : Host.Outcome State Fault Refusal :=
  match s.here with
  | some (u, x) =>
    s.issue ((s.leadWord [a.toNat]).andThen ((s.release 1).andThen
        (need (s.queueRoom (coreOf u) x.dq.length x.dq.length 1 x.qlim.decision) .wait)))
      (fun _ t => t.modUnit u fun y => { y with dq := y.dq ++ [s.X a.toNat] })
      (·.startRelease)
  | none => s.issue s.undefined fun _ t => t

/-- DQPOP: from a closed, empty queue the value of all ones (R149). -/
def execDqpop (d : BitVec 6) (s : State) : Host.Outcome State Fault Refusal :=
  match s.here with
  | some (u, x) =>
    s.issue ((s.gangWord [] [d.toNat]).andThen ((need (x.dq != [] || x.lead.state == .stopped) .wait).andThen
        (need (!x.badFirst 0 1) (.trap (s.allLanes .poisonedData))))) fun _ t =>
      match x.dq with
      | v :: q => (t.modUnit u fun y => { y.popBad 0 1 with dq := q }).setX d.toNat v
      | [] => t.setX d.toNat (-1)
  | none => s.issue s.undefined fun _ t => t

end Sys2Proof.Machine
end

