-- ==== Sys2Proof/Machine/Vexlis.lean ====
section
/-! DEFINITION. The sending side of Vexlis ports (R363 to R366): replay buffers, keys, and the flits that accesses to other packages send. -/

namespace Sys2Proof.Machine

/-- A port. -/
def State.port? (s : State) (p : Nat) : Vport := mget {} s.vxl p

/-- Replaces a port of the 24. -/
def State.setPort (s : State) (p : Nat) (v : Vport) : State := if p < 24 then { s with vxl := mset {} s.vxl p v } else s

/-- The port carries traffic. -/
def Vport.live (v : Vport) : Bool := v.state == .up || v.state == .rollover

/-- A port that has gone down: its retired wavelengths, its peer and its count of replays stay. -/
def Vport.downed (v : Vport) : Vport := { retired := v.retired, peer := v.peer, replays := v.replays }

/-- The key of a phase at the transmit side. -/
def Vport.key (v : Vport) (ph : Bool) : Bool := if ph then v.key1 else v.key0
/-- The key of a phase at the receive side. -/
def Vport.rxKey (v : Vport) (ph : Bool) : Bool := if ph then v.rx1 else v.rx0

/-- When no flit of the old phase is left in the replay buffer, the key-retire flit goes out under the next nonce count, and the old key with it (R364, R366). -/
def Vport.retire (v : Vport) : Vport :=
  if v.state == .rollover && v.buf.all fun f => f.ph == v.ph then
    { v with state := .up, ctr := v.ctr + 1, key0 := v.key0 && !v.ph, key1 := v.key1 && v.ph }
  else v

/-- The buffered flits before `ack` are released (R365). -/
def Vport.acked (v : Vport) (ack : Nat) : Vport := match v.buf with
  | [] => v
  | f :: _ =>
    let n := (ack + 4096 - f.seq) % 4096
    if n ≤ v.buf.length then ({ v with buf := v.buf.drop n } : Vport).retire else v

/-- A data flit is sent, with the receive credits not yet returned, and kept for replay (R364, R365, assumption 81); its key must be renewed before its count reaches 2^62 (R366). -/
def Vport.send (v : Vport) : Option Vport :=
  if v.live && decide (v.buf.length < Config.replayFlits) && decide (v.ctr + 1 < 2 ^ 62) then
    some { v with buf := v.buf ++ [⟨v.txSeq, v.ph, v.ctr, v.cred⟩], txSeq := (v.txSeq + 1) % 4096, ctr := v.ctr + 1, cred := 0 }
  else none

/-- The ports that carry traffic, in order. -/
def State.livePorts (s : State) : List Nat := (s.vxl.filter fun p => p.2.live).map (·.1)

/-- The drift-table entry of a die for a destination: a die, or 32 + a package (R362). -/
def State.driftAt (s : State) (die dest : Nat) : Drift := mget {} s.drift (512 * die + dest)

/-- The other end of an on-package link. -/
def farEnd (k d : Nat) : Option Nat := match Config.links[k]? with
  | some (a, b) => if a = d then some b else if b = d then some a else none
  | none => none

/-- The port by which traffic from a die leaves for a package, along the primary links of the tables (R362). -/
def State.routeFrom (s : State) (pkg : Nat) : Nat → Nat → Option Nat
  | 0, _ => none
  | n + 1, d => match (s.driftAt d (32 + pkg)).primary with
    | none => none
    | some k =>
      if Config.links.length ≤ k then some (k - Config.links.length)
      else match farEnd k d with
        | some e => s.routeFrom pkg n e
        | none => none

/-- The port of an access from layer `y` to a package: that of the drift tables; for a package that is no neighbour of a port, one of those that are up
(R362, R363, assumption 32). -/
def State.portFor (s : State) (y pkg : Nat) : Option Nat := match s.routeFrom pkg 29 y with
  | some p => some p
  | none => s.livePorts[Config.portTo pkg s.livePorts.length % s.livePorts.length]?

/-- The port as it is when it has sent the flit of an access; none where it cannot take one now (R365). -/
def State.nextFlit (s : State) (y pkg : Nat) : Option (Nat × Vport) := match s.portFor y pkg with
  | none => none
  | some p => (s.port? p).send.map fun v => (p, v)

/-- An access to another package leaves in a data flit; while no port is up, or the replay buffer is full, it waits (R363, R365). -/
def State.canSend (s : State) (y pa : Nat) : Bool := paPackage pa == Config.package || (s.nextFlit y (paPackage pa)).isSome

/-- The flit of an access from layer `y`. -/
def State.sendFlit (s : State) (y pa : Nat) : State :=
  if paPackage pa = Config.package then s
  else match s.nextFlit y (paPackage pa) with
    | some (p, v) => s.setPort p v
    | none => s

/-- The flit of an access at a place. -/
def State.flitFor (s : State) (y : Nat) : Loc → State
  | .dev pa => s.sendFlit y pa
  | _ => s

/-- The access at a place may leave the package. -/
def State.flitRoom (s : State) (y : Nat) : Loc → Bool
  | .dev pa => s.canSend y pa
  | _ => true

end Sys2Proof.Machine
end

