-- ==== Sys2Proof/Machine/EngOps.lean ====
section
/-! DEFINITION. What the engines share: tensor records (R210, R211), their accesses (R206, R209, R306, R334), copy channels (R220), arrivals (R201, R208). -/

namespace Sys2Proof.Machine

/-! ### Tensor records -/

/-- Signed stride of dimension `i`, 1 to 4. -/
def recStr (r : Nat) (i : Nat) : Int := (BitVec.ofNat 64 (recField r (256 + 64 * (i - 1)) 64)).toInt
/-- `ndim`. -/
def recNdim (r : Nat) : Nat := recField r 77 3
/-- `seam`. -/
def recSeam (r : Nat) : Bool := recField r 76 1 == 1
/-- `space`. -/
def recSpace (r : Nat) : Nat := recField r 74 2
/-- `cls`. -/
def recCls (r : Nat) : Nat := recField r 67 1
/-- `code`. -/
def recCode (r : Nat) : Nat := recField r 64 3
/-- `base`. -/
def recBase (r : Nat) : Nat := recField r 0 64

/-- Element size in half bytes (R211): I4 formats take one. -/
def recNibbles (r : Nat) : Nat :=
  if recCls r = 0 then (if recCode r = 2 ∨ recCode r = 3 then 1 else 2) else 2 * 2 ^ recCode r

/-- Element size in bytes, 1 for I4. -/
def recSize (r : Nat) : Nat := max 1 (recNibbles r / 2)

/-- A record in error (R211). -/
def recErr (r : Nat) : Bool :=
  recField r 128 128 != 0 || recField r 80 8 != 0 || recField r 68 6 != 0 ||
    decide (2 ≤ recSpace r) || decide ((if recCls r = 0 then 5 else 4) ≤ recCode r) ||
    recNdim r == 0 || decide (5 < recNdim r) ||
    ((List.range 5).any fun i => decide (recNdim r ≤ i) && recBox r i != 0) ||
    (recSeam r && !(recCls r == 1 && recCode r == 2 && recSpace r == 0)) ||
    recBase r % recSize r != 0 || ([1, 2, 3, 4].any fun i => recStr r i % (recSize r : Int) != 0)

/-- Coordinates of element `e` in element order (R219). -/
def recCoord (r e : Nat) : List Nat :=
  let b := fun i => recBox r i + 1
  [e % b 0, e / b 0 % b 1, e / (b 0 * b 1) % b 2, e / (b 0 * b 1 * b 2) % b 3, e / (b 0 * b 1 * b 2 * b 3)]

/-- Address of the element at some coordinates, the origin at offset `off` (R211). -/
def recAddr (r : Nat) (off : DWord) (c : List Nat) : DWord :=
  let step : Int := (c.getD 0 0 * recNibbles r / 2 : Nat)
  let rest := ([1, 2, 3, 4].map fun i => (c.getD i 0 : Int) * recStr r i).foldl (· + ·) 0
  BitVec.ofInt 64 ((recBase r : Int) + off.toNat + step + rest)

/-- The record in a slot of the unit, if it is valid. -/
def Unit.slot (x : Unit) (n : Nat) : Option Nat := (mfind x.slots n).map (·.toNat)

/-! ### Accesses of the tile and stream engines -/

/-- What an engine access finds. -/
inductive EngPlace where
  | at (l : Loc) (pm : Bool)
  | later
  | fault (c : TrapCode)
  deriving DecidableEq, Repr

/-- The translation of the walk-ahead TLB (R306). -/
def State.walkXlate (s : State) (c : Nat) (va : DWord) : Walk := s.xlate (s.core c).wtlb 0 va

/-- Caches the translations an engine used. -/
def State.walkFill (s : State) (c : Nat) (vas : List DWord) : State :=
  vas.foldl (fun t va => match s.walkXlate c va with
    | .leaf e => t.modCore c fun k => { k with wtlb := tlbFill k.wtlb 0 va e }
    | _ => t) s

/-- An engine accesses addresses: their translations are cached, and the channels they reach have their timers restarted (R306, R351). -/
def State.walkUse (s : State) (c : Nat) (vas : List DWord) : State := (s.walkFill c vas).reachBy (s.walkXlate c) vas

/-- The addresses of a box in element order, one where each row begins and one where it ends, of 65,536 rows at most (assumption 6). -/
def boxEdges (r : Nat) (off : DWord) : List DWord :=
  let n := recBox r 0 + 1
  (List.range (min 65536 (recCount r / n))).flatMap fun i => [recAddr r off (recCoord r (n * i)), recAddr r off (recCoord r (n * i + recBox r 0))]

/-- The records of a tile or stream command with the addresses of their origins. -/
def Cmd.boxes (c : Cmd) : List (Nat × DWord) :=
  let r := fun k => (c.recs.getD k 0).toNat
  match c.op with
  | .mldw => [(r 0, c.a)]
  | .mma _ => [(r 0, c.a)]
  | .mdrain _ => (r 0, c.a) :: if c.recs.length < 2 then [] else [(r 1, c.info)]
  | .tcopy => [(r 0, c.a), (r 1, c.b)]
  | .strm => [(r 0, c.a)]
  | _ => []

/-- One address of each page in turn. -/
def pageHeads : Option Nat → List DWord → List DWord
  | _, [] => []
  | p, a :: t => if p = some (a.toNat / 65536) then pageHeads p t else a :: pageHeads (some (a.toNat / 65536)) t

/-- The walk-ahead TLB is filled for the pages that the boxes of an accepted command touch, in element order (R306). -/
def State.walkAhead (s : State) (c : Nat) (cmd : Cmd) : State :=
  cmd.boxes.foldl (fun s b => if recSpace b.1 = 0 then s.walkFill c (pageHeads none (boxEdges b.1 b.2)) else s) s

/-- One byte of an engine access of unit `u` (R209, R211): `space` 1 is the own scratchpad. -/
def State.engByte (s : State) (u : Nat) (x : Unit) (space : Nat) (a : DWord) (write : Bool) : EngPlace :=
  if space = 1 then
    if x.kte.scratch ≤ a.toNat then .fault .protection else .at (.spad (coreOf u) (x.bind.spbase + a.toNat)) false
  else if s.inPeerRegion a then .fault .protection
  else match s.walkXlate (coreOf u) a with
    | .invalid => .fault .translation
    | .touch _ => .later
    | .leaf e =>
      if pteS e || !(if write then pteW e else pteR e) then .fault .protection
      else
        let pa := s.phys e a
        if pteKind e != 0 then .at (.host pa) false
        else if s.backed pa then .at (.dev pa) (ptePm e)
        else .fault .protection

/-- An element of a seam record (R211): its block and slot. The spec names no fault for an address that is no multiple of 4: the element that holds the
address is meant (assumption 91). -/
def State.engSeam (s : State) (u : Nat) (a : DWord) (write : Bool) : EngPlace :=
  if s.inPeerRegion a then .fault .protection
  else match s.walkXlate (coreOf u) a with
  | .invalid => .fault .translation
  | .touch _ => .later
  | .leaf e =>
    if !pteS e || !(if write then pteW e else pteR e) then .fault .protection
    else if s.seamRecHeld (pteSidx e) then .later
    else match s.seamRec (pteSidx e) with
      | none => .fault .seamMalformed
      | some r => match r.place a.toNat with
        | some p => .at (.seam (s.seamHandle (pteSidx e)) p.1 p.2) false
        | none => .fault .protection

/-- What reading finds. -/
inductive EngRead where
  | later
  | fault (c : TrapCode)
  | val (v : Nat)
  deriving DecidableEq, Repr

/-- Layer `y` can deliver a sector to a reader: it holds a copy, or the home delivers it and every write its stamp names has been applied (R249, R342). -/
def State.layerReady (s : State) (y sec : Nat) : Bool :=
  (mfind (s.layer y).copies sec).isSome || (!s.held sec && s.devReady y sec)

/-- Reads one byte at a place, through the layer cache of core `c`. -/
def State.engReadByte (s : State) (c : Nat) : Loc → EngRead
  | .dev pa =>
    let sec := sectorOf pa
    if s.owned pa then
      if !s.layerReady (layerOf c) sec then .later
      else if s.layerPoisoned (layerOf c) sec then .fault .poisonedData
      else .val (sectorByte (s.layerSector (layerOf c) sec) (pa % 32)).toNat
    else if s.held sec || !s.devReady (layerOf c) sec then .later
    else if s.poisoned pa then .fault .poisonedData
    else .val (s.mem.read pa).toNat
  | .host a => if !s.hostReady (layerOf c) (sectorOf a) then .later else if s.linkPoisoned a then .fault .poisonedData else .val (s.hostMem.read a).toNat
  | .spad k off => if s.spadPoisoned k off 1 then .fault .poisonedData else .val (s.spadRead k off 1)
  | _ => .later

/-- Joins the bytes of a value, lowest first. -/
def engJoin : List EngRead → EngRead
  | [] => .val 0
  | .val b :: t => match engJoin t with
    | .val v => .val (b + 256 * v)
    | r => r
  | r :: _ => r

/-- The reader a command's accesses are made by. -/
def Cmd.reader (c : Cmd) (u : Nat) : Reader := match c.op with
  | .strm => ⟨2, u, c.id, none⟩
  | _ => ⟨1, u, c.id, some c.began⟩

/-- Reads an element of `n` bytes of a record's space at `a`. -/
def State.engRead (s : State) (r : Reader) (u : Nat) (x : Unit) (space : Nat) (a : DWord) (n : Nat) : EngRead :=
  match engJoin ((List.range n).map fun k => match s.engByte u x space (a + BitVec.ofNat 64 k) false with
    | .at l _ => s.engReadByte (coreOf u) l
    | .later => .later
    | .fault c => .fault c) with
  | .val v => match s.engByte u x space a false with
    | .at l _ => .val (s.view r l n v)
    | _ => .val v
  | e => e

/-- Reads a decoded seam element: from the dressing cache, as it is or as it was when the command could fetch it (R331), or decoded from its storage (R110). -/
def State.engReadSeam (s : State) (q : Reader) (u : Nat) (a : DWord) : EngRead :=
  match s.engSeam u a false with
  | .at (.seam i b e) _ => match (s.core (coreOf u)).block i b with
    | some blk =>
      let cell := seamCell (coreOf u) (i % 4096) b e
      .val (s.viewAt q cell.1 cell.2 4 (blk.elems.getD e 0).toNat)
    | none => match s.blockStorage u i b false with
      | .touch => .later
      | .fault c => .fault c
      | .at r ps =>
        if ps.any fun p => !s.layerReady (layerOf (coreOf u)) (sectorOf p) then .later
        else match decodeBlock r.d r.rate r.fin (leValue (ps.map fun p => sectorByte (s.layerSector (layerOf (coreOf u)) (sectorOf p)) (p % 32))) with
          | some v => .val (v.getD e 0).toNat
          | none => .fault .seamMalformed
  | .at _ _ => .later
  | .later => .later
  | .fault c => .fault c

/-- Reads an element of a copy record (R219). -/
def State.engElem (s : State) (q : Reader) (u : Nat) (x : Unit) (r : Nat) (a : DWord) : EngRead :=
  if recSeam r then s.engReadSeam q u a else s.engRead q u x (recSpace r) a (recSize r)

/-- A write of an engine: where, the byte or the element's value, `pm` of the page. -/
structure EngWrite where
  loc : Loc
  value : Nat
  pm : Bool
  addr : DWord
  deriving DecidableEq, Repr

/-- The writes of an element of `n` bytes, or why it cannot be written. -/
inductive EngSend where
  | later
  | fault (c : TrapCode)
  | ok (ws : List EngWrite)
  deriving DecidableEq, Repr

/-- Joins the writes of several bytes. -/
def engSendJoin : List (EngPlace × Nat × DWord) → EngSend
  | [] => .ok []
  | (.later, _, _) :: _ => .later
  | (.fault c, _, _) :: _ => .fault c
  | (.at l pm, v, a) :: t => match engSendJoin t with
    | .ok ws => .ok (⟨l, v, pm, a⟩ :: ws)
    | r => r

/-- Where an element of a copy record is written. -/
def State.engDest (s : State) (u : Nat) (x : Unit) (r : Nat) (a : DWord) (v : Nat) : EngSend :=
  if recSeam r then match s.engSeam u a true with
    | .at l pm => .ok [⟨l, v, pm, a⟩]
    | .later => .later
    | .fault c => .fault c
  else engSendJoin ((List.range (recSize r)).map fun k =>
    let b := a + BitVec.ofNat 64 k
    (s.engByte u x (recSpace r) b true, v / 256 ^ k % 256, b))

/-- The bytes of some writes that go to one kind of place, later ones over earlier. -/
def engBytes (pick : Loc → Option Nat) (ws : List EngWrite) : SMap Byte :=
  ws.foldl (fun m w => match pick w.loc with
    | some a => mput m a (BitVec.ofNat 8 w.value)
    | none => m) []

/-- Device bytes of some writes. -/
def engDev (ws : List EngWrite) : SMap Byte := engBytes (fun l => match l with
  | .dev a => some a
  | _ => none) ws

/-- Host bytes of some writes. -/
def engHost (ws : List EngWrite) : SMap Byte := engBytes (fun l => match l with
  | .host a => some a
  | _ => none) ws

/-- Scratchpad bytes of some writes of a unit. -/
def engSpad (ws : List EngWrite) : SMap Byte := engBytes (fun l => match l with
  | .spad _ off => some off
  | _ => none) ws

/-- The home can take the writes now: nothing of the layer's own to their sectors is on its way, nothing holds them (R334, R342). -/
def State.engReady (s : State) (c : Nat) (ws : List EngWrite) : Bool :=
  let b := engDev ws
  let secs := sectorsOf (b.map (·.1))
  secs.all fun sec => !s.held sec && !((s.layer (layerOf c)).out.any fun w => w.bytes.any fun p => sectorOf p.1 == sec) && s.canSend (layerOf c) (32 * sec)

/-- Performs the writes of a command `id` of unit `u` at their destinations (R334); a seam element goes to the coalescer. -/
def State.engWrite (s : State) (u id : Nat) (ws : List EngWrite) : State :=
  let c := coreOf u
  let s := s.note 1 0 u (some id) (s.oldDev (engDev ws))
  let s := s.note 1 1 u (some id) (s.oldHost (engHost ws))
  let s := s.note 1 (2 + c) u (some id) (s.oldSpad c (engSpad ws))
  let s := (groupSectors (engDev ws)).foldl (fun s b => match b with
    | [] => s
    | p :: _ =>
      let pm := ws.any fun w => match w.loc with
        | .dev a => w.pm && sectorOf a == sectorOf p.1
        | _ => false
      if s.owned p.1 then s.homeSend (layerOf c) b pm else (((s.atHome b pm).1).stampDev (layerOf c) b).sendFlit (layerOf c) p.1) s
  let s := ({ s with hostMem := s.hostMem.writeAll (engHost ws) } : State).stampHost (layerOf c) (engHost ws)
  ws.foldl (fun s w => match w.loc with
    | .spad k off => s.spadWrite k off 1 w.value
    | .seam i b e => (s.modCore c fun k =>
        { k with seamq := k.seamq ++ [⟨s.nextId, ⟨u, 64 + id, 0⟩, i, b, e, w.addr, BitVec.ofNat 32 w.value⟩] }).fresh
    | _ => s) s

/-- No seam store of a command waits in the coalescer any more. -/
def State.engSettled (s : State) (u id : Nat) : Bool := !(s.core (coreOf u)).seamq.any fun q => q.who.u == u && q.who.g == 64 + id

/-- An engine fault is recorded: for the lead, or, when it has stopped, in the unit's fault state; only the first counts (R209). -/
def Unit.recordFault (x : Unit) (code : TrapCode) (a : DWord) : Unit :=
  if x.lead.state = .stopped then { x with fault := match x.fault with
    | some f => some f
    | none => some code }
  else { x with efault := match x.efault with
    | some f => some f
    | none => some (code, a) }

/-- An element of an operand queue fetched again, as state `r` lets it be read: later if it cannot be yet (assumption 90). -/
def QElem.again (q : QElem) (r : State) (u : Nat) (x : Unit) : Except (TrapCode × DWord) QElem := match q.addr with
  | none => .ok q
  | some a => match r.engRead ⟨2, u, r.nextId, none⟩ u x 0 a 4 with
    | .val v => .ok { q with r := { q.r with bits := BitVec.ofNat 32 v }, stale := false }
    | .later => .ok { q with stale := true }
    | .fault c => .error (c, a)

/-- The elements of a queue fetched again in order: at one that faults the stream stops queuing, and nothing from it on is left (R339, R340). -/
def againAll (r : State) (u : Nat) (x : Unit) (which : QElem → Bool) : List QElem → List QElem × Option (TrapCode × DWord)
  | [] => ([], none)
  | q :: t => match if which q then q.again r u x else .ok q with
    | .error f => ([], some f)
    | .ok q => let rest := againAll r u x which t
      (q :: rest.1, rest.2)

/-- The command is a started STRM that fills an operand queue. -/
def Cmd.fills (c : Cmd) (key : Nat) : Bool := c.op == .strm && c.state == .started && c.info.toNat == key

/-- What an operand queue is fetched from meets a fault: its STRM's, where one runs (R340). -/
def Unit.queueFault (x : Unit) (key : Nat) (f : TrapCode × DWord) : Unit :=
  if x.cmds.any (·.fills key) then
    { x with cmds := x.cmds.map fun c => if c.fills key && !c.bad then { c with bad := true, err := f.1.code + 32 * f.2.toNat } else c }
  else x.recordFault f.1 f.2

/-- The elements `which` of a unit's operand queues are fetched again (R197, R339), as state `r` lets them be read; a fault is an engine fault (R340), of the STRM
that fills the queue where it still runs. -/
def State.refetchFrom (s r : State) (u : Nat) (which : QElem → Bool) : State :=
  s.modUnit u fun x => x.opq.foldl (fun y p =>
    let a := againAll r u x which p.2.elems
    let y := { y with opq := mset {} y.opq p.1 { elems := a.1 } }
    match a.2 with
    | none => y
    | some f => y.queueFault p.1 f) x

/-- The same, as they can be read now. -/
def State.refetch (s : State) (u : Nat) (which : QElem → Bool) : State := s.refetchFrom s u which

/-- A command has not ended yet: of a unit, or at the hub. -/
def State.commandRuns (s : State) (k : Nat) : Bool := (s.units.any fun p => p.2.cmds.any fun c => c.id == k) || s.hub.any fun h => h.id == k

/-! ### Commands, channels, arrivals -/

/-- A command of a unit. -/
def Unit.cmd? (x : Unit) (k : Nat) : Option Cmd := x.cmds.find? fun c => c.id == k

/-- Updates a command. -/
def Unit.modCmd (x : Unit) (k : Nat) (f : Cmd → Cmd) : Unit := { x with cmds := x.cmds.map fun c => if c.id = k then f c else c }

/-- Removes a command that is done. -/
def Unit.dropCmd (x : Unit) (k : Nat) : Unit := { x with cmds := x.cmds.filter fun c => c.id != k }

/-- The commands accepted before `k`. -/
def Unit.earlier (x : Unit) (k : Nat) : List Cmd := x.cmds.takeWhile fun c => c.id != k

/-- K and the channel of a control word (R207). -/
def ctrlChan (w : DWord) : Option Nat := if w.getLsbD 6 then some (w.toNat % 64) else none

/-- The copy channel a command delivers on. -/
def Cmd.chan (c : Cmd) : Option Nat :=
  match c.op with
  | .tcopy => ctrlChan c.c
  | .dread => ctrlChan c.c
  | _ => none

/-- Every earlier command on the channel of command `k` is done, or the channel has stopped (R220). -/
def Unit.channelTurn (x : Unit) (k : Nat) (ch : Option Nat) : Bool :=
  match ch with
  | none => true
  | some n => (mget {} x.chans n).stopped || (x.earlier k).all fun c => c.chan != some n

/-- A channel has stopped. -/
def Unit.stopped (x : Unit) (ch : Option Nat) : Bool := match ch with
  | none => false
  | some n => (mget {} x.chans n).stopped

/-- Stops a channel. -/
def Unit.stopChan (x : Unit) (ch : Option Nat) : Unit := match ch with
  | none => x
  | some n => { x with chans := mset {} x.chans n { mget {} x.chans n with stopped := true } }

/-- The pointer of a channel that has not stopped advances by `n` bytes (R220). -/
def Unit.advanceChan (x : Unit) (ch : Option Nat) (n : Nat) : Unit := match ch with
  | none => x
  | some k =>
    let c := mget {} x.chans k
    if c.stopped then x else { x with chans := mset {} x.chans k { c with ptr := c.ptr + n } }

/-- A command that has not ended, and whose writes no channel pointer shows: nobody can have observed them (R197, R220, assumption 26). -/
def State.unobserved (s : State) (k : Nat) : Bool := match s.units.findSome? fun p => p.2.cmd? k with
  | some c => c.chan.isNone
  | none => s.hub.any fun h => h.id == k

/-- An engine arrival of `n` bytes at an object of unit `u` (R201, R208). -/
def State.arrive (s : State) (u : Nat) (obj : Option Nat) (n : Nat) : State :=
  match obj, s.unit? u with
  | some o, some x => s.onBarObj (coreOf u) (x.bind.spbase + o) (·.deliver n)
  | _, _ => s

/-- Bytes a tile or stream command adds at its arrival (R208). -/
def Cmd.bytes (c : Cmd) : Nat :=
  let r := fun k => (c.recs.getD k 0).toNat
  match c.op with
  | .mldw => 16384
  | .mma _ => 128 * (recBox (r 0) 1 + 1)
  | .mdrain _ => 65536
  | .tcopy => recCount (r 1) * recSize (r 1)
  | .strm => 4 * recCount (r 0)
  | _ => 0

/-- A command ends: its arrival is made, and it leaves the unit. -/
def State.finishCmd (s : State) (u : Nat) (c : Cmd) : State := (s.arrive u c.obj c.bytes).modUnit u (·.dropCmd c.id)

/-- The barrier object of a control word with A = 1 (R207). -/
def ctrlObj (w : DWord) : Option Nat := if w.getLsbD 7 then some (w.toNat / 2 ^ 32 % 2 ^ 19) else none

end Sys2Proof.Machine
end

