-- ==== Sys2Proof/Machine/Eng.lean ====
section
/-! DEFINITION. Engine words at issue (R205 to R227): TREC, MLDW, MSWAP, MMA, MDRAIN, TCOPY, STRM, NMC, DREAD, DAPPEND, and XFENCE (R197). -/

namespace Sys2Proof.Machine

/-! ### XFENCE -/

/-- XFENCE (R197): first path codes 0 lane, 1 tile; second path codes 0 lane, 1 tile, 2 stream, 3 near, 4 deep. It is none of the waiting conditions of R22:
an interlock. -/
def execXfence (p q : BitVec 3) (s : State) : Host.Outcome State Fault Refusal :=
  s.issue (need (s.pathDone p.toNat) .hold)
    (fun _ t =>
      let t := t.pathFence t.who.u p.toNat q.toNat t.unobserved
      match q.toNat, t.here with
      | 0, _ => t.acquire s.hereCore 2
      | 3, _ => t.acquire s.hereCore 2
      | 2, some (u, _) => t.refetch u fun _ => true
      | _, _ => t)
    fun t => if p.toNat ≤ 1 then t.startRelease else t

/-! ### TREC -/

/-- What the read of a record finds. -/
inductive RecRead where
  | hold
  | trap (c : TrapCode)
  | ok (v : Nat)
  deriving DecidableEq, Repr

/-- The `n` bytes of a record at a place, in program order with the lead's own accesses, as a lane read returns them (R181, R212, R266). -/
def State.readRecord (s : State) (u : Nat) (x : Unit) (l : Loc) (n : Nat := 64) : RecRead :=
  let c := coreOf u
  let acc : Acc := { lane := 64, loc := l, size := n }
  let mine := x.lead.ops.any fun o => o.accs.any fun a => !a.done && a.clash acc
  if (s.core c).portBusy acc || mine then .hold
  else match l with
  | .spad k off => if s.spadPoisoned k off n then .trap .poisonedData else .ok (s.spadView s.laneReader k off n)
  | .peer k off => if s.spadPoisoned k off n then .trap .poisonedData else .ok (s.spadView s.laneReader k off n)
  | l =>
    let a := match l with
      | .dev pa => pa
      | .host pa => pa
      | _ => 0
    match engJoin ((List.range n).map fun k => s.engReadByte c (match l with
      | .dev _ => .dev (a + k)
      | _ => .host (a + k))) with
    | .val v => .ok (s.view s.laneReader l n v)
    | .fault code => .trap code
    | .later => .hold

/-- The place of a record (R212): `sp` 0 global, 1 own scratchpad. -/
def State.recPlace (s : State) (u : Nat) (x : Unit) (sp : BitVec 2) (a : DWord) : Place :=
  if sp = 0 then s.globalPlace u x a ⟨64, .load, false⟩ else State.spadPlace u x a 64 64

/-- A lead trap. -/
def leadTrap (c : TrapCode) (a : DWord := 0) : Verdict := .trap [⟨0, c, a⟩]

/-- TREC (R212). -/
def execTrec (a : BitVec 5) (space : BitVec 2) (slot : BitVec 3) (s : State) : Host.Outcome State Fault Refusal :=
  match s.here with
  | some (u, x) =>
    let ad := s.X a.toNat
    let place := s.recPlace u x space ad
    let r := match place with
      | .fault c => RecRead.trap c
      | .touch => .hold
      | .at l _ => s.readRecord u x l
    s.issue ((s.leadWord []).andThen (match r with
        | .hold => .hold
        | .trap c => leadTrap c ad
        | .ok v => need (!recErr v) (leadTrap .undefinedInstruction))) fun _ t =>
      match r with
      | .ok v => (match place with
        | .at l _ => t.viewed s.laneReader l 64
        | _ => t).modUnit u fun y => { y with slots := mput y.slots slot.toNat (BitVec.ofNat 512 v) }
      | _ => t
  | none => s.issue s.undefined fun _ t => t

/-! ### Acceptance -/

/-- The unit holds its core's matrix grant (R34). -/
def State.granted (s : State) (u : Nat) : Bool := (s.core (coreOf u)).grant == some (slotOf u)

/-- The core's array runs with one failed residue channel (R104). -/
def State.degraded (s : State) (c : Nat) : Bool := (mfind s.svy.arrChan c).isSome

/-- The barrier object of a command with A = 1 (R207): alignment, then range. -/
def Unit.objCheck (x : Unit) (off : DWord) : Verdict :=
  (need (off.toNat % 16 == 0) (leadTrap .misaligned off)).andThen
    (need (decide (off.toNat + 16 ≤ x.kte.scratch)) (leadTrap .protection off))

/-- The engine queue takes one more command, or the lead waits (R206). -/
def State.cmdRoom (s : State) (u : Nat) (x : Unit) (e : Engine) : Verdict :=
  let n := x.cmdEntries e
  need (s.queueRoom (coreOf u) n n 4 x.qlim.engine) .wait

/-- Accepts a command of the lead (R206). -/
def State.accept (s : State) (u : Nat) (c : Cmd) : State := ((s.modUnit u fun x => { x with cmds := x.cmds ++ [c] }).walkAhead (coreOf u) c).fresh

/-- An engine word: the checks of its entry, then acceptance; `imx` is the issue-time matrix state it leaves (R213). -/
def State.engineWord (s : State) (u : Nat) (x : Unit) (v : Verdict) (c : Cmd) (imx : IssueMx → IssueMx := id) :
    Host.Outcome State Fault Refusal :=
  s.issue ((s.leadWord []).andThen (v.andThen (s.cmdRoom u x c.op.engine))) fun _ t =>
    (t.accept u { c with id := t.nextId }).modUnit u fun y => { y with imx := imx y.imx }

/-- A record of the matrix commands: at least two dimensions, a box within 128 by 128 (R214). -/
def matrixBox (r : Nat) : Bool :=
  decide (2 ≤ recNdim r) && decide (recBox r 0 ≤ 127) && decide (recBox r 1 ≤ 127) && recBox r 2 == 0 && recBox r 3 == 0 && recBox r 4 == 0

/-- A slot whose record the command's entry accepts (R212). -/
def slotCheck (r : Option Nat) (ok : Nat → Bool) : Verdict :=
  need (match r with
    | some v => ok v
    | none => false) (leadTrap .undefinedInstruction)

/-- The record of a slot as bits. -/
def slotBits (r : Option Nat) : BitVec 512 := BitVec.ofNat 512 (r.getD 0)

/-- A of the matrix commands: the object in `hb` (R205, R207). -/
def State.arrCheck (s : State) (x : Unit) (arr : BitVec 1) (b : BitVec 5) : Verdict :=
  if arr = 1 then x.objCheck (s.X b.toNat) else .ok

/-- The object a matrix command arrives at. -/
def State.arrObj (s : State) (arr : BitVec 1) (b : BitVec 5) : Option Nat := if arr = 1 then some (s.X b.toNat).toNat else none

/-- A weight format MLDW implements (R103, R104). -/
def weightOk (degraded : Bool) (code : Nat) : Bool := if degraded then code == 2 || code == 3 else decide (code ≤ 3)

/-- The tag a weight format gives its plane (R101). -/
def weightTag (code : Nat) : Tag := if code ≤ 1 then .i8x4 else .i4x8

/-- MLDW (R214). -/
def execMldw (a b : BitVec 5) (arr : BitVec 1) (slot : BitVec 3) (s : State) : Host.Outcome State Fault Refusal :=
  match s.here with
  | some (u, x) =>
    let r := x.slot slot.toNat
    let code := recCode (r.getD 0)
    s.engineWord u x ((need (s.granted u) (leadTrap .privilege)).andThen
        ((slotCheck r fun v => recCls v == 0 && matrixBox v).andThen
          ((need (weightOk (s.degraded (coreOf u)) code) (leadTrap .unimplementedCombination)).andThen (s.arrCheck x arr b))))
      { id := 0, op := .mldw, recs := [slotBits r], a := s.X a.toNat, obj := s.arrObj arr b }
      fun m => { m with shadow := weightTag code, shadowCode := code }
  | none => s.issue s.undefined fun _ t => t

/-- The planes change places (R215). -/
def IssueMx.swap (m : IssueMx) : IssueMx :=
  { m with active := m.shadow, shadow := m.active, activeCode := m.shadowCode, shadowCode := m.activeCode }

/-- MSWAP (R215). -/
def execMswap (s : State) : Host.Outcome State Fault Refusal :=
  match s.here with
  | some (u, x) => s.engineWord u x (need (s.granted u) (leadTrap .privilege)) { id := 0, op := .mswap } (·.swap)
  | none => s.issue s.undefined fun _ t => t

/-- A combination MMA implements (R103, R104). -/
def mmaOk (degraded : Bool) (act weight passes : Nat) : Bool :=
  decide (act ≤ 1) && (!degraded || (decide (2 ≤ weight) && !(act == 0 && weight == 2) && passes == 0))

/-- Tag and pass count of a tile. -/
def IssueMx.tile (m : IssueMx) (k : Nat) : Tag × Nat := m.tiles.getD k (.raw, 0)

/-- MMA (R216). -/
def execMma (a b : BitVec 5) (tile : BitVec 2) (arr : BitVec 1) (slot : BitVec 3) (s : State) : Host.Outcome State Fault Refusal :=
  match s.here with
  | some (u, x) =>
    let r := x.slot slot.toNat
    let n := (x.imx.tile tile.toNat).2
    s.engineWord u x ((need (s.granted u) (leadTrap .privilege)).andThen
        ((slotCheck r fun v => recCls v == 0 && matrixBox v).andThen
          ((need (x.imx.active != .raw) (leadTrap .formatTag)).andThen
            ((need (mmaOk (s.degraded (coreOf u)) (recCode (r.getD 0)) x.imx.activeCode n) (leadTrap .unimplementedCombination)).andThen
              ((need (decide (n < 16)) (leadTrap .residueRange)).andThen (s.arrCheck x arr b))))))
      { id := 0, op := .mma tile.toNat, recs := [slotBits r], a := s.X a.toNat, obj := s.arrObj arr b }
      fun m => { m with tiles := m.tiles.set tile.toNat (.rt, n + 1) }
  | none => s.issue s.undefined fun _ t => t

/-- A destination or addend record of MDRAIN (R217). -/
def drainRec (v : Nat) : Bool := recCls v == 1 && recCode v == 2 && matrixBox v

/-- The first 16 bytes of a drain block, and the checks on it (R217). -/
def State.drainBlock (s : State) (u : Nat) (x : Unit) (off : DWord) : Nat × Verdict :=
  let o := off.toNat
  let base := x.bind.spbase + o
  let v := s.spadRead (coreOf u) base 16
  (v, (need (o % 16 == 0) (leadTrap .misaligned off)).andThen
    ((need (decide (o + 1040 ≤ x.kte.scratch)) (leadTrap .protection off)).andThen
      ((need (!s.spadPoisoned (coreOf u) base 16) (leadTrap .poisonedData off)).andThen
        (need (v / 2 ^ 68 == 0) (leadTrap .protection off)))))

/-- MDRAIN (R217). -/
def execMdrain (a b c : BitVec 5) (tile : BitVec 2) (arr : BitVec 1) (slot : BitVec 3) (s : State) : Host.Outcome State Fault Refusal :=
  match s.here with
  | some (u, x) =>
    let r := x.slot slot.toNat
    let off := s.X c.toNat
    let d := s.drainBlock u x off
    let add := d.1 / 2 ^ 64 % 2 == 1
    let ar := x.slot (d.1 / 2 ^ 65 % 8)
    s.engineWord u x ((need (s.granted u) (leadTrap .privilege)).andThen
        ((slotCheck r drainRec).andThen (d.2.andThen
          ((if add then slotCheck ar drainRec else .ok).andThen (s.arrCheck x arr b)))))
      { id := 0, op := .mdrain tile.toNat, recs := slotBits r :: (if add then [slotBits ar] else []), a := s.X a.toNat, c := off,
        info := BitVec.ofNat 64 d.1, obj := s.arrObj arr b }
      fun m => { m with tiles := m.tiles.set tile.toNat (.rt, 0) }
  | none => s.issue s.undefined fun _ t => t

/-- The checks of an engine control word (R207): `op` decides the channels it may name and whether it has a tag. -/
def Unit.ctrlCheck (x : Unit) (op : CmdOp) (w : DWord) : Verdict :=
  let n := w.toNat
  let k := w.getLsbD 6
  let ch := n % 64
  let tag := n / 2 ^ 8 % 16
  let tagOk := if op = .strm then tag != 2 && decide (tag < 14) else tag == 0
  let chOk := match op with
    | .strm => k && decide (16 ≤ ch ∧ ch ≤ 31)
    | .tcopy => !k || decide (ch ≤ 15)
    | .dread => !k || decide (ch ≤ 15)
    | _ => !k
  (need (n / 2 ^ 51 == 0 && n / 2 ^ 12 % 2 ^ 20 == 0 && tagOk) (leadTrap .undefinedInstruction)).andThen
    ((need (!(k && decide (49 ≤ ch))) (leadTrap .channelUnavailable)).andThen
      ((need chOk (leadTrap .undefinedInstruction)).andThen
        (match ctrlObj w with
          | some o => x.objCheck (BitVec.ofNat 64 o)
          | none => .ok)))

/-- The two records of a copy agree: copy elements of one code, equal boxes (R219). -/
def copyRecs (a b : Nat) : Bool :=
  recCls a == 1 && recCls b == 1 && recCode a == recCode b && (List.range 5).all fun i => recBox a i == recBox b i

/-- TCOPY (R219). -/
def execTcopy (a b c : BitVec 5) (dst src : BitVec 3) (s : State) : Host.Outcome State Fault Refusal :=
  match s.here with
  | some (u, x) =>
    let sr := x.slot src.toNat
    let dr := x.slot dst.toNat
    let w := s.X c.toNat
    s.engineWord u x ((slotCheck sr fun v => slotCheck dr (copyRecs v ·) == .ok).andThen (x.ctrlCheck .tcopy w))
      { id := 0, op := .tcopy, recs := [slotBits sr, slotBits dr], a := s.X a.toNat, b := s.X b.toNat, c := w, obj := ctrlObj w }
  | none => s.issue s.undefined fun _ t => t

/-- STRM (R221): `info` names the operand queue. -/
def execStrm (a b c : BitVec 5) (slot : BitVec 3) (s : State) : Host.Outcome State Fault Refusal :=
  match s.here with
  | some (u, x) =>
    let r := x.slot slot.toNat
    let w := s.X c.toNat
    let g := (s.X b.toNat).toNat
    s.engineWord u x ((slotCheck r fun v => recCls v == 1 && recCode v == 2 && !recSeam v && recSpace v == 0).andThen
        ((need (decide (g < 32)) (leadTrap .undefinedInstruction)).andThen (x.ctrlCheck .strm w)))
      { id := 0, op := .strm, recs := [slotBits r], a := s.X a.toNat, b := s.X b.toNat, c := w, obj := ctrlObj w,
        info := BitVec.ofNat 64 (opqKey g (w.toNat % 64)) }
  | none => s.issue s.undefined fun _ t => t

/-- The near and deep words (R222 to R227): control word, then alignment of the two addresses. -/
def State.hubWord (s : State) (op : CmdOp) (a b c : BitVec 5) : Host.Outcome State Fault Refusal :=
  match s.here with
  | some (u, x) =>
    let w := s.X c.toNat
    let ra := s.X a.toNat
    let ca := s.X b.toNat
    s.engineWord u x ((x.ctrlCheck op w).andThen ((need (ra.toNat % 32 == 0) (leadTrap .misaligned ra)).andThen
        (need (ca.toNat % 32 == 0) (leadTrap .misaligned ca))))
      { id := 0, op := op, a := ra, b := ca, c := w, obj := ctrlObj w }
  | none => s.issue s.undefined fun _ t => t

/-- NMC (R223). -/
def execNmc (a b c : BitVec 5) (s : State) : Host.Outcome State Fault Refusal := s.hubWord .nmc a b c

/-- DREAD (R226). -/
def execDread (a b c : BitVec 5) (s : State) : Host.Outcome State Fault Refusal := s.hubWord .dread a b c

/-- DAPPEND (R227). -/
def execDappend (a b c : BitVec 5) (s : State) : Host.Outcome State Fault Refusal := s.hubWord .dappend a b c

end Sys2Proof.Machine
end

