-- ==== Sys2Proof/Machine/Matrix.lean ====
section
/-! DEFINITION. The matrix array (R33, R35, R95 to R106, R213 to R217): triples, element formats, what MLDW, MMA and MDRAIN do when they run. -/

namespace Sys2Proof.Machine

/-! ### Residue triples (R95 to R99, R104) -/

/-- A triple from its residues: c513 above c512 above c511 (R95). -/
def packRT (a b c : Nat) : BitVec 28 := BitVec.ofNat 28 (c * 2 ^ 18 + b * 2 ^ 9 + a)

/-- `ToRT(x)` (R97). -/
def toRT (x : Int) : BitVec 28 := packRT (x % 511).toNat (x % 512).toNat (x % 513).toNat

/-- The residues of a triple, a field at or above its modulus reduced (R96). -/
def residues (t : BitVec 28) : Nat × Nat × Nat := (t.toNat % 512 % 511, t.toNat / 2 ^ 9 % 512, t.toNat / 2 ^ 18 % 513)

/-- Channel sum (R99). -/
def sumRT (x y : BitVec 28) : BitVec 28 :=
  let p := residues x
  let q := residues y
  packRT ((p.1 + q.1) % 511) ((p.2.1 + q.2.1) % 512) ((p.2.2 + q.2.2) % 513)

/-- Channel product (R99). -/
def mulRT (x y : BitVec 28) : BitVec 28 :=
  let p := residues x
  let q := residues y
  packRT (p.1 * q.1 % 511) (p.2.1 * q.2.1 % 512) (p.2.2 * q.2.2 % 513)

/-- `u` of 0 to Q − 1 brought into −⌊Q/2⌋ to Q − ⌊Q/2⌋ − 1 (R98, R104). -/
def centred (q u : Int) : Int := if u < q - q / 2 then u else u - q

/-- `FromRT(t)` (R98); on an array that lost channel 511 (0), 512 (1) or 513 (2), over the two that remain (R104). -/
def fromRT (lost : Option Nat) (t : BitVec 28) : Int :=
  let p := residues t
  let r1 : Int := p.1
  let r2 : Int := p.2.1
  let r3 : Int := p.2.2
  match lost with
  | none =>
    let d2 := (r1 - r2) % 512
    let d3 := (r3 - r1 + 2 * d2) * 257 % 513
    centred 134217216 (r1 + 511 * d2 + 261632 * d3)
  | some 0 => centred 262656 (r2 + 512 * ((r2 - r3) % 513))
  | some 1 => centred 262143 (r1 + 511 * ((r1 - r3) * 257 % 513))
  | some _ => centred 261632 (r1 + 511 * ((r1 - r2) % 512))

/-! ### Elements (R92, R100, R101) -/

/-- The value of an element of matrix format `code` at column `c0` in its byte, and whether it holds the NaN marker. -/
def matrixElem (code c0 byte : Nat) : Int × Bool :=
  let nib := byte / 16 ^ (c0 % 2) % 16
  match code with
  | 0 => ((BitVec.ofNat 8 byte).toInt, false)
  | 1 => if byte = 0x80 then (0, true) else ((BitVec.ofNat 8 byte).toInt, false)
  | 2 => ((BitVec.ofNat 4 nib).toInt, false)
  | 3 => if nib = 8 then (0, true) else ((BitVec.ofNat 4 nib).toInt, false)
  | _ => (byte, false)

/-! ### Planes and tiles (R33, R35) -/

/-- The active plane. -/
def Matrix.active (m : Matrix) : Plane := if m.sel then m.plane1 else m.plane0
/-- The shadow plane. -/
def Matrix.shadow (m : Matrix) : Plane := if m.sel then m.plane0 else m.plane1
/-- Loads the shadow plane. -/
def Matrix.setShadow (m : Matrix) (p : Plane) : Matrix := if m.sel then { m with plane0 := p } else { m with plane1 := p }
/-- A tile. -/
def Matrix.tile (m : Matrix) (k : Nat) : Tile := mget {} m.tiles k
/-- Replaces a tile. -/
def Matrix.setTile (m : Matrix) (k : Nat) (t : Tile) : Matrix := { m with tiles := mset {} m.tiles k t }

/-- The flagged columns of a plane. -/
def Plane.flagged (p : Plane) : List Nat := (p.nan.filter (·.2)).map (·.1)

/-- Updates the matrix state of a core. -/
def State.modMx (s : State) (c : Nat) (f : Matrix → Matrix) : State := s.modCore c fun k => { k with mx := f k.mx }

/-- All 128 NaN flags. -/
def allFlags : SMap Bool := (List.range 128).map fun i => (i, true)

/-- A tile as MDRAIN leaves it (R35). -/
def drained : Tile := { tag := .rt }

/-- The tile after a pass: one more in the count, tag RT (R216). -/
def Tile.pass (t : Tile) : Tile := { t with tag := .rt, passes := t.passes + 1 }

/-! ### Reading a box -/

/-- What reading the elements of a box finds; a fault carries the address, and the elements read before it. -/
inductive BoxRead where
  | later
  | fault (c : TrapCode) (a : DWord) (before : SMap Nat)
  | ok (vs : SMap Nat)
  deriving DecidableEq, Repr

/-- The elements of a two-dimensional box in element order, by 128 * c1 + c0 (R219). -/
def boxKeys (r : Nat) : List Nat := (List.range (recBox r 1 + 1)).flatMap fun i => (List.range (recBox r 0 + 1)).map fun j => 128 * i + j

/-- Address of the element with such a key. -/
def boxAddr (r : Nat) (off : DWord) (k : Nat) : DWord := recAddr r off [k % 128, k / 128, 0, 0, 0]

/-- Reads elements in turn. -/
def readKeys (read : DWord → EngRead) (addr : Nat → DWord) (got : SMap Nat) : List Nat → BoxRead
  | [] => .ok got
  | k :: t => match read (addr k) with
    | .later => .later
    | .fault c => .fault c (addr k) got
    | .val v => readKeys read addr (got ++ [(k, v)]) t

/-- Reads the box of a matrix record: a byte for each element. -/
def State.readBox (s : State) (q : Reader) (u : Nat) (x : Unit) (r : Nat) (off : DWord) : BoxRead :=
  readKeys (fun a => s.engRead q u x (recSpace r) a 1) (boxAddr r off) [] (boxKeys r)

/-! ### What the matrix commands do -/

/-- What running a command finds: it cannot run yet; a fault, with the state its part done before leaves (R209); it has run. -/
inductive Run where
  | later
  | fault (c : TrapCode) (a : DWord) (s : State)
  | ok (s : State)

/-- The elements of a box have been accessed. -/
def State.fillBox (s : State) (u r : Nat) (off : DWord) : State :=
  if recSpace r = 0 then s.walkUse (coreOf u) ((boxKeys r).map (boxAddr r off)) else s

/-- The plane that loaded bytes give (R101, R214). -/
def loadPlane (code : Nat) (vs : SMap Nat) : Plane :=
  { tag := weightTag code
    w := vs.foldl (fun m p => mset 0 m p.1 (matrixElem code (p.1 % 128) p.2).1) []
    nan := vs.foldl (fun m p => if (matrixElem code (p.1 % 128) p.2).2 then mset false m (p.1 % 128) true else m) [] }

/-- MLDW runs (R214). A fault sets every column flag, and each weight holds the value loaded for it or zero (R209, assumption 13). -/
def State.runMldw (s : State) (u : Nat) (x : Unit) (c : Cmd) : Run :=
  let r := (c.recs.getD 0 0).toNat
  match s.readBox (c.reader u) u x r c.a with
  | .later => .later
  | .ok vs => .ok ((s.fillBox u r c.a).modMx (coreOf u) (·.setShadow (loadPlane (recCode r) vs)))
  | .fault e a vs =>
    let kept := vs.filter fun p => Config.faultedWeightKept c.id (p.1 / 128) (p.1 % 128)
    .fault e a (s.modMx (coreOf u) (·.setShadow { loadPlane (recCode r) kept with nan := allFlags }))

/-- The weights of column `n` of a plane, by row. -/
def Plane.column (p : Plane) (n : Nat) : SMap Int := p.w.filterMap fun q => if q.1 % 128 = n then some (q.1 / 128, q.2) else none

/-- One activation row past the active plane into row `r` of a tile (R99, R216). -/
def Tile.addRow (t : Tile) (p : Plane) (r : Nat) (xs : SMap Int) : Tile :=
  { t with t := (List.range 128).foldl (fun m n =>
      let col := p.column n
      let add := (List.range 128).foldl (fun acc k => sumRT acc (mulRT (toRT (mget 0 xs k)) (toRT (mget 0 col k)))) (mget 0 t.t (128 * r + n))
      mset 0 m (128 * r + n) add) t.t }

/-- The rows of a box past the active plane: rows with every element read. -/
def Tile.addRows (t : Tile) (p : Plane) (code rows : Nat) (vs : SMap Nat) : Tile :=
  let xs := fun (r : Nat) => vs.filterMap fun q => if q.1 / 128 = r then some (q.1 % 128, (matrixElem code (q.1 % 128) q.2).1) else none
  let t := (List.range rows).foldl (fun t r => t.addRow p r (xs r)) t
  { t with nan := vs.foldl (fun m q => if (matrixElem code (q.1 % 128) q.2).2 then mset false m (q.1 / 128) true else m) t.nan }

/-- MMA runs (R216). After a fault the rows already entered are complete, and the whole tile's row flags are set (R209, R333). -/
def State.runMma (s : State) (u : Nat) (x : Unit) (c : Cmd) (tile : Nat) : Run :=
  let r := (c.recs.getD 0 0).toNat
  let m := (s.core (coreOf u)).mx
  let t := m.tile tile
  match s.readBox (c.reader u) u x r c.a with
  | .later => .later
  | .ok vs => .ok ((s.fillBox u r c.a).modMx (coreOf u) (·.setTile tile (t.addRows m.active (recCode r) (recBox r 1 + 1) vs).pass))
  | .fault e a vs =>
    let whole := vs.length / (recBox r 0 + 1)
    .fault e a (s.modMx (coreOf u)
      (·.setTile tile { (t.addRows m.active (recCode r) whole vs).pass with nan := allFlags }))

/-! ### The drain epilogue (R105) -/

/-- `Round(x, F32, RNE)` of an exact value, as bits. -/
def roundF32 (x : Exact) : Nat := (round fmtF32 0 false x).bits

/-- The value before the addend: `p` with scales `rs` and `cs`, `flag` when a row or column flag is set. -/
def drainValue (p : Int) (rs cs : Nat) (flag : Bool) : Nat :=
  let a := fmtF32.value rs
  let b := fmtF32.value cs
  let isInf := fun (x : Exact) => x matches .inf _
  let isZero := fun (x : Exact) => x matches .zero _
  if a == .nan || b == .nan || flag then 0x7FC00000
  else if (isInf a || isInf b) && (p == 0 || isZero a || isZero b) then 0x7FC00000
  else if p = 0 then 0
  else roundF32 (exactMul (exactMul (exactOfInt p 0 false) a).1 b).1

/-- With an addend. -/
def drainAdd (y ad : Nat) : Nat :=
  if fmtF32.isNan ad then 0x7FC00000
  else
    let z := roundF32 (exactAdd 0 (fmtF32.value y) (fmtF32.value ad)).1
    if fmtF32.isNan z then 0x7FC00000 else z

/-- What a drain has done so far: the writes of each row, the last row first, or why it stopped. -/
inductive DrainRun where
  | later
  | stop (c : TrapCode) (a : DWord) (rows : List (List EngWrite))
  | go (rows : List (List EngWrite))

/-- Writes join those of the last row. -/
def addToRow (new : List EngWrite) : List (List EngWrite) → List (List EngWrite)
  | [] => [new]
  | r :: t => (r ++ new) :: t

/-- One output of a drain (R105, R217): its addend is read, its value written when it lies in the destination box. -/
def State.drainOne (s : State) (u : Nat) (x : Unit) (c : Cmd) (t : Tile) (cols : List Nat) (k : Nat) : DrainRun → DrainRun
  | .go before =>
    let rows := if k % 128 = 0 then [] :: before else before
    let dst := (c.recs.getD 0 0).toNat
    let off := c.c.toNat + x.bind.spbase
    let i := k / 128
    let j := k % 128
    let scale := fun a => s.view (c.reader u) (.spad (coreOf u) a) 4 (s.spadRead (coreOf u) a 4)
    let rs := scale (off + 16 + 4 * i)
    let cs := scale (off + 528 + 4 * j)
    let y := drainValue (if t.tag = .raw then 0 else fromRT (mfind s.svy.arrChan (coreOf u)) (mget 0 t.t k)) rs cs (mget false t.nan i || cols.contains j)
    let ar := (c.recs.getD 1 0).toNat
    let ad : EngRead := if c.recs.length < 2 || decide (recBox ar 1 < i) || decide (recBox ar 0 < j) then .val y
      else match s.engElem (c.reader u) u x ar (boxAddr ar c.info k) with
        | .val v => .val (drainAdd y v)
        | e => e
    match ad with
    | .later => .later
    | .fault e => .stop e (boxAddr ar c.info k) rows
    | .val v =>
      if recBox dst 1 < i ∨ recBox dst 0 < j then .go rows
      else match s.engDest u x dst (boxAddr dst c.a k) v with
        | .later => .later
        | .fault e => .stop e (boxAddr dst c.a k) rows
        | .ok new => .go (addToRow new rows)
  | r => r

/-- All outputs of a drain in row order, `cols` being the flagged columns of the plane active at its place (R217). -/
def State.drainAll (s : State) (u : Nat) (x : Unit) (c : Cmd) (tile : Nat) : DrainRun :=
  let m := (s.core (coreOf u)).mx
  let t := m.tile tile
  let cols := c.flags.getD m.active.flagged
  if s.spadPoisoned (coreOf u) (c.c.toNat + x.bind.spbase + 16) 1024 then .stop .poisonedData c.c []
  else (List.range 16384).foldl (fun d k => s.drainOne u x c t cols k d) (.go [])

/-- MDRAIN runs (R217): it writes row by row (R319, R334), the writes made before a fault remain, and the tile is left as R35 gives. -/
def State.runMdrain (s : State) (u : Nat) (x : Unit) (c : Cmd) (tile : Nat) : Run :=
  let finish := fun (rows : List (List EngWrite)) =>
    (rows.reverse.foldl (fun s ws => s.engWrite u c.id ws) (c.boxes.foldl (fun s b => s.fillBox u b.1 b.2) s)).modMx (coreOf u) (·.setTile tile drained)
  match s.drainAll u x c tile with
  | .later => .later
  | .stop e a rows => if s.engReady (coreOf u) rows.reverse.flatten then .fault e a (finish rows) else .later
  | .go rows => if s.engReady (coreOf u) rows.reverse.flatten then .ok (finish rows) else .later

end Sys2Proof.Machine
end

