-- ==== Sys2Proof/Machine/EngEvents.lean ====
section
/-! DEFINITION. The tile and stream engines at work (R206, R208, R209, R213 to R221, R332 to R340): commands start, write, complete, fault and are discarded. -/

namespace Sys2Proof.Machine

/-! ### Starting (R206, R332) -/

/-- A unit that is being saved, cancelled or stopped starts no further command (R234, R237, R317). -/
def Unit.starts (x : Unit) : Bool := !x.parked && !x.cancel && x.save.isNone && x.ending.isNone && x.lead.trapped.isNone

/-- An MDRAIN whose rows have been read (R332). -/
def Cmd.performed (c : Cmd) : Bool := match c.op with
  | .mdrain _ => c.progress != []
  | _ => false

/-- No earlier command of the same engine has faulted and waits for its own writes: it discards those after it (R209). -/
def Unit.unfaulted (x : Unit) (c : Cmd) : Bool := (x.earlier c.id).all fun d => !d.bad || d.op.engine != c.op.engine

/-- The command is an MMA. -/
def Cmd.isMma (c : Cmd) : Bool := match c.op with
  | .mma _ => true
  | _ => false

/-- The earlier commands a started command waits for before it acts on the matrix (R332). -/
def Cmd.actAfter (c e : Cmd) : Bool :=
  match c.op, e.op with
  | .mldw, .mswap => true
  | .mldw, .mldw => true
  | .mswap, .mldw => true
  | .mswap, .mswap => true
  | .mswap, .mma _ => true
  | .mma _, .mswap => true
  | .mma t, .mma k => t == k
  | .mma t, .mdrain k => t == k && !e.performed
  | .mdrain t, .mma k => t == k
  | .mdrain _, .mldw => true
  | .mdrain _, .mswap => true
  | .mdrain t, .mdrain k => t == k && !e.performed
  | _, _ => false

/-- The commands accepted before `c` that it waits for have acted. -/
def Unit.mayAct (x : Unit) (c : Cmd) : Bool := (x.earlier c.id).all fun d => !c.actAfter d

/-- The rows of a started MMA can all have entered the array, and the input buffer is free again (R332). -/
def State.entered (s : State) (u : Nat) (x : Unit) (c : Cmd) : Bool :=
  c.state == .started && x.mayAct c && match s.readBox (c.reader u) u x (c.recs.getD 0 0).toNat c.a with
    | .ok _ => true
    | _ => false

/-- TILE_COMMAND_START: the oldest command of the tile or stream engine that has not started starts, and fetches from then on (R206, R331). -/
def execTileCommandStart (u k : Nat) (s : State) : Host.Outcome State Fault Refusal :=
  .next (match s.unit? u with
    | none => s
    | some x => match x.cmd? k with
      | none => s
      | some c =>
        let e := c.op.engine
        let before := (x.earlier k).filter fun d => d.op.engine == e
        if !x.starts || c.state != .queued || !x.unfaulted c || (e != .tile && e != .stream) || before.any (fun d => d.state == .queued || (c.isMma && d.isMma && !s.entered u x d)) then s
        else s.modUnit u (·.modCmd k fun c => { c with state := .started, began := s.nextId }))

/-- Before a plane changes hands or is loaded for command `k`, the drains accepted before it take the column flags of the active plane (R217, R332). -/
def State.takeFlags (s : State) (u k : Nat) : State :=
  let now := (s.core (coreOf u)).mx.active.flagged
  s.modUnit u fun x =>
    let before := (x.earlier k).map (·.id)
    { x with cmds := x.cmds.map fun d => match d.op with
        | .mdrain _ => if before.contains d.id && d.flags.isNone then { d with flags := some now } else d
        | _ => d }

/-! ### Copies (R219, R220, R336, R337) -/

/-- The records of a copy. -/
def Cmd.src (c : Cmd) : Nat := (c.recs.getD 0 0).toNat
/-- Its destination record. -/
def Cmd.dst (c : Cmd) : Nat := (c.recs.getD 1 0).toNat
/-- Address of source element `e`. -/
def Cmd.srcAddr (c : Cmd) (e : Nat) : DWord := recAddr c.src c.a (recCoord c.src e)
/-- Address of destination element `e`. -/
def Cmd.dstAddr (c : Cmd) (e : Nat) : DWord := recAddr c.dst c.b (recCoord c.dst e)

/-- The elements from the first on that are in `done`, without a gap. -/
def prefixOf (done : List Nat) : Nat := ((List.range done.length).takeWhile done.contains).length

/-- A copy's elements that have been written are counted, and its channel's pointer passes those before which none is missing (R220): at once,
with none of the lag R337 allows, DESIGN CHOICE (assumption 116). -/
def Unit.settleCopy (x : Unit) (k : Nat) (settled : Nat → Bool) : Unit :=
  match x.cmd? k with
  | none => x
  | some c =>
    let now := c.sub.filter settled
    let done := c.progress ++ now
    let n := (prefixOf done - prefixOf c.progress) * recSize c.dst
    (x.modCmd k fun c => { c with progress := done, sub := c.sub.filter fun e => !settled e }).advanceChan c.chan n

/-- Element `e` of a copy no longer waits in the coalescer. -/
def State.elementSettled (s : State) (u : Nat) (c : Cmd) (e : Nat) : Bool :=
  !recSeam c.dst || !(s.core (coreOf u)).seamq.any fun q => q.who.u == u && q.who.g == 64 + c.id && q.addr == c.dstAddr e

/-- Element `e + 1` of a copy goes on in the sector of element `e`, above it: the two travel as one request (R319, R336). -/
def Cmd.joined (c : Cmd) (e : Nat) : Bool :=
  let a := (c.dstAddr e).toNat
  let b := (c.dstAddr (e + 1)).toNat
  !recSeam c.dst && decide (e + 1 < recCount c.dst) && a / 32 == b / 32 &&
    (decide (a + recSize c.dst ≤ b) || (recNibbles c.dst == 1 && a == b && (recCoord c.dst e).headD 0 + 1 == (recCoord c.dst (e + 1)).headD 0))

/-- Element `e` begins a request. -/
def Cmd.heads (c : Cmd) (e : Nat) : Bool := decide (e < recCount c.dst) && (e == 0 || !c.joined (e - 1))

/-- Two elements write a byte in common. -/
def Cmd.meetsElem (c : Cmd) (i e : Nat) : Bool :=
  let a := (c.dstAddr i).toNat
  let b := (c.dstAddr e).toNat
  decide (a < b + recSize c.dst ∧ b < a + recSize c.dst)

/-- No earlier element of the copy still has to write a byte that one of `es` writes: one place is written in element order (R219). -/
def Cmd.inOrder (c : Cmd) (es : List Nat) : Bool :=
  (List.range (es.headD 0)).all fun i => c.progress.contains i || c.sub.contains i || es.all fun e => !c.meetsElem i e

/-- The elements a copy writes as one request from `e` on: those of the same sector of the destination that follow (R336). -/
def Cmd.run (c : Cmd) : Nat → Nat → List Nat
  | 0, _ => []
  | f + 1, e =>
    if recCount c.dst ≤ e then [] else e :: (if c.joined e then c.run f (e + 1) else [])

/-- What moving some elements finds. -/
inductive Moved where
  | later
  | fault (c : TrapCode) (a : DWord) (at_ : Nat)
  | ok (ws : List EngWrite)

/-- Reads source elements and places destination elements in turn. -/
def State.moveElems (s : State) (u : Nat) (x : Unit) (c : Cmd) : List Nat → Moved
  | [] => .ok []
  | e :: t => match s.engElem (c.reader u) u x c.src (c.srcAddr e) with
    | .later => .later
    | .fault f => .fault f (c.srcAddr e) e
    | .val v => match s.engDest u x c.dst (c.dstAddr e) v with
      | .later => .later
      | .fault f => .fault f (c.dstAddr e) e
      | .ok ws => match s.moveElems u x c t with
        | .ok r => .ok (ws ++ r)
        | r => r

/-- A copy may write: started, its channel's turn and not stopped. -/
def Unit.copying (x : Unit) (c : Cmd) : Bool := c.op == .tcopy && c.state == .started && !c.bad && x.unfaulted c && x.channelTurn c.id c.chan && !x.stopped c.chan

/-- Elements of a copy are written, and the channel pointer follows. -/
def State.putElems (s : State) (u k : Nat) (c : Cmd) (es : List Nat) (ws : List EngWrite) : State :=
  if s.engReady (coreOf u) ws then
    let t := (s.engWrite u k ws).walkUse (coreOf u) (es.map c.srcAddr ++ es.map c.dstAddr)
    (t.modUnit u (·.modCmd k fun c => { c with sub := c.sub ++ es })).modUnit u (·.settleCopy k (t.elementSettled u c))
  else s

/-- TCOPY_ELEMENT_WRITE: the copy unit writes the request that element `e` begins, the elements from `e` on that lie in one sector, up to one that faults, and the channel pointer follows (R219, R220, R336, R337). -/
def execTcopyElementWrite (u k e : Nat) (s : State) : Host.Outcome State Fault Refusal :=
  .next (match s.unit? u with
    | none => s
    | some x => match x.cmd? k with
      | none => s
      | some c =>
        let es := c.run 64 e
        if !x.copying c || !c.heads e || c.progress.contains e || c.sub.contains e || !c.inOrder es then s
        else
          match s.moveElems u x c es with
          | .ok ws => s.putElems u k c es ws
          | .later => s
          | .fault _ _ i =>
            let es := es.takeWhile (· != i)
            match s.moveElems u x c es with
            | .ok ws => s.putElems u k c es ws
            | _ => s)

/-! ### Streams (R221, R338 to R340) -/

/-- The element a stream queues next. -/
def Cmd.next (c : Cmd) : Nat := c.progress.headD 0

/-- A stream command is the oldest on its queue. -/
def Unit.streamTurn (x : Unit) (c : Cmd) : Bool := (x.earlier c.id).all fun d => d.op != .strm || d.info != c.info

/-- A STRM may fetch: started and oldest on its queue. -/
def Unit.streaming (x : Unit) (c : Cmd) : Bool := c.op == .strm && c.state == .started && !c.bad && x.streamTurn c && decide (c.next < recCount c.src)

/-- The tag of a stream's elements (R207). -/
def Cmd.streamTag (c : Cmd) : Tag := Tag.ofCode (c.c.toNat / 2 ^ 8 % 16)

/-- One element of a stream is queued, or discarded when its gang is not live: the unit as it is then, or none when there is no room (R221, R296). -/
def State.queueElem (s : State) (u : Nat) (x : Unit) (c : Cmd) (a : DWord) (v : Nat) : Option Unit :=
  let key := c.info.toNat
  let g := key / 16
  let step := x.modCmd c.id fun c => { c with progress := [c.next + 1] }
  let live := match mfind x.gangs g with
    | some y => !y.ended
    | none => false
  if !live then some step
  else
    let q := mget {} x.opq key
    let q' : OpQueue := { elems := q.elems ++ [{ r := ⟨BitVec.ofNat 32 v, c.streamTag⟩, addr := some a }] }
    if s.queueRoom (coreOf u) q.entries (x.opqEntries g) (q'.entries - q.entries) x.qlim.operand then
      some { step with opq := mset {} step.opq key q' }
    else none

/-- The elements of one sector a stream fetches: it goes on while they can be read and there is room. -/
def State.fetchElems (s : State) (u k sector : Nat) : Nat → State
  | 0 => s
  | f + 1 => match s.unit? u with
    | none => s
    | some x => match x.cmd? k with
      | none => s
      | some c =>
        let a := recAddr c.src c.a (recCoord c.src c.next)
        if !x.streaming c || a.toNat / 32 != sector then s
        else match s.engRead (c.reader u) u x 0 a 4 with
          | .val v => match s.queueElem u x c a v with
            | some y => (s.modUnit u fun _ => y).fetchElems u k sector f
            | none => s
          | _ => s

/-- STREAM_SECTOR_FETCH: the stream engine fetches again what a fence discarded, and fetches a sector and queues its elements (R221, R338, R339). -/
def execStreamSectorFetch (u k : Nat) (s : State) : Host.Outcome State Fault Refusal :=
  .next (match s.unit? u with
    | none => s
    | some x => match x.cmd? k with
      | none => s.refetch u (·.stale)
      | some c =>
        let a := recAddr c.src c.a (recCoord c.src c.next)
        ((s.refetch u (·.stale)).walkUse (coreOf u) [a]).fetchElems u k (a.toNat / 32) 8)

/-! ### Completion and faults (R208, R209) -/

/-- The first element of a copy that has not been moved. -/
def Cmd.firstLeft (c : Cmd) : Nat := prefixOf (c.progress ++ c.sub)

/-- Runs a started command as far as it decides its end: a copy or a stream ends when nothing is left to move. -/
def State.runCmd (s : State) (u : Nat) (x : Unit) (c : Cmd) : Run :=
  match c.op with
  | .mldw => if x.mayAct c then (s.takeFlags u c.id).runMldw u x c else .later
  | .mswap => if x.mayAct c then .ok ((s.takeFlags u c.id).modMx (coreOf u) fun m => { m with sel := !m.sel }) else .later
  | .mma t => if x.mayAct c && !(x.earlier c.id).any (·.isMma) then s.runMma u x c t else .later
  | .mdrain t =>
    if c.performed then (if s.engSettled u c.id then .ok s else .later)
    else if x.mayAct c then s.runMdrain u x c t else .later
  | .tcopy =>
    if !x.channelTurn c.id c.chan then .later
    else if x.stopped c.chan then .ok s
    else
      let t := s.modUnit u (·.settleCopy c.id (s.elementSettled u c))
      let e := c.firstLeft
      if recCount c.dst ≤ e then (if s.engSettled u c.id then .ok t else .later)
      else match s.moveElems u x c [e] with
        | .fault f a _ => .fault f a t
        | _ => .later
  | .strm =>
    if !x.streamTurn c then .later
    else if recCount c.src ≤ c.next then .ok s
    else
      let a := recAddr c.src c.a (recCoord c.src c.next)
      match s.engRead (c.reader u) u x 0 a 4 with
      | .fault f => .fault f a s
      | _ => .later
  | _ => .later

/-- TILE_COMMAND_COMPLETE: a command has done its work, or was discarded, and makes its arrival when every write of it is performed (R208, R334). -/
def execTileCommandComplete (u k : Nat) (s : State) : Host.Outcome State Fault Refusal :=
  .next (match s.unit? u with
    | none => s
    | some x => match x.cmd? k with
      | none => s
      | some c =>
        if c.state == .done then (if s.engSettled u k then s.finishCmd u c else s)
        else if c.state != .started || c.bad || !x.unfaulted c then s
        else match s.runCmd u x c with
          | .ok t =>
            if t.engSettled u k then t.finishCmd u c
            else t.modUnit u (·.modCmd k fun c => match c.op with
              | .mdrain _ => { c with progress := [1] }
              | _ => c)
          | _ => s)

/-- The matrix-state changes a discarded command makes, with the NaN flags of a fault of its kind; it stops its channel (R209, R213). -/
def State.discard (s : State) (u : Nat) (c : Cmd) : State :=
  let k := coreOf u
  match c.op with
  | .mldw => s.modMx k (·.setShadow { tag := weightTag (recCode (c.recs.getD 0 0).toNat), nan := allFlags })
  | .mswap => s.modMx k fun m => { m with sel := !m.sel }
  | .mma t => s.modMx k fun m => m.setTile t { (m.tile t).pass with nan := allFlags }
  | .mdrain t => if c.performed then s else s.modMx k (·.setTile t drained)
  | .tcopy => s.modUnit u (·.stopChan c.chan)
  | .dread => s.modUnit u (·.stopChan c.chan)
  | _ => s

/-- A command is discarded: it does nothing more, and makes its arrival when the writes it has made are performed (R208, R209). -/
def State.discardCmd (s : State) (u : Nat) (c : Cmd) : State :=
  let t := s.discard u c
  if t.engSettled u c.id then t.finishCmd u c else t.modUnit u (·.modCmd c.id fun d => { d with state := .done })

/-- Command `c` faults: its own part of R209, its arrival, then the discard of every later command of its engine, each with its arrival. The channel of a DREAD
whose completion record faults stops like that of a copy (assumption 92). -/
def State.engineFault (s : State) (u : Nat) (c : Cmd) (code : TrapCode) (a : DWord) : State :=
  let later : List Cmd := match s.unit? u with
    | some x => ((x.cmds.dropWhile fun (d : Cmd) => d.id != c.id).drop 1).filter fun (d : Cmd) => d.op.engine == c.op.engine && !d.performed && d.state != .done
    | none => []
  let s := (s.modUnit u fun x => (x.stopChan c.chan).recordFault code a).finishCmd u c
  later.foldl (fun s d => s.discardCmd u d) s

/-- Earlier matrix commands have acted, so that a fault and the discards after it come in order (R213). -/
def Unit.matrixSettled (x : Unit) (k : Nat) : Bool := (x.earlier k).all fun d => match d.op with
  | .mldw => false
  | .mma _ => false
  | .mswap => false
  | .mdrain _ => d.performed
  | _ => true

/-- ENGINE_FAULT: a started tile or stream command meets a fault and stops there; its arrival waits for the writes it has made (R208, R209, R333, R340). -/
def execEngineFault (u k : Nat) (s : State) : Host.Outcome State Fault Refusal :=
  .next (match s.unit? u with
    | none => s
    | some x => match x.cmd? k with
      | none => s
      | some c =>
        if c.state != .started || !x.unfaulted c || (c.op.engine == .tile && !x.matrixSettled k) then s
        else if c.bad then
          if !s.engSettled u k then s
          else
          let t := match c.op with
            | .tcopy => s.modUnit u (·.settleCopy c.id (s.elementSettled u c))
            | _ => if c.performed then s else s.discard u c
          t.engineFault u c ((TrapCode.ofCode (c.err % 32)).getD .translation) (BitVec.ofNat 64 (c.err / 32))
        else match s.runCmd u x c with
          | .fault f a t =>
            if t.engSettled u k then t.engineFault u c f a
            else t.modUnit u (·.modCmd k fun c =>
              { c with bad := true, err := f.code + 32 * a.toNat, progress := match c.op with
                | .mdrain _ => [1]
                | _ => c.progress })
          | _ => s)

end Sys2Proof.Machine
end

