-- ==== Sys2Proof/Machine/Hub.lean ====
section
/-! DEFINITION. Accesses of the hub, for the near and deep engines and Miryen (R224, R279, R306): reads at the home, completion records, the owners of hub commands. -/

namespace Sys2Proof.Machine

/-! ### Reading and writing at the hub -/

/-- The hub's translation (R306). -/
def State.hubXlate (s : State) (va : DWord) : Walk := s.xlate s.hubTlb 0 va

/-- Caches the translations of some addresses at the hub. -/
def State.hubFill (s : State) (vas : List DWord) : State :=
  vas.foldl (fun t va => match s.hubXlate va with
    | .leaf e => { t with hubTlb := tlbFill t.hubTlb 0 va e }
    | _ => t) s

/-- Where a byte lies for the hub: never on a seam page, never in the peer-window region (R224, R301). -/
def State.hubPlace (s : State) (va : DWord) (write : Bool) : EngPlace :=
  if s.inPeerRegion va then .fault .protection
  else match s.hubXlate va with
    | .invalid => .fault .translation
    | .touch _ => .later
    | .leaf e =>
      if pteS e || !(if write then pteW e else pteR e) then .fault .protection
      else
        let pa := s.phys e va
        if pteKind e != 0 then .at (.host pa) false
        else if s.backed pa then .at (.dev pa) (ptePm e)
        else .fault .protection

/-- One byte at its home. -/
def State.homeByte (s : State) : Loc → EngRead
  | .dev pa => if s.held (sectorOf pa) then .later else if s.poisoned pa then .fault .poisonedData else .val (s.mem.read pa).toNat
  | .host a => if s.linkPoisoned a then .fault .poisonedData else .val (s.hostMem.read a).toNat
  | _ => .later

/-- `n` bytes from a virtual address, read at the home. -/
def State.hubRead (s : State) (va : DWord) (n : Nat) : EngRead :=
  engJoin ((List.range n).map fun k => match s.hubPlace (va + BitVec.ofNat 64 k) false with
    | .at l _ => s.homeByte l
    | .later => .later
    | .fault c => .fault c)

/-- Writes bytes at a place: memory of the device is reached past the layer caches (R250). -/
def State.hubStore (s : State) (l : Loc) (bs : List Byte) (pm : Bool) : State :=
  match l with
  | .dev pa => s.outsideWrite (bytesAt pa bs) pm
  | .host a => { s with hostMem := s.hostMem.writeAll (bytesAt a bs) }
  | _ => s

/-- A place the hub can write now: nothing holds its sector (R342). -/
def State.hubFree (s : State) (l : Loc) : Bool := match l with
  | .dev pa => !s.held (sectorOf pa)
  | _ => true

/-- The hub can read and write `n` bytes from a virtual address now: nothing holds a sector they touch (R342). -/
def State.hubOpen (s : State) (va : DWord) (n : Nat) : Bool :=
  (s.pch.isEmpty && s.hub.all (·.op != .nmc)) ||
    (List.range (n / 32 + 2)).all fun k => match s.hubPlace (va + BitVec.ofNat 64 (min (32 * k) (n - 1))) true with
      | .at l _ => s.hubFree l
      | _ => true

/-- Writes bytes from a virtual address, each where it lies; a byte with no place is dropped. -/
def State.hubWriteAll (s : State) (va : DWord) (bs : List Byte) : State :=
  let at_ := bs.mapIdx fun k b => (s.hubPlace (va + BitVec.ofNat 64 k) true, b)
  let dev := at_.foldl (fun (m : SMap Byte) p => match p.1 with
    | .at (.dev pa) _ => mput m pa p.2
    | _ => m) []
  let host := at_.foldl (fun (m : SMap Byte) p => match p.1 with
    | .at (.host a) _ => mput m a p.2
    | _ => m) []
  let t := s.outsideWrite dev false
  { t with hostMem := t.hostMem.writeAll host }

/-! ### Owners -/

/-- The live unit of an owner. -/
def HubOwner.unit? (o : HubOwner) : Option Nat := match o with
  | .unit u => some u
  | _ => none

/-- The save area of an owner that is off the core. -/
def State.areaOf (s : State) (o : HubOwner) : Option DWord := match o with
  | .area i => (s.saved.find? fun v => v.id == i).map (·.area)
  | _ => none

/-- A save area can be read and written now, the header's `size` long (R327, R342). -/
def State.areaOpen (s : State) (a : DWord) : Bool :=
  s.hubOpen a 4096 && s.hubOpen a (match s.hubRead (a + 0x40) 4 with
    | .val v => v
    | _ => 0)

/-- What is written for an owner can be written now: into its save area, or live. -/
def State.ownerOpen (s : State) (o : HubOwner) : Bool := (s.areaOf o).all s.areaOpen

/-- Offset of the scratchpad section in a save area (R327). -/
def State.scrOff (s : State) (area : DWord) : Nat := match s.hubRead (area + 0x40) 64 with
  | .val v => v / 2 ^ 128 % 2 ^ 32
  | _ => 0

/-- A copy channel of an owner (R220), in the save area while the unit is off the core (R323, R327). -/
def State.ownerChan (s : State) (o : HubOwner) (ch : Nat) : Chan :=
  match o.unit?, s.areaOf o with
  | some u, _ => match s.unit? u with
    | some x => mget {} x.chans ch
    | none => {}
  | none, some a => match s.hubRead (a + BitVec.ofNat 64 (0x180 + 8 * ch)) 8 with
    | .val v => ⟨v % 2 ^ 63, decide (2 ^ 63 ≤ v)⟩
    | _ => {}
  | none, none => {}

/-- Replaces it. -/
def State.setOwnerChan (s : State) (o : HubOwner) (ch : Nat) (c : Chan) : State :=
  match o.unit?, s.areaOf o with
  | some u, _ => s.modUnit u fun x => { x with chans := mset {} x.chans ch c }
  | none, some a => s.hubWriteAll (a + BitVec.ofNat 64 (0x180 + 8 * ch)) (leBytes 8 (c.ptr % 2 ^ 63 + if c.stopped then 2 ^ 63 else 0))
  | none, none => s

/-- An engine arrival at a barrier object of an owner: live, or in its save area (R201, R204). -/
def State.ownerArrive (s : State) (o : HubOwner) (obj : Option Nat) (n : Nat) : State :=
  match o.unit?, s.areaOf o, obj with
  | some u, _, _ => s.arrive u obj n
  | none, some a, some off =>
    let at_ := a + BitVec.ofNat 64 (s.scrOff a + off)
    match s.hubRead at_ 16 with
    | .val v => s.hubWriteAll at_ (leBytes 16 ((barObj v).deliver n).value)
    | _ => s
  | _, _, _ => s

/-- Bytes written into the scratchpad of an owner, or into the scratchpad section of its save area; nothing of a unit that is gone. -/
def State.ownerSpad (s : State) (o : HubOwner) (off : Nat) (bs : List Byte) : State :=
  match o.unit?, s.areaOf o with
  | some u, _ => match s.unit? u with
    | some x => bs.zipIdx.foldl (fun s p => s.spadWrite (coreOf u) (x.bind.spbase + off + p.2) 1 p.1.toNat) s
    | none => s
  | none, some a => s.hubWriteAll (a + BitVec.ofNat 64 (s.scrOff a + off)) bs
  | none, none => s

/-! ### Hub commands -/

/-- A hub command. -/
def State.hub? (s : State) (k : Nat) : Option HubCmd := s.hub.find? fun h => h.id == k

/-- Replaces a hub command. -/
def State.putHub (s : State) (h : HubCmd) : State := { s with hub := s.hub.map fun g => if g.id = h.id then h else g }

/-- The operation's queued command as the hub sees it: of a unit, the oldest of its engine that has not started (R206), or of a node (R282). -/
def State.hubQueued (s : State) (k : Nat) : Option HubCmd :=
  match s.hub? k with
  | some h => if h.queued then some h else none
  | none =>
    match s.units.find? fun p => (p.2.cmd? k).isSome with
    | none => none
    | some (u, x) => match x.cmd? k with
      | none => none
      | some c =>
        if x.starts && c.state == .queued && (c.op.engine == .near || c.op.engine == .deep) &&
            ((x.earlier k).all fun d => d.op.engine != c.op.engine || d.state != .queued) then
          some { id := k, op := c.op, owner := .unit u, launch := some x.launch, core := coreOf u, a := c.a, b := c.b, c := c.c, queued := true }
        else none

/-- The command has started: its record has been read, it stands at the hub, and the unit's queue entry is free. -/
def State.hubStart (s : State) (h : HubCmd) : State :=
  let t : State := { s.reachBy s.hubXlate [h.a] with hub := (s.hub.filter fun g => g.id != h.id) ++ [{ h with queued := false }] }
  match h.owner with
  | .unit u => t.modUnit u (·.modCmd h.id fun c => { c with state := .started })
  | _ => t

/-- A node's request has ended with a status or, in place of one, a trap code (R282). -/
def State.nodeDone (s : State) (o : HubOwner) (code : Nat) : State :=
  match o with
  | .node j k => { s with jobs := mmodify s.jobs j fun b => { b with nodes := b.nodes.modify k fun n => { n with live := 0, code := code } } }
  | _ => s

/-- The command leaves the hub and its unit. -/
def State.hubDrop (s : State) (h : HubCmd) : State :=
  let t : State := { s with hub := s.hub.filter fun g => g.id != h.id }
  match h.owner with
  | .unit u => t.modUnit u (·.dropCmd h.id)
  | .area i => { t with saved := t.saved.map fun v => if v.id = i then { v with cmds := v.cmds.filter fun c => c.id != h.id } else v }
  | _ => t

/-- Fields of a completion record (R224). -/
structure Crec where
  status : Nat
  count : Nat := 0
  addr : Nat := 0
  fail : Nat := 0
  rep : Nat := 0

/-- Its 32 bytes, `done` set. -/
def Crec.bytes (c : Crec) : List Byte :=
  leBytes 32 (c.addr % 2 ^ 64 + c.count % 2 ^ 32 * 2 ^ 64 + c.status * 2 ^ 112 + 2 ^ 127 + c.fail * 2 ^ 128 + c.rep * 2 ^ 192)

/-- `pm` of the page of a completion record: it is written as one whole sector (R319). -/
def State.crecPm (s : State) (h : HubCmd) : Bool := match s.hubPlace h.b true with
  | .at _ pm => pm
  | _ => false

/-- The reads a hub command makes: their path and whose they are (R382). -/
def HubCmd.reader (h : HubCmd) : Reader :=
  { path := if h.op = .nmc then 3 else 4
    unit := match h.owner with
      | .unit u => u
      | .area i => areaReader i
      | _ => nodeReader
    id := h.id }

/-- Bytes of device memory that a hub command is about to write are remembered, and carry what its unit has observed (R257, R266, assumption 85); a node's request is
ordered by the release of its node (R284). -/
def State.noteHub (s : State) (h : HubCmd) (bytes : SMap Byte) : State := match h.owner with
  | .unit u => (s.note h.reader.path 0 u (some h.id) (s.oldDev bytes)).stampDev (layerOf h.core) bytes
  | .area _ => s.stampDev (layerOf h.core) bytes
  | _ => s

/-- The same at a place. -/
def State.noteAt (s : State) (h : HubCmd) (l : Loc) (bs : List Byte) : State := match l, h.owner with
  | .dev pa, _ => s.noteHub h (bytesAt pa bs)
  | .host a, .unit u => (s.note h.reader.path 1 u (some h.id) (s.oldHost (bytesAt a bs))).stampHost (layerOf h.core) (bytesAt a bs)
  | .host a, .area _ => s.stampHost (layerOf h.core) (bytesAt a bs)
  | _, _ => s

/-- A command ends: its completion record is written, `done` with it, then its arrival of `n` bytes is made (R208, R224). -/
def State.hubFinish (s : State) (h : HubCmd) (c : Crec) (n : Nat) : State :=
  ((((s.noteAt h h.crec c.bytes).hubStore h.crec c.bytes (s.crecPm h)).ownerArrive h.owner (ctrlObj h.c) n).nodeDone h.owner c.status).hubDrop h

/-- The completion record address faults: no data moves, no record, the arrival of no bytes is made, and the engine's later commands of the unit
are discarded (R209, R224). A deep node, which no unit issued, fails with the trap's code: DESIGN CHOICE (assumption 112). -/
def State.hubCrecFault (s : State) (h : HubCmd) (code : TrapCode) : State :=
  match h.owner with
  | .unit u => match s.unit? u with
    | some x => match x.cmd? h.id with
      | some c => s.engineFault u c code h.b
      | none => s
    | none => s
  | _ => (s.nodeDone h.owner code.code).hubDrop h

/-- Status of a request record that cannot be read (R224). -/
def readStatus : TrapCode → Nat
  | .translation => 2
  | .poisonedData => 1
  | _ => 3

/-- Steps every near and deep command begins with (R224): the place of the completion record, then the request record in device memory. -/
inductive HubHead where
  | later
  | crecFault (c : TrapCode)
  | status (l : Loc) (st : Nat)
  | ok (l : Loc) (req : Nat)

/-- A request record as its command's read finds it: each aligned 8-byte field old or new, where no fence orders it (R382). -/
def State.hubRequest (s : State) (h : HubCmd) (pa v : Nat) : Nat :=
  leValue ((List.range 4).flatMap fun k => leBytes 8 (s.view h.reader (.dev (pa + 8 * k)) 8 (v / 2 ^ (64 * k) % 2 ^ 64)))

/-- No store of its layer to these sectors is on its way home: what a fence has put before the command is there (R197). -/
def State.hubSettled (s : State) (h : HubCmd) (secs : List Nat) : Bool :=
  !(s.layer (layerOf h.core)).out.any fun w => w.bytes.any fun b => secs.contains (sectorOf b.1)

/-- The completion record can be written now. -/
def State.crecFree (s : State) (h : HubCmd) (l : Loc) : Bool := s.hubFree l && match l with
  | .dev pa => s.hubSettled h [sectorOf pa]
  | _ => true

/-- R224. Of a deep node (R282) too: no stream has checked that its addresses are multiples of 32, and the hub does not, DESIGN CHOICE (assumption 113). -/
def State.hubHead (s : State) (h : HubCmd) : HubHead :=
  match s.hubPlace h.b true with
  | .later => .later
  | .fault c => .crecFault c
  | .at l _ =>
    if !s.crecFree h l then .later
    else match s.hubPlace h.a false with
      | .later => .later
      | .fault c => .status l (readStatus c)
      | .at (.dev pa) _ => if !s.hubSettled h [sectorOf pa] then .later else match s.hubRead h.a 32 with
        | .val v => .ok l (s.hubRequest h pa v)
        | .later => .later
        | .fault c => .status l (readStatus c)
      | .at _ _ => .status l 3

/-- A command discarded by a cancel ends with status 5 once its completion record can be written; it waits at the hub until then (R234, R309, R342). -/
def State.hubCancel (s : State) (h : HubCmd) : State :=
  let kept : State := { s with hub := s.hub ++ [{ h with owner := .gone, queued := true, fin := some 5 }] }
  match s.hubPlace h.b true with
  | .at l pm => if s.hubFree l then s.hubStore l (Crec.bytes { status := 5 }) pm else kept
  | .later => kept
  | .fault _ => s

/-- The completion record of a cancelled command is written when it can be. -/
def State.hubLast (s : State) (h : HubCmd) (st : Nat) : State :=
  match s.hubPlace h.b true with
  | .at l _ => if s.hubFree l then s.hubFinish { h with crec := l } { status := st } 0 else s
  | .later => s
  | .fault _ => s.hubDrop h

/-! ### Ranges -/

/-- What translating the pages of a range finds: physical bases by page number, or a status. -/
inductive RangeXlate where
  | later
  | status (st : Nat)
  | ok (tr : SMap Nat)

/-- Translates the 64 KiB pages that `n` bytes from `va` touch, `good` saying which leaves at which place are allowed, `host` whether host memory is;
a page that is being migrated is waited for (R321). -/
def State.hubRange (s : State) (va n : Nat) (good : DWord → Nat → Bool) (host : Bool := false) : RangeXlate :=
  (List.range ((va + n - 1) / 65536 + 1 - va / 65536)).foldl (fun r i => match r with
    | .ok tr =>
      let p := va / 65536 + i
      let a := BitVec.ofNat 64 (p * 65536)
      if 2 ^ 52 ≤ p * 65536 then .status 2
      else if s.inPeerRegion a then .status 3
      else match s.hubXlate a with
        | .invalid => .status 2
        | .touch _ => .later
        | .leaf e =>
          let pa := leafAddr e a
          if host && !pteS e && pteKind e != 0 then (if good e pa then .ok (mput tr p (pa + 2)) else .status 3)
          else if s.mig.busy && decide (s.mig.src < pa + 65536 ∧ pa < s.mig.src + s.mig.bytes) then .later
          else if pteS e || pteKind e != 0 || !s.backed pa || !s.backed (pa + 65535) || !good e pa then .status 3
          else .ok (mput tr p (pa + if ptePm e then 1 else 0))
    | r => r) (.ok [])

/-- The physical place of an address in translated pages, and whether its page has `pm`. -/
def trPlace (tr : SMap Nat) (va : Nat) : Option (Nat × Bool) :=
  (mfind tr (va / 65536)).map fun b => (b / 65536 * 65536 + va % 65536, b % 2 == 1)

/-- The address lies in host memory. -/
def trHost (tr : SMap Nat) (va : Nat) : Bool := match mfind tr (va / 65536) with
  | some b => b / 2 % 2 == 1
  | none => false

end Sys2Proof.Machine
end

