-- ==== Sys2Proof/Machine/Near.lean ====
section
/-! DEFINITION. Near-memory commands (R222 to R224, R341 to R344): NMC_START, NMC_SUBCOMMAND_COMPLETE. -/

namespace Sys2Proof.Machine

/-- Fields of an NMC record (R222). -/
def nmcY (v : Nat) : Nat := recField v 0 64
/-- `x`. -/
def nmcX (v : Nat) : Nat := recField v 64 64
/-- `a`. -/
def nmcA (v : Nat) : Nat := recField v 128 32
/-- `b`. -/
def nmcB (v : Nat) : Nat := recField v 160 32
/-- `n`. -/
def nmcN (v : Nat) : Nat := recField v 192 32
/-- `kind`: 0 SCALE_ADD, 1 FILL, 2 SCALE. -/
def nmcKind (v : Nat) : Nat := recField v 224 4

/-- A record in error (R222). An `x` that is a multiple of 32 in a record of FILL or SCALE is not looked at: DESIGN CHOICE (assumption 111). -/
def nmcErr (v : Nat) : Bool :=
  recField v 228 28 != 0 || decide (3 ≤ nmcKind v) || nmcN v == 0 || decide (2 ^ 24 < nmcN v) || nmcY v % 32 != 0 || nmcX v % 32 != 0

/-- HBM4E owned by the presented device (R341). -/
def State.ownHbm (s : State) (pa : Nat) : Bool := s.isHbm pa && s.owned pa

/-- A device address lies in one of some ranges of virtual bytes (start, length), by translated pages. -/
def inRanges (tr : SMap Nat) (rs : List (Nat × Nat)) (pa : Nat) : Bool :=
  tr.any fun p =>
    let b := p.2 / 65536 * 65536
    decide (b ≤ pa ∧ pa < b + 65536) && rs.any fun r => decide (r.1 ≤ p.1 * 65536 + (pa - b) ∧ p.1 * 65536 + (pa - b) < r.1 + r.2)

/-- The ranges of a command. -/
def nmcRanges (v : Nat) : List (Nat × Nat) :=
  (nmcY v, 32 * nmcN v) :: (if nmcKind v = 0 then [(nmcX v, 32 * nmcN v)] else [])

/-- The translated pages of both ranges, or the status (R223 step 2). -/
def State.nmcXlate (s : State) (v : Nat) : RangeXlate :=
  match s.hubRange (nmcY v) (32 * nmcN v) fun e pa => pteW e && (nmcKind v == 1 || pteR e) && s.ownHbm pa && s.ownHbm (pa + 65535) with
  | .ok ty =>
    if nmcKind v = 0 then match s.hubRange (nmcX v) (32 * nmcN v) fun e pa => pteR e && s.ownHbm pa && s.ownHbm (pa + 65535) with
      | .ok tx => .ok (tx.foldl (fun m p => mput m p.1 p.2) ty)
      | r => r
    else .ok ty
  | r => r

/-- Step 3 of R223 is done: no write of a layer to the ranges is on its way to its home. -/
def State.linesWritten (s : State) (tr : SMap Nat) (rs : List (Nat × Nat)) : Bool :=
  s.layers.all fun l => l.2.out.all fun w => w.bytes.all fun p => !inRanges tr rs p.1

/-- The layers' copies of the ranges are invalidated. -/
def State.dropLines (s : State) (tr : SMap Nat) (rs : List (Nat × Nat)) : State :=
  { s with layers := s.layers.map fun l => (l.1, { l.2 with copies := l.2.copies.filter fun p => !inRanges tr rs (32 * p.1) }) }

/-- 256-byte units of y (R341). -/
def nmcUnits (v : Nat) : Nat := (nmcY v + 32 * nmcN v - 1) / 256 + 1 - nmcY v / 256

/-- NMC_START: the near engine reads and checks the record, translates, and holds the ranges at their homes (R222 to R224, R341, R342). -/
def execNmcStart (k : Nat) (s : State) : Host.Outcome State Fault Refusal :=
  .next (match s.hubQueued k with
    | none => s
    | some h =>
      if h.op != .nmc then s
      else match h.fin with
      | some st => s.hubLast h st
      | none => match s.hubHead h with
        | .later => s
        | .crecFault c => s.hubCrecFault h c
        | .status l st => s.hubFinish { h with crec := l } { status := st } 0
        | .ok l v =>
          let g : HubCmd := { h with crec := l, req := v }
          if nmcErr v then s.hubFinish g { status := 1 } 0
          else match s.nmcXlate v with
            | .later => s
            | .status st => s.hubFinish g { status := st } (32 * nmcN v)
            | .ok tr =>
              if s.linesWritten tr (nmcRanges v) then
                ((s.hubFill [h.a, h.b]).dropLines tr (nmcRanges v)).hubStart { g with tr := tr, left := List.range (nmcUnits v) }
              else s)

/-- An element's new value (R223). -/
def nmcElem (kind a b y x : Nat) : Nat :=
  let va := fmtF32.value a
  let vb := fmtF32.value b
  match kind with
  | 0 => roundF32 (exactAdd 0 (exactMul va (fmtF32.value y)).1 (exactMul vb (fmtF32.value x)).1).1
  | 1 => a
  | _ => roundF32 (exactMul va (fmtF32.value y)).1

/-- Addresses of the sectors of y in a unit. -/
def HubCmd.unitVas (h : HubCmd) (sub : Nat) : List Nat :=
  ((List.range 8).map fun i => (nmcY h.req / 256 + sub) * 256 + 32 * i).filter fun a =>
    decide (nmcY h.req ≤ a ∧ a < nmcY h.req + 32 * nmcN h.req)

/-- The place of an address of the command. -/
def HubCmd.place (h : HubCmd) (va : Nat) : Nat := ((trPlace h.tr va).getD (0, false)).1

/-- The new bytes of a sector at `va` of y; `s` is the state before the sub-command, `now` memory with its updates so far. An element whose x another element
of the command updates reads the old or the new value (R223, assumption 22); x is read on the near path (R266), y in the home order of its location. -/
def HubCmd.sector (h : HubCmd) (s : State) (now : Memory) (va : Nat) : List Byte :=
  let v := h.req
  let old := s.mem
  let py := h.place va
  let px := h.place (nmcX v + (va - nmcY v))
  (List.range 8).flatMap fun i =>
    let e := (va - nmcY v) / 4 + i
    let x := if px ≠ py ∧ Config.overlapReadsNew h.id e then now.readNat (px + 4 * i) 4
      else if px = py then old.readNat (px + 4 * i) 4
      else s.view h.reader (.dev (px + 4 * i)) 4 (old.readNat (px + 4 * i) 4)
    leBytes 4 (nmcElem (nmcKind v) (nmcA v) (nmcB v) (old.readNat (py + 4 * i) 4) x)

/-- A sector that is skipped: an uncorrectable error in the y or x data it reads, found now or marked before (R223, R344); FILL reads none. -/
def State.nmcBad (s : State) (h : HubCmd) (va : Nat) (badY badX : List Nat) : Bool :=
  let j := (va - nmcY h.req) / 32
  nmcKind h.req != 1 && (s.poisoned (h.place va) || badY.contains j ||
    (nmcKind h.req == 0 && (badX.contains j || s.poisoned (h.place (nmcX h.req + (va - nmcY h.req))))))

/-- Whether an uncorrectable error is found in the x data of a sector (R344). -/
def HubCmd.badSource (h : HubCmd) (va : Nat) (badX : List Nat) : Bool := nmcKind h.req == 0 && badX.contains ((va - nmcY h.req) / 32)

/-- Marks a sector poisoned; the layers keep no copy of it (R318). -/
def State.poisonSector (s : State) (sec : Nat) : State :=
  let t : State := { s with layers := s.layers.map fun l => (l.1, { l.2 with copies := merase l.2.copies sec }) }
  if t.poison.contains sec then t else { t with poison := sec :: t.poison }

/-- A sub-command waits for the exit of a pseudo-channel it reaches (R352). -/
def HubCmd.asleep (h : HubCmd) (s : State) (sub : Nat) : Bool :=
  (h.unitVas sub).any fun a => s.asleep (h.place a) || (nmcKind h.req == 0 && s.asleep (h.place (nmcX h.req + (a - nmcY h.req))))

/-- NMC_SUBCOMMAND_COMPLETE: a base die updates the 256-byte unit `sub` of y; `badY`, `badX` are the sectors of the range whose data it finds
uncorrectable. A whole sector is written, so that one of a page with `pm` loses its poison (R319). The last one writes the completion record (R223, R224, R341 to R344). -/
def execNmcSubcommandComplete (k sub : Nat) (badY badX : List Nat) (s : State) : Host.Outcome State Fault Refusal :=
  .next (match s.hub? k with
    | none => s
    | some h =>
      let mine := h.unitSectors sub
      let older := s.hub.any fun g => g.op == .nmc && decide (g.id < k) && g.owner == h.owner &&
        g.left.any fun i => (g.unitSectors i).any mine.contains
      if h.op != .nmc || h.queued || !h.left.contains sub || older || h.asleep s sub then s
      else
        let vas := if nmcY h.req < nmcX h.req then (h.unitVas sub).reverse else h.unitVas sub
        let bad := vas.filter fun a => s.nmcBad h a badY badX
        let t := vas.foldl (fun t a =>
          let t := if h.badSource a badX then t.poisonSector (sectorOf (h.place (nmcX h.req + (a - nmcY h.req)))) else t
          let t := t.reach (h.place a)
          let t := if nmcKind h.req = 0 then t.reach (h.place (nmcX h.req + (a - nmcY h.req))) else t
          if bad.contains a then t.poisonSector (sectorOf (h.place a))
          else
            let b := bytesAt (h.place a) (h.sector s t.mem a)
            (t.noteHub h b).outsideWrite b ((trPlace h.tr a).getD (0, false)).2) s
        let g : HubCmd := { h with left := h.left.filter (· != sub), failed := h.failed ++ bad }
        if !g.left.isEmpty then t.putHub g
        else if !(s.putHub g).crecFree h h.crec then s
        else (t.putHub g).hubFinish g { status := if g.failed.isEmpty then 0 else 4, count := g.failed.length, addr := g.failed.min?.getD 0 } (32 * nmcN h.req))

end Sys2Proof.Machine
end

