-- ==== Sys2Proof/Machine/Deep.lean ====
section
/-! DEFINITION. The deep tier (R225 to R227, R345 to R350): CRC-32C, flash pages, DREAD, DAPPEND and its log. -/

namespace Sys2Proof.Machine

/-! ### CRC-32C (R345) -/

/-- One bit of the reflected Castagnoli polynomial. -/
def crcBit (c : Word) : Word := if c.getLsbD 0 then (c >>> 1) ^^^ 0x82F63B78 else c >>> 1

/-- One byte. -/
def crcByte (c : Word) (b : Byte) : Word :=
  crcBit (crcBit (crcBit (crcBit (crcBit (crcBit (crcBit (crcBit (c ^^^ b.setWidth 32))))))))

/-- CRC-32C of some bytes. -/
def crc32c (bs : List Byte) : Word := bs.foldl crcByte 0xFFFFFFFF ^^^ 0xFFFFFFFF

/-- Bytes of a page. -/
def FlashPage.bytes (p : FlashPage) : List Byte := (List.range 4096).map fun k => mget 0 p.data k

/-- The CRC a page of flash index `i` has (R345). -/
def pageCrc (bs : List Byte) (i : Nat) : Word := crc32c (bs ++ leBytes 8 i)

/-- A page as it is stored for index `i`. -/
def newPage (bs : List Byte) (i : Nat) : FlashPage :=
  { data := (bytesAt 0 bs).foldl (fun m p => mset 0 m p.1 p.2) [], crc := pageCrc bs i }

/-! ### Requests (R225) -/

/-- `mem`. -/
def deepMem (v : Nat) : Nat := recField v 0 64
/-- `page`. -/
def deepPage (v : Nat) : Nat := recField v 64 40
/-- `replica`. -/
def deepReplica (v : Nat) : Nat := recField v 104 40
/-- `count`. -/
def deepCount (v : Nat) : Nat := recField v 144 16
/-- `space`: own scratchpad. -/
def deepSpad (v : Nat) : Bool := recField v 160 1 == 1
/-- `rep`. -/
def deepRep (v : Nat) : Bool := recField v 161 1 == 1
/-- `chk`. -/
def deepChk (v : Nat) : Bool := recField v 162 1 == 1
/-- `sidx`. -/
def deepSidx (v : Nat) : Nat := recField v 176 12

/-- A request in error (R225). -/
def State.deepErr (s : State) (append : Bool) (v : Nat) : Bool :=
  recField v 163 13 != 0 || recField v 188 68 != 0 || deepCount v == 0 || deepMem v % 4096 != 0 ||
    (append && (deepPage v != 0 || deepReplica v != 0 || deepChk v || deepSidx v != 0)) ||
    (deepChk v && (decide (s.ctx.seamlen ≤ deepSidx v) || match s.seamRec (deepSidx v) with
      | some r => 4096 % r.bytes != 0
      | none => true))

/-- A run of indices lies in the context's range. -/
def State.deepRange (s : State) (first n : Nat) : Bool := decide (s.ctx.dfirst ≤ first ∧ first + n ≤ s.ctx.dfirst + s.ctx.dcount)

/-- The unit's scratchpad area, when the request names it and the unit is live: its declared size. -/
def State.ownerScratch (s : State) (o : HubOwner) : Nat := match o.unit? with
  | some u => match s.unit? u with
    | some x => x.kte.scratch
    | none => 0
  | none => 0

/-- Pages of the request's memory, or the status (R224, R226); a source may lie in host memory. -/
def State.deepXlate (s : State) (h : HubCmd) (v : Nat) (write : Bool) : RangeXlate :=
  let n := 4096 * deepCount v
  if deepSpad v then (if deepMem v + n ≤ s.ownerScratch h.owner then .ok [] else .status 3)
  else s.hubRange (deepMem v) n (fun e _ => if write then pteW e else pteR e) (!write)

/-! ### DREAD (R226, R346, R347) -/

/-- The channel of a unit's command. -/
def State.deepTurn (s : State) (h : HubCmd) : Bool := match h.owner with
  | .unit u => match s.unit? u with
    | some x => x.channelTurn h.id (ctrlChan h.c)
    | none => true
  | _ => true

/-- Its channel has stopped. -/
def State.deepStopped (s : State) (h : HubCmd) : Bool := match ctrlChan h.c with
  | some n => (s.ownerChan h.owner n).stopped
  | none => false

/-- DREAD_START: the deep engine takes a DREAD, checks it and translates its destination (R224 to R226). The spec gives no order among the statuses: the index
range is tested before the translation of `mem`, and a stopped channel last (assumption 93). -/
def execDreadStart (k : Nat) (s : State) : Host.Outcome State Fault Refusal :=
  .next (match s.hubQueued k with
    | none => s
    | some h =>
      if h.op != .dread || !s.deepTurn h then s
      else match h.fin with
      | some st => s.hubLast h st
      | none => match s.hubHead h with
        | .later => s
        | .crecFault c => s.hubCrecFault h c
        | .status l st => s.hubFinish { h with crec := l } { status := st } 0
        | .ok l v =>
          let g : HubCmd := { h with crec := l, req := v }
          let n := 4096 * deepCount v
          if s.deepErr false v then s.hubFinish g { status := 1 } 0
          else if !s.deepRange (deepPage v) (deepCount v) || (deepRep v && !s.deepRange (deepReplica v) (deepCount v)) then
            s.hubFinish g { status := 3 } n
          else match s.deepXlate h v true with
            | .later => s
            | .status st => s.hubFinish g { status := st } n
            | .ok tr =>
              if s.deepStopped h then s.hubFinish g { status := 7 } n
              else (s.hubFill [h.a, h.b]).hubStart { g with tr := tr, left := List.range (deepCount v) })

/-- The blocks of a page decode (R121, R226). -/
def State.blocksOk (s : State) (sidx : Nat) (bs : List Byte) : Bool := match s.seamRec sidx with
  | none => false
  | some r => (List.range (4096 / r.bytes)).all fun j =>
      (decodeBlock r.d r.rate r.fin (leValue ((bs.drop (j * r.bytes)).take r.bytes))).isSome

/-- A fetch of flash index `i`: its bytes when it passes. An index that holds nothing reads as zeros and passes (R226, R345, R347). -/
def State.flashFetch (s : State) (v i : Nat) (ok : Bool) : Option (List Byte) :=
  match mfind s.flash i with
  | none => some (List.replicate 4096 0)
  | some p =>
    let bs := p.bytes
    if p.blank then some bs
    else if ok && p.crc == pageCrc bs i && (!deepChk v || s.blocksOk (deepSidx v) bs) then some bs else none

/-- The sectors of a page of the destination, by their places, with the `pm` of their page. -/
def HubCmd.pageSectors (h : HubCmd) (page : Nat) : List (Nat × Bool) :=
  (List.range 128).filterMap fun j => trPlace h.tr (deepMem h.req + 4096 * page + 32 * j)

/-- A page of memory can be written, or read as a source: nothing holds its sectors, and what a fence has put before the command is at home (R197, R342). -/
def State.pageClear (s : State) (h : HubCmd) (page : Nat) : Bool :=
  trHost h.tr (deepMem h.req + 4096 * page) || (let secs := (h.pageSectors page).map fun p => sectorOf p.1
    secs.all (fun sec => !s.held sec) && s.hubSettled h secs)

/-- Bytes of its owner's scratchpad that a DREAD is about to write are remembered (R266, assumption 85). -/
def State.noteSpad (s : State) (h : HubCmd) (off : Nat) (bs : List Byte) : State := match h.owner with
  | .unit u => match s.unit? u with
    | some x => s.note 4 (2 + coreOf u) u (some h.id) (s.oldSpad (coreOf u) (bytesAt (x.bind.spbase + off) bs))
    | none => s
  | _ => s

/-- A page that passed is written (R226). -/
def State.deepWrite (s : State) (h : HubCmd) (page : Nat) (bs : List Byte) : State :=
  if deepSpad h.req then (s.noteSpad h (deepMem h.req + 4096 * page) bs).ownerSpad h.owner (deepMem h.req + 4096 * page) bs
  else
    let sector := fun (p : (Nat × Bool) × Nat) => bytesAt p.1.1 ((bs.drop (32 * p.2)).take 32)
    let ps := (h.pageSectors page).zipIdx
    ps.foldl (fun s p => s.outsideWrite (sector p) p.1.2) (s.noteHub h ((ps.flatMap sector).foldl (fun m p => mput m p.1 p.2) []))

/-- A page that failed (R226): poisoned in memory; in a scratchpad old bytes or those of a failed fetch (assumption 21). -/
def State.deepPoison (s : State) (h : HubCmd) (page : Nat) : State :=
  if deepSpad h.req then
    (List.range 4096).foldl (fun s k => match Config.failedPageByte h.id page k with
      | some b => s.ownerSpad h.owner (deepMem h.req + 4096 * page + k) [b]
      | none => s) s
  else (h.pageSectors page).foldl (fun s p => s.poisonSector (sectorOf p.1)) s

/-- The channel of a DREAD after a page has ended: it passes pages in order and stops at the first failed one (R220, R226). -/
def State.deepChannel (s : State) (h g : HubCmd) : State := match ctrlChan h.c with
  | none => s
  | some n =>
    let c := s.ownerChan h.owner n
    if c.stopped then s
    else
      let p := prefixOf g.done
      s.setOwnerChan h.owner n { ptr := c.ptr + 4096 * (p - prefixOf h.done), stopped := g.failed.contains p }

/-- DEEP_PAGE_FETCH_COMPLETE: a fetch of page `page` ends; `ok`: the flash read met no error of its own (R226, R345 to R347). -/
def execDeepPageFetchComplete (k page : Nat) (ok : Bool) (s : State) : Host.Outcome State Fault Refusal :=
  .next (match s.hub? k with
    | none => s
    | some h =>
      let v := h.req
      if h.op != .dread || h.queued || !h.left.contains page || !s.pageClear h page || !s.ownerOpen h.owner then s
      else
        let tries := mget 0 h.tries page
        let idx := if tries < 2 then deepPage v + page else deepReplica v + page
        let rest := h.left.filter (· != page)
        let r : Option (State × HubCmd) := match s.flashFetch v idx ok with
          | some bs => some (s.deepWrite h page bs, { h with left := rest, done := h.done ++ [page] })
          | none =>
            if tries + 1 < (if deepRep v then 3 else 2) then none
            else some (s.deepPoison h page, { h with left := rest, failed := h.failed ++ [page] })
        match r with
        | none => s.putHub { h with tries := mput h.tries page (tries + 1) }
        | some (t, g) =>
          if g.left.isEmpty && !s.crecFree h h.crec then s
          else
            let t := (t.putHub g).deepChannel h g
            if !g.left.isEmpty then t
            else
              let low := g.failed.min?
              t.hubFinish g { status := if g.failed.isEmpty then 0 else 4, count := g.failed.length,
                              addr := match low with
                                | some p => deepMem v + 4096 * p
                                | none => 0 } (4096 * deepCount v))

/-! ### The append log (R227, R348) -/

/-- The head of the log (R349): `dfirst` where it stands outside the context's range; one that a new descriptor's range still holds stays: DESIGN CHOICE (assumption 117). -/
def State.logHead (s : State) : Nat :=
  if s.ctx.dfirst ≤ s.dlog.head ∧ s.dlog.head < s.ctx.dfirst + s.ctx.dcount then s.dlog.head else s.ctx.dfirst

/-- Indices of an append that is not complete. -/
def HubCmd.appends (h : HubCmd) (i : Nat) : Bool :=
  h.op == .dappend && !h.queued && (decide (h.first ≤ i ∧ i < h.first + deepCount h.req) ||
    (deepRep h.req && decide (h.rep ≤ i ∧ i < h.rep + deepCount h.req)))

/-- A free index: nothing appended stands there, and no append is writing it. -/
def State.indexFree (s : State) (i : Nat) : Bool := (mfind s.flash i).isNone && !s.hub.any (·.appends i)

/-- A run of `n` free indices from `head` on, from `dfirst` when it would pass the end; `taken` is a run assigned with it. -/
def State.logRun (s : State) (head n : Nat) (taken : Nat → Bool) : Option Nat :=
  let first := if head + n ≤ s.ctx.dfirst + s.ctx.dcount then head else s.ctx.dfirst
  if s.deepRange first n && (List.range n).all (fun i => s.indexFree (first + i) && !taken (first + i)) then some first else none

/-- The head after a run. -/
def State.headAfter (s : State) (first n : Nat) : Nat :=
  if first + n = s.ctx.dfirst + s.ctx.dcount then s.ctx.dfirst else first + n

/-- The runs an append gets and the head after them; none when the log is full (R348). -/
def State.assign (s : State) (n : Nat) (rep : Bool) : Option (Nat × Nat × Nat) :=
  if s.dlog.phys < (if rep then 2 * n else n) then none
  else match s.logRun s.logHead n (fun _ => false) with
    | none => none
    | some a =>
      if !rep then some (a, 0, s.headAfter a n)
      else match s.logRun (s.headAfter a n) n (fun i => decide (a ≤ i ∧ i < a + n)) with
        | none => none
        | some b => some (a, b, s.headAfter b n)

/-- In firmware mode Miryen starts a compaction when the free physical pages fall below its threshold (R350). -/
def State.compactLow (s : State) : State :=
  if !s.fsplit.getLsbD 4 && decide (s.dlog.phys < Config.compactBelow) then { s with dlog := { s.dlog with busy := true } } else s

/-- DAPPEND_EXECUTE: the deep engine takes a DAPPEND, checks it and assigns its indices (R224, R225, R227, R348). -/
def execDappendExecute (k : Nat) (s : State) : Host.Outcome State Fault Refusal :=
  .next (match s.hubQueued k with
    | none => s
    | some h =>
      if h.op != .dappend then s
      else match h.fin with
      | some st => s.hubLast h st
      | none => match s.hubHead h with
        | .later => s
        | .crecFault c => s.hubCrecFault h c
        | .status l st => s.hubFinish { h with crec := l } { status := st } 0
        | .ok l v =>
          let g : HubCmd := { h with crec := l, req := v }
          let n := deepCount v
          if s.deepErr true v then s.hubFinish g { status := 1 } 0
          else match s.deepXlate h v false with
            | .later => s
            | .status st => s.hubFinish g { status := st } (4096 * n)
            | .ok tr => match s.assign n (deepRep v) with
              | none => s.hubFinish g { status := 6 } (4096 * n)
              | some (a, b, head) =>
                let t := (s.hubFill [h.a, h.b]).hubStart { g with tr := tr, left := List.range n, first := a, rep := b }
                ({ t with dlog := { t.dlog with head := head, phys := t.dlog.phys - (if deepRep v then 2 * n else n) } } : State).compactLow)

/-- The bytes of a source page, or that one of its sectors is poisoned. -/
def State.sourcePage (s : State) (h : HubCmd) (page : Nat) : EngRead :=
  if deepSpad h.req then match h.owner.unit?, s.areaOf h.owner with
    | some u, _ => match s.unit? u with
      | some x =>
        let off := x.bind.spbase + deepMem h.req + 4096 * page
        let word := fun k => leBytes 8 (s.view h.reader (.spad (coreOf u) (off + 8 * k)) 8 (s.spadRead (coreOf u) (off + 8 * k) 8))
        if s.spadPoisoned (coreOf u) off 4096 then .fault .poisonedData else .val (leValue ((List.range 512).flatMap word))
      | none => .val 0
    | none, some a => s.hubRead (a + BitVec.ofNat 64 (s.scrOff a + deepMem h.req + 4096 * page)) 4096
    | none, none => .val 0
  else if !s.pageClear h page then .later
  else engJoin ((List.range 4096).map fun j => match trPlace h.tr (deepMem h.req + 4096 * page + j) with
    | some p =>
      let l : Loc := if trHost h.tr (deepMem h.req + 4096 * page + j) then .host p.1 else .dev p.1
      match s.homeByte l with
      | .val v => .val (s.view h.reader l 1 v)
      | r => r
    | none => .later)

/-- A page becomes durable, its replica with it; a page that cannot be read is left out, and its index reads as zeros (R227). -/
def State.appendPage (s : State) (h : HubCmd) (page : Nat) (r : EngRead) : State × HubCmd :=
  let rep := deepRep h.req
  let g : HubCmd := { h with left := h.left.filter (· != page) }
  let put := fun (bs : List Byte) =>
    let f := mput s.flash (h.first + page) (newPage bs (h.first + page))
    if rep then mput f (h.rep + page) (newPage bs (h.rep + page)) else f
  let none' :=
    let f := mput s.flash (h.first + page) { blank := true }
    if rep then mput f (h.rep + page) { blank := true } else f
  match r with
  | .val x => ({ s with flash := put (leBytes 4096 x) }, { g with done := h.done ++ [page] })
  | _ => ({ s with flash := none', dlog := { s.dlog with phys := s.dlog.phys + if rep then 2 else 1 } },
          { g with failed := h.failed ++ [page] })

/-- DAPPEND_DURABLE: a further page of an append is durable; after the last one the completion record is written (R227, R348). -/
def execDappendDurable (k : Nat) (s : State) : Host.Outcome State Fault Refusal :=
  .next (match s.hub? k with
    | none => s
    | some h =>
      if h.op != .dappend || h.queued || !s.ownerOpen h.owner then s
      else match h.left[Config.appendOrder k h.left.length % h.left.length]? with
        | none => s
        | some page => match s.sourcePage h page with
          | .later => s
          | r =>
            let p := s.appendPage h page r
            let g := p.2
            let t := p.1.putHub g
            if !g.left.isEmpty then t
            else if !s.crecFree h h.crec then s
            else t.hubFinish g { status := if g.failed.isEmpty then 0 else 4, count := g.done.length, addr := h.first,
                                 fail := match g.failed.min? with
                                   | some q => h.first + q
                                   | none => 0,
                                 rep := if deepRep h.req then h.rep else 0 } (4096 * deepCount h.req))

/-! ### The log's registers (R349, R350) -/

/-- Frees the named indices of the context's range that no append is writing. -/
def State.trim (s : State) (first n : Nat) : State :=
  { s with flash := s.flash.filter fun p =>
      !(decide (first ≤ p.1 ∧ p.1 < first + n) && s.deepRange p.1 1 && !s.hub.any (·.appends p.1)) }

/-- DLOG_TRIM. -/
def State.dlogTrim (s : State) (v : DWord) : State := s.trim (v.toNat % 2 ^ 40) (v.toNat / 2 ^ 40)

/-- DLOG_TRIM (R349). -/
def execDlogTrim (v : BitVec 64) (s : State) : Host.Outcome State Fault Refusal := .next (s.dlogTrim v)

/-- DLOG_CTL: a compaction is started by the host only in host-assisted mode (R349). -/
def State.dlogCtl (s : State) (v : DWord) : State :=
  if v.getLsbD 0 && s.fsplit.getLsbD 4 && !s.dlog.busy then { s with dlog := { s.dlog with busy := true } } else s

/-- DLOG_CTL (R349). -/
def execDlogCtl (v : BitVec 64) (s : State) : Host.Outcome State Fault Refusal := .next (s.dlogCtl v)

/-- Physical pages that running appends still have to write. -/
def State.appending (s : State) : Nat :=
  ((s.hub.filter fun h => h.op == .dappend && !h.queued).map fun h => h.left.length * if deepRep h.req then 2 else 1).sum

/-- Physical pages the mapped indices and running appends keep. -/
def State.mapped (s : State) : Nat := (s.flash.filter fun p => !p.2.blank).length + s.appending

/-- COMPACTION_COMPLETE: a compaction, of the host's or Miryen's, ends with `phys` pages free (R349, R350). -/
def execCompactionComplete (phys : Nat) (s : State) : Host.Outcome State Fault Refusal :=
  .next (if s.dlog.busy && decide (s.dlog.phys ≤ phys) &&
      decide (phys + s.mapped ≤ Config.flashPages) then ({ s with dlog := { s.dlog with busy := false, phys := phys } } : State)
    else s)

end Sys2Proof.Machine
end

