-- ==== Sys2Proof/Machine/GangEvents.lean ====
section
/-! DEFINITION. Events of splits, gangs and units (R25, R26, R138, R143, R145 to R148): raising, merging, popping, barriers, the end of gangs and units. -/

namespace Sys2Proof.Machine

/-! ### Raising (R26) -/

/-- The entry counts idle cycles: ready, demoted, or the trap entry. -/
def Split.issuable (p : Split) : Bool := p.mask != 0 && (p.state == .ready || p.state == .demoted || p.state == .trap)

/-- R26: at 4,096 idle cycles a split that has not been raised is made ready and placed first. -/
def Split.raise (p : Split) : Split :=
  if p.issuable && !p.raised && decide (Config.raiseAt ≤ p.idle) then
    { p with state := if p.state = .trap then .trap else .ready, dpos := 0, raised := true }
  else p

/-- SPLIT_RAISE (R26). -/
def execSplitRaise (u g e : Nat) (s : State) : Host.Outcome State Fault Refusal := .next (s.modGang u g (·.modEntry e (·.raise)))

/-! ### Merging (R25, R146, R147) -/

/-- The distinct operations of two lists. -/
def unionOps (a b : List Nat) : List Nat := a ++ b.filter fun i => !a.contains i

/-- The merged entry of R25, `a` the lower-indexed. -/
def Split.merge (a b : Split) : Split :=
  let both := a.state == .demoted && b.state == .demoted
  { mask := a.mask ||| b.mask, ip := a.ip, wd := a.wd, state := if both then .demoted else .ready,
    dpos := if both then min a.dpos b.dpos else 0, bar := .none, fpctl := a.fpctl, fpflags := a.fpflags ||| b.fpflags,
    vm := unionOps a.vm b.vm, sp := unionOps a.sp b.sp }

/-- Two entries merge: at word 0 of one packet (R25), or waiting at one barrier word (R146, R147). -/
def Split.meets (a b : Split) : Bool :=
  a.mask != 0 && b.mask != 0 && a.ip == b.ip && ((a.wd == 0 && b.wd == 0) ||
    (a.wd == b.wd && a.state == .waiting && b.state == .waiting && (match a.bar, b.bar with
      | .gang _ _ _, .gang _ _ _ => true
      | .unit _ _ _, .unit _ _ _ => true
      | _, _ => false)))

/-- Merges the entries `i` and `j`. Those that wait at one barrier are ready at it, and issue its word again (R25, R146). -/
def Gang.mergePair (g : Gang) (i j : Nat) : Gang :=
  let a := g.entry i
  let b := g.entry j
  if !a.meets b then g else (g.setEntry i (a.merge b)).setEntry j {}

/-- Every merge R25 asks for. -/
def Gang.merges (g : Gang) : Gang :=
  [(0, 1), (0, 2), (0, 3), (1, 2), (1, 3), (2, 3)].foldl (fun g p => g.mergePair p.1 p.2) g

/-! ### Popping (R23, R138) -/

/-- A popped split (R23, R27). -/
def Gang.popped (g : Gang) (x : Spill) : Split :=
  { mask := x.mask, ip := x.ip, state := .ready, vm := g.gvm, sp := g.gsp, fpctl := x.fpctl, fpflags := x.fpflags }

/-- Free entries are filled from the spill stack, the top element into the lowest. -/
def Gang.pops (g : Gang) : Gang :=
  g.freeEntries.foldl (fun g e => match g.spill with
    | [] => g
    | x :: t => { g.setEntry e (g.popped x) with spill := t }) g

/-! ### Gangs -/

/-- GANG_CONTEXT_FREE: context, rows and number of a gang that has ended become free when its totals are zero (R143). -/
def execGangContextFree (u g : Nat) (s : State) : Host.Outcome State Fault Refusal :=
  .next (s.modUnit u fun x => match mfind x.gangs g with
    | some y => if y.ended && y.ops.isEmpty then { x with gangs := merase x.gangs g } else x
    | none => x)

/-- The entry waits at a GBAR, or a UBAR when `unit`. -/
def Split.atBarrier (p : Split) (unit : Bool) : Bool := match p.bar with
  | .gang _ _ _ => !unit && p.state == .waiting
  | .unit _ _ _ => unit && p.state == .waiting
  | _ => false

/-- The three conditions of R146, for GBAR or UBAR. -/
def Gang.arrived (g : Gang) (unit : Bool) : Bool :=
  g.trapFree && g.spill.isEmpty && [0, 1, 2, 3].any (fun e => !g.isFree e) && [0, 1, 2, 3].all fun e => g.isFree e || (g.entry e).atBarrier unit

/-- An entry a barrier releases: ready, at the word after the barrier word; in a chain the chain is to issue. -/
def Split.release (p : Split) : Split :=
  let q : Split := { p with state := .ready, dpos := 0, idle := 0, raised := false, bar := .none }
  match p.bar with
  | .gang ip wd chained => if chained then { q with bar := .passed } else { q with ip := ip, wd := wd }
  | .unit ip wd chained => if chained then { q with bar := .passed } else { q with ip := ip, wd := wd }
  | _ => p

/-- Releases every entry of a gang. -/
def Gang.releaseAll (g : Gang) : Gang := [0, 1, 2, 3].foldl (fun g e => if g.isFree e then g else g.modEntry e (·.release)) g

/-- GANG_BARRIER_COMPLETE (R146). -/
def execGangBarrierComplete (u g : Nat) (s : State) : Host.Outcome State Fault Refusal :=
  .next (s.modGang u g fun x => if x.arrived false then x.releaseAll else x)

/-- UNIT_BARRIER_COMPLETE: every live gang of the unit has arrived (R147). -/
def execUnitBarrierComplete (u : Nat) (s : State) : Host.Outcome State Fault Refusal :=
  .next (s.modUnit u fun x =>
    if x.gangs.any (fun p => !p.2.ended) && x.gangs.all (fun p => p.2.ended || p.2.arrived true) then
      { x with gangs := x.gangs.map fun p => (p.1, if p.2.ended then p.2 else p.2.releaseAll) }
    else x)

/-! ### The end of a unit (R145) -/

/-- A command that pre-emption and the end wait for: started, or discarded with writes to come, and no deep copy (R208, R237). -/
def Cmd.awaited (c : Cmd) : Bool := c.state != .queued && c.op.engine != .deep

/-- Accesses the unit issued are all performed (R145, R204). -/
def State.quiet (s : State) (u : Nat) (x : Unit) : Bool :=
  let k := s.core (coreOf u)
  x.lead.ops.isEmpty && x.gangs.all (fun p => p.2.ops.isEmpty) && !k.port.any (·.who.u == u) && !k.seamq.any (·.who.u == u) &&
    !(s.layer (layerOf (coreOf u))).out.any (·.who.u == u) && !x.cmds.any (·.awaited)

/-- No stream of the unit issues any more but the chains of barriers that have completed: it is parked, being saved, or its lead has trapped (R317, R323, R324). -/
def Unit.frozen (x : Unit) : Bool :=
  (x.parked || x.save.isSome || x.lead.trapped.isSome) && !x.gangs.any fun p => [0, 1, 2, 3].any fun e => (p.2.entry e).bar == .passed

/-- Every stream of the unit stands where a cancel stops it: at word 0, or where it issues no more, also at a word in mid-packet: DESIGN CHOICE (R234, assumption 106). -/
def Unit.atBoundary (x : Unit) : Bool :=
  x.frozen || ((x.lead.state != .running || x.lead.lwd == 0) &&
    x.gangs.all fun p => [0, 1, 2, 3, 4].all fun e => p.2.isFree e || (p.2.entry e).wd == 0 || (p.2.entry e).state == .waiting)

/-- A unit of a launch node has ended, with a trap code or 0: the first code other than 0 is kept (R282). -/
def State.unitOver (s : State) (o : Option Origin) (code : Nat) : State := match o with
  | none => s
  | some o => { s with jobs := mmodify s.jobs o.job fun b => { b with nodes := b.nodes.modify o.node fun n =>
      { n with live := n.live - 1, code := if n.code = 0 then code else n.code } } }

/-- The unit's resources are released (R145, R293, R295). -/
def State.releaseUnit (s : State) (u : Nat) : State :=
  let t := s.modCore (coreOf u) fun k =>
    { k with grant := if k.grant = some (slotOf u) then none else k.grant, tlb := k.tlb.filter fun e => e.own != u }
  (({ t with units := merase t.units u, fr := { t.fr with held := t.fr.held.filter fun p => p.2.unit != some u } } : State).forgetUnit u).forgetSight u

/-- A unit ends: commands not started are discarded, those with completion records reporting status 5, deep copies go on; its launch records the end. -/
def State.endUnit (s : State) (u : Nat) (x : Unit) (code : Nat) : State :=
  let t := (x.cmds.filter fun c => c.state == .queued && (c.op.engine == .near || c.op.engine == .deep)).foldl (fun s c =>
    s.hubCancel { id := c.id, op := c.op, owner := .gone, launch := some x.launch, b := c.b }) s
  let t := ((t.releaseUnit u).unitOver x.origin code).noteEnd u x.launch
  { t with
    hub := t.hub.map fun h => if h.owner == .unit u then { h with owner := .gone } else h }

/-- Writes `stat` of a CTXSV request (R235). -/
def State.writeStat (s : State) (at_ : Option Nat) (code : Nat) : State := match at_ with
  | none => s
  | some a => s.hubWriteAll (BitVec.ofNat 64 a) (leBytes 8 (1 + 256 * code))

/-- `stat` can be written now (R342). -/
def State.statFree (s : State) (at_ : Option Nat) : Bool := at_.all fun a => s.hubOpen (BitVec.ofNat 64 a) 8

/-- The trap code a unit ends with: of a nested trap, of a recorded fault, or of a lead trap after which it is stopped instead of saved. -/
def Unit.endCode (x : Unit) : Nat :=
  match x.ending, x.fault, x.lead.trapped with
  | some c, _, _ => c.code
  | none, some c, _ => c.code
  | none, none, some c => c.1.code
  | none, none, none => 0

/-- The unit has stopped for good: cancelled and at packet boundaries, or with a recorded fault and nothing to save (R234, R316). -/
def Unit.stopping (x : Unit) : Bool := x.ending.isSome || (x.cancel && x.atBoundary)

/-- The lead is stopped, no gang lives and every command has completed: with its accesses performed the unit ends (R145). -/
def Unit.over (x : Unit) : Bool := x.lead.state == .stopped && x.ngang == 0 && x.cmds.isEmpty && x.lead.trapped.isNone

/-- UNIT_END: a unit whose lead is stopped and whose gangs, commands and accesses have ended is released (R145); so is one that a cancel or a nested
trap has stopped. Its end is part of the release of R284: dirty blocks of the core are written back first. -/
def execUnitEnd (u : Nat) (s : State) : Host.Outcome State Fault Refusal :=
  .next (match s.unit? u with
    | none => s
    | some x =>
      if !(x.over || x.stopping) || !s.quiet u x then s
      else if !s.blocksWritten (coreOf u) then s.encodeDirty (coreOf u)
      else if !s.statFree x.cancelStat || !s.statFree (x.save.bind (·.stat)) then s
      else ((s.endUnit u x x.endCode).writeStat x.cancelStat 0).writeStat (x.save.bind (·.stat)) 1)

end Sys2Proof.Machine
end

