-- ==== Sys2Proof/Machine/Issue.lean ====
section
/-! DEFINITION. The issue of a word or chain (R42 to R49, R72, R179), and the choice of what a core issues in a cycle (R138, R298, R299). The meaning of an instruction is a parameter, `run`. -/

namespace Sys2Proof.Machine

/-- The meaning of an instruction. -/
abbrev Runner := Instr → State → Host.Outcome State Fault Refusal

/-! ### The place of a stream -/

/-- The stream exists and may issue: its unit is not parked, saved or stopped, the lead runs, the entry holds lanes.
The chain of a barrier that has completed still issues (R146, R323). -/
def State.issues (s : State) (st : Stream) : Bool :=
  match st with
  | .nobody => false
  | .lead u => match s.unit? u with
    | some x => !x.parked && x.save.isNone && x.ending.isNone && x.lead.trapped.isNone && x.lead.state != .stopped &&
        !(x.cancel && (x.lead.lwd == 0 || x.lead.state == .waiting)) && !(x.lead.devWait && s.xlt.busy)
    | none => false
  | .split u g e => match s.unit? u with
    | some x => match mfind x.gangs g with
      | some y => ((!x.parked && x.save.isNone && x.lead.trapped.isNone) || (y.entry e).bar == .passed) && x.ending.isNone && !y.isFree e &&
          !(x.cancel && ((y.entry e).wd == 0 || (y.entry e).state == .waiting))
      | none => false
    | none => false

/-- The cursor at the place of a stream. -/
def State.seat (s : State) (st : Stream) : State :=
  match st with
  | .nobody => { s with cur := {} }
  | .lead u => match s.unit? u with
    | some x => { s with cur := { stream := st, mask := 1, ip := x.lead.lip, wd := x.lead.lwd } }
    | none => { s with cur := {} }
  | .split u g e => match s.gang? u g with
    | some y =>
      let p := y.entry e
      { s with cur := { stream := st, mask := p.mask, ip := p.ip, wd := p.wd, fpctl := p.fpctl } }
    | none => { s with cur := {} }

/-- The word stands in the lead stream. -/
def Stream.isLead : Stream → Bool
  | .lead _ => true
  | _ => false

/-! ### One word -/

/-- The trap of a word that is no instruction (R40, R70). -/
def State.decodeTrap (s : State) (e : DecodeError) : Verdict :=
  match e with
  | .channelUnavailable lead reg => (if lead then s.leadWord [reg.toNat] else s.gangWord [] [reg.toNat]).andThen (.trap (s.allLanes .channelUnavailable))
  | _ => s.undefined

/-- A trap of the stream at its place, with no other effect. -/
def State.trapHere (s : State) (fs : List LaneFault) : State :=
  ({ s with cur := { s.cur with verdict := .trap fs } } : State).takeTrap fs

/-- The faults of R179 that the split or lead takes at this word, if any; they are not found again. -/
def State.lateHere (s : State) : Option (List LaneFault × State) :=
  match s.cur.stream with
  | .split u g _ => match s.gang? u g with
    | some y => match y.late.filter fun f => s.cur.mask.getLsbD f.lane with
      | [] => none
      | fs => some (fs.map fun f => ⟨f.lane, f.code, f.addr⟩, s)
    | none => none
  | .lead u => match s.unit? u with
    | some x => match x.lead.late, x.efault with
      | some f, _ => some ([⟨0, f.code, f.addr⟩], s.modLead u fun l => { l with late := none })
      | none, some f => some ([⟨0, f.1, f.2⟩], s.modUnit u fun x => { x with efault := none })
      | none, none => none
    | none => none
  | .nobody => none

/-- The verdict an attempt left. -/
def outcomeVerdict (r : Host.Outcome State Fault Refusal) : Verdict := match r with
  | .next t => t.cur.verdict
  | _ => .ok

/-- An attempt at the word or chain, `t` its result: a fault found earlier is taken first, unless the word waits or is held (R179). -/
def State.orLate (s : State) (r : Host.Outcome State Fault Refusal) : Host.Outcome State Fault Refusal :=
  match outcomeVerdict r, s.lateHere with
  | .wait, _ => r
  | .hold, _ => r
  | _, some (fs, t) => .next (t.trapHere fs)
  | _, none => r

/-! ### Chains (R48, R49, R72) -/

/-- A decoded word of a chain, with the word. -/
abbrev ChainWord := Word × Except DecodeError Instr

/-- What the checks of a word of a chain answer on the state before the chain. -/
def State.probeWord (run : Runner) (s : State) (w : ChainWord) : Verdict :=
  match w.2 with
  | .error e => s.decodeTrap e
  | .ok i => outcomeVerdict (run i s)

/-- The trap is one of check 2 of R72 (`code` undefined instruction) or of check 3 (privilege): an engine word that stands in the lead stream fails
neither once it has decoded, and answers both codes from the checks of its entry (R212). -/
def earlyTrap (lead : Bool) (code : TrapCode) (w : ChainWord) (v : Verdict) : Bool :=
  match v with
  | .trap (f :: _) => f.code == code && match w.2 with
    | .error _ => true
    | .ok _ => !(lead && majorOf w.1 == 0x18)
  | _ => false

/-- The first word of a chain that fails check 2, else the first that fails check 3 (R72). -/
def State.early (s : State) (ws : List ChainWord) (vs : List Verdict) : Option Verdict :=
  let first := fun code => ((ws.zip vs).find? fun p => earlyTrap s.cur.stream.isLead code p.1 p.2).map (·.2)
  (first .undefinedInstruction).or (first .privilege)

/-- The faults of the words in order, one for each lane. -/
def chainFaults : List Verdict → List LaneFault
  | [] => []
  | v :: t =>
    let fs := match v with
      | .trap fs => fs
      | .part fs => fs
      | _ => []
    fs ++ (chainFaults t).filter fun f => !fs.any fun g => g.lane == f.lane

/-- Two words of one chain count in the scratchpad counter, which has room for one (R27). -/
def State.pairFull (s : State) (ws : List ChainWord) : Bool :=
  decide (2 ≤ (ws.filter fun w => match w.2 with
    | .ok i => countsSp i
    | .error _ => false).length) && match s.hereGang with
      | some y => decide (63 < y.gsp.length + 2)
      | none => false

/-- What the checks of a chain answer. -/
def State.chainVerdict (s : State) (ws : List ChainWord) (vs : List Verdict) : Verdict :=
  match s.early ws vs with
  | some v => v
  | none =>
    if vs.contains .wait || s.pairFull ws then .wait
    else if vs.contains .hold then .hold
    else match chainFaults vs with
      | [] => .ok
      | fs => .trap fs

/-- Sources of the words of a chain are read before any of them writes (R48). -/
def State.freeze (s : State) : State :=
  match s.cur.stream with
  | .split u g _ => s.modGang u g fun y => { y with snap := some (y.snap.getD y.regs) }
  | .lead u => s.modLead u fun l => { l with hsnap := some (l.hsnap.getD l.h) }
  | .nobody => s

/-- The snapshots are given back as they were before the chain. -/
def State.thaw (s before : State) : State :=
  match s.cur.stream with
  | .split u g _ => s.modGang u g fun y => { y with snap := match before.gang? u g with
      | some z => z.snap
      | none => none }
  | .lead u => s.modLead u fun l => { l with hsnap := match before.unit? u with
      | some x => x.lead.hsnap
      | none => none }
  | .nobody => s

/-- Runs words one after another. -/
def runWords (run : Runner) : List Instr → State → Host.Outcome State Fault Refusal
  | [], s => .next s
  | i :: t, s => match run i s with
    | .next r => runWords run t r
    | other => other

/-- A word whose value is read from what other words of its chain may change: counters and flags, queue lengths, device registers,
records in memory and in the scratchpad. -/
def readsFirst : Instr → Bool
  | .srd _ _ => true
  | .chwp _ _ => true
  | .dsld _ _ _ => true
  | .trec _ _ _ => true
  | .mdrain _ _ _ _ _ _ => true
  | .ctxsv _ => true
  | _ => false

/-- The instructions of a chain in the order their effects are written: the words that read counters, flags, queues, device registers and records first (R48); any other word
of the S or H pipe, which may move the stream, last. -/
def effectOrder (lead : Bool) (ws : List ChainWord) : List Instr :=
  let is := ws.filterMap fun w => match w.2 with
    | .ok i => some (pipeOf lead (majorOf w.1) == some (if lead then .h else .s), i)
    | .error _ => none
  (is.filter (readsFirst ·.2) ++ is.filter (fun p => !p.1 && !readsFirst p.2) ++ is.filter fun p => p.1 && !readsFirst p.2).map (·.2)

/-- The words of a chain that wait or are held: an attempt sets going what they wait for. -/
def waiting (ws : List ChainWord) (vs : List Verdict) : List Instr :=
  (ws.zip vs).filterMap fun p => match p.1.2, p.2 with
    | .ok i, .wait => some i
    | .ok i, .hold => some i
    | _, _ => none

/-- A chain issues, traps or waits as one (R49). -/
def State.issueChain (run : Runner) (s : State) (ws : List ChainWord) : Host.Outcome State Fault Refusal :=
  let vs := ws.map (s.probeWord run)
  match s.chainVerdict ws vs with
  | .ok =>
    let f := s.freeze
    match runWords run (effectOrder s.cur.stream.isLead ws) { f with cur := { f.cur with commit := true } } with
    | .next t => .next (t.thaw s)
    | other => other
  | .wait => match runWords run (waiting ws vs) s with
    | .next t => .next t.blocked
    | other => other
  | .hold => match runWords run (waiting ws vs) s with
    | .next t => .next t.interlocked
    | other => other
  | .trap fs => .next (s.trapHere fs)
  | v => .next (s.answered v)

/-! ### The V pipe (R155) -/

/-- The slices that hold the lanes of a mask (R16). -/
def Gang.slicesOf (g : Gang) (mk : DWord) : List Nat := ((lanesOf mk).map fun l => g.slices.getD (l / 8) 0).eraseDups

/-- The slices of the split that issues. -/
def State.hereSlices (s : State) : List Nat := match s.hereGang with
  | some g => g.slicesOf s.cur.mask
  | none => []

/-- A word of the chain is of the V pipe. -/
def usesV (ws : List ChainWord) : Bool := ws.any fun w => pipeOf false (majorOf w.1) == some .v

/-- A word of the chain is F64 arithmetic. -/
def usesF64 (ws : List ChainWord) : Bool := ws.any fun w => majorOf w.1 == 0x0A

/-- An F64 word holds the V pipe of some slice of the split. -/
def State.vBusy (s : State) : Bool := s.hereSlices.any fun k => (mfind (s.core s.hereCore).vheld k).isSome

/-- The V pipe of some slices is held for four cycles (R155). -/
def Core.holdV (k : Core) (sl : List Nat) : Core := { k with vheld := sl.foldl (fun m n => mput m n 4) k.vheld }

/-- A cycle of the held pipes is over. -/
def Core.tickV (k : Core) : Core := { k with vheld := k.vheld.filterMap fun p => if p.2 ≤ 1 then none else some (p.1, p.2 - 1) }

/-- The V pipe around an attempt `r` of the words `ws` of a split: a V word is held while the pipe of its slices is, an F64 word that issues holds it. -/
def State.vPipe (s : State) (ws : List ChainWord) (r : Host.Outcome State Fault Refusal) : Host.Outcome State Fault Refusal :=
  if s.cur.stream.isLead || !usesV ws then r
  else match r with
    | .next t => match t.cur.verdict with
      | .wait => r
      | .hold => r
      | .trap _ => if s.vBusy then .next s.interlocked else r
      | _ => if s.vBusy then .next s.interlocked
        else if usesF64 ws then .next (t.modCore s.hereCore (·.holdV s.hereSlices)) else r
    | _ => r

/-! ### The issue of a stream -/

/-- Decodes the fetched words. -/
def decodeChain (l : List (Nat × Fetched)) : List ChainWord := l.filterMap fun p => match p.2 with
  | .word w => some (w, decodeWord w)
  | _ => none

/-- The stream issues its next word or chain, or traps, waits, or is held; the result's cursor holds the verdict. A word that cannot be fetched traps before
the chain it ends is looked at, with the chain's first word in `tip` and its own address in `taddr`: DESIGN CHOICE (R45, assumption 84). -/
def State.tryIssue (run : Runner) (s : State) (st : Stream) : Host.Outcome State Fault Refusal :=
  let s := s.seat st
  match st.unit with
  | none => .next s
  | some u =>
    let base := s.codeBase
    let ws := s.chainAt u base s.cur.ip 3 s.cur.wd
    match ws.getLast? with
    | none => .next s
    | some (k, .fault c) => s.orLate (.next (s.trapHere (s.allLanes c (wordAddr base s.cur.ip k))))
    | some (_, .touch) => .next s.interlocked
    | some (k, .word _) =>
      let s := s.laneTlbFill u (ws.map fun p => wordAddr base s.cur.ip p.1)
      let nxt := s.placeAfter u base s.cur.ip k
      let s : State := { s with cur := { s.cur with nip := nxt.1, nwd := nxt.2, chained := decide (1 < ws.length) } }
      let cw := decodeChain ws
      s.vPipe cw (s.orLate (if !chainLegal st.isLead (cw.map (·.1)) then .next (s.trapHere (s.allLanes .illegalChain))
      else match cw with
        | [(_, .ok i)] => run i s
        | [(_, .error e)] => match s.decodeTrap e with
            | .trap fs => .next (s.trapHere fs)
            | _ => .next s
        | _ => s.issueChain run cw))

/-- The state an outcome leaves, with no cursor. -/
def settle (r : Host.Outcome State Fault Refusal) : Host.Outcome State Fault Refusal := match r with
  | .next t => .next { t with cur := {} }
  | other => other

/-- One attempt of a stream that may issue. -/
def State.issueStream (run : Runner) (s : State) (st : Stream) : Host.Outcome State Fault Refusal :=
  if s.issues st then settle (s.tryIssue run st) else .next s

/-- What an attempt would answer. -/
def State.probe (run : Runner) (s : State) (st : Stream) : Verdict := outcomeVerdict (s.tryIssue run st)

/-- A stream held for a first-touch entry the host refused takes its trap (R311). -/
def State.issueDenied (run : Runner) (s : State) (st : Stream) (entry : Nat) : Host.Outcome State Fault Refusal :=
  if s.issues st && (s.fr.held.contains (entry, st) || ({ s with refused := s.refused.filter (· != entry) } : State).probe run st == .hold) then
    settle (s.tryIssue run st)
  else .next s

/-- The level-3 entry at an address is valid. -/
def State.entryValid (s : State) (entry : Nat) : Bool := leafOk 3 (BitVec.ofNat 64 (s.mem.readNat entry 8))

/-- A stream that is held, by one of `es` that are not valid yet and that the host has been asked about, is noted as held for it; while it stays held it stays so
(R308, R311, assumption 98). -/
def State.noteHeld (run : Runner) (s : State) (st : Stream) (es : List Nat) : State :=
  let new := es.filter fun e => s.fr.pending (.touch e) && !s.entryValid e && !s.fr.held.contains (e, st) && s.issues st && s.probe run st == .hold &&
    ({ s with refused := e :: s.refused } : State).probe run st != .hold
  if new.isEmpty then s else { s with fr := { s.fr with held := s.fr.held ++ new.map fun e => (e, st) } }

/-- A stream that has issued is held for nothing. -/
def State.unheld (s : State) (st : Stream) : State :=
  if s.fr.held.any (·.2 == st) then { s with fr := { s.fr with held := s.fr.held.filter (·.2 != st) } } else s

/-- The first-touch entries the host has been asked about. -/
def FaultRing.touched (f : FaultRing) : List Nat := (f.waiting ++ f.asked.map (·.2)).filterMap fun r => match r.what with
  | .touch e => some e
  | _ => none

/-! ### Issue selection (R26, R298, R299) -/

/-- A candidate of R298. -/
structure Candidate where
  stream : Stream
  raised : Bool
  demoted : Bool
  idle : Nat
  dpos : Nat
  gang : Nat × Nat
  entry : Nat
  slices : List Nat
  deriving DecidableEq, Repr

/-- A split as a candidate. -/
def candidate (u g e : Nat) (y : Gang) : Candidate :=
  let p := y.entry e
  { stream := .split u g e, raised := p.raised, demoted := p.state == .demoted, idle := p.idle, dpos := p.dpos, gang := (slotOf u, g), entry := e,
    slices := y.slicesOf p.mask }

/-- Class of R298: raised, ready, demoted. -/
def Candidate.cls (c : Candidate) : Nat := if c.raised then 0 else if c.demoted then 2 else 1

/-- The order of R298. -/
def Candidate.before (a b : Candidate) : Bool :=
  if a.cls ≠ b.cls then decide (a.cls < b.cls)
  else if a.cls = 1 ∧ a.idle ≠ b.idle then decide (b.idle < a.idle)
  else if a.cls = 2 ∧ a.dpos ≠ b.dpos then decide (a.dpos < b.dpos)
  else if a.gang.1 ≠ b.gang.1 then decide (a.gang.1 < b.gang.1)
  else if a.gang.2 ≠ b.gang.2 then decide (a.gang.2 < b.gang.2)
  else decide (a.entry < b.entry)

/-- Inserts a candidate in order. -/
def insertCandidate (c : Candidate) : List Candidate → List Candidate
  | [] => [c]
  | d :: t => if c.before d then c :: d :: t else d :: insertCandidate c t

/-- The candidates in order. -/
def orderCandidates (l : List Candidate) : List Candidate := l.foldl (fun r c => insertCandidate c r) []

/-- A sibling that precedes a split in the order of R26. -/
def Candidate.precedes (a b : Candidate) : Bool :=
  a.gang == b.gang && ((!a.demoted && b.demoted) || (a.demoted && b.demoted &&
    (decide (a.dpos < b.dpos) || (a.dpos == b.dpos && decide (a.entry < b.entry)))))

/-- The loop of R298. -/
def chooseFrom (all : List Candidate) : List Candidate → List Nat → List Candidate → List Candidate
  | [], _, got => got
  | c :: t, used, got =>
    if got.length = 8 then got
    else if c.slices.any used.contains || all.any (fun a => a.precedes c && !got.contains a) then chooseFrom all t used got
    else chooseFrom all t (used ++ c.slices) (got ++ [c])

/-- The splits a core issues in a cycle. -/
def choose (l : List Candidate) : List Candidate := chooseFrom l (orderCandidates l) [] []

/-! ### A cycle of a core -/

/-- The splits of a core's units, in the order in which those of one cycle act: unit slot, gang, entry. R141 says which of two SPAWNs of one cycle succeeds by
the gang number, which is a unit's own: between the units of a core the lower unit slot acts first, DESIGN CHOICE (assumption 109). -/
def State.splitsOf (s : State) (c : Nat) : List Stream :=
  (s.unitsOf c).flatMap fun p => p.2.gangs.flatMap fun q => ([0, 1, 2, 3, 4].filter fun e => !q.2.isFree e).map fun e => .split p.1 q.1 e

/-- What the streams of a core answer when a cycle begins: those that wait have done so. -/
structure Scan where
  state : State
  able : List Stream := []
  idle : List Stream := []

/-- Scans one stream. -/
def Scan.look (run : Runner) (k : Scan) (st : Stream) : Scan :=
  if !k.state.issues st then k
  else match k.state.tryIssue run st with
    | .next t => match t.cur.verdict with
      | .wait => { k with state := { t with cur := {} } }
      | .hold => { k with state := ({ t with cur := {} } : State).noteHeld run st t.fr.touched, idle := k.idle ++ [st] }
      | _ => { k with state := k.state.unheld st, able := k.able ++ [st] }
    | _ => { k with able := k.able ++ [st] }

/-- A cycle begins: merges are made (R25), sources, stack depth and scratchpad are held as they are (R13, R48, R201), free entries are noted (R138): after the
merges, so that an entry a merge of this cycle's start frees is free for a branch of the cycle, DESIGN CHOICE (assumption 108). -/
def State.beginCycle (s : State) (c : Nat) : State :=
  let t := (s.unitsOf c).foldl (fun (s : State) p => s.modUnit p.1 fun x =>
    { x with
      lead := { x.lead with hsnap := some x.lead.h }
      gangs := x.gangs.map fun q =>
        let y := q.2.merges
        (q.1, { y with snap := some y.regs, freeAt := some y.freeEntries, depthAt := some y.spill.length }) }) s
  t.modCore c fun k => { k with spadSnap := some k.spad }

/-- A split that could issue and was not chosen counts an idle cycle (R26). -/
def Split.wait1 (p : Split) : Split := ({ p with idle := min 4096 (p.idle + 1) } : Split).raise

/-- The first context in slot order after the one that issued last (R299). -/
def nextLead (last : Nat) (able : List Nat) : Option Nat := [1, 2, 3, 4].findSome? fun k => able.find? fun u => slotOf u == (last + k) % 4

/-- The split that a stream names, if any. -/
def Stream.split? : Stream → Option (Nat × Nat × Nat)
  | .split u g e => some (u, g, e)
  | _ => none

/-- A waiting split whose condition is met is ready again. -/
def State.wake (s : State) (st : Stream) : State := match st with
  | .split u g e => s.modGang u g (·.modEntry e (·.unwait))
  | _ => s

/-- The cycle of a core (R298, R299): what issues in it is put on the agenda, followed by its end. -/
def State.cycle (run : Runner) (s : State) (c : Nat) : State :=
  if s.pwr.skip then { s with agenda := .endCycle c :: s.agenda }
  else
    let b := s.beginCycle c
    let leads := (b.unitsOf c).map (·.1)
    let k := (leads.map Stream.lead ++ b.splitsOf c).foldl (Scan.look run) ⟨b, [], []⟩
    let t := k.able.foldl State.wake k.state
    let cand := k.able.filterMap fun st => match st.split? with
      | some (u, g, e) => (t.gang? u g).map (candidate u g e)
      | none => none
    let got := (choose cand).map (·.stream)
    let lead := nextLead (t.core c).lastLead (leads.filter fun u => k.able.contains (.lead u))
    let t := (k.idle ++ k.able.filter fun st => !got.contains st).foldl (fun (t : State) st => match st.split? with
      | some (u, g, e) => t.modGang u g (·.modEntry e (·.wait1))
      | none => t) t
    let t := match lead with
      | some u => t.modCore c fun q => { q with lastLead := slotOf u }
      | none => t
    { t with agenda := (match lead with
        | some u => [Micro.issue (.lead u)]
        | none => []) ++ ((t.splitsOf c).filter got.contains).map Micro.issue ++ Micro.endCycle c :: t.agenda }

/-- The end of a cycle: merges, then pops (R138); the snapshots go, and the cycle is counted (R31). -/
def State.endCycle (s : State) (c : Nat) : State :=
  let t := (s.unitsOf c).foldl (fun (s : State) p => s.modUnit p.1 fun x =>
    { x with
      lead := { x.lead with hsnap := none }
      gangs := x.gangs.map fun q =>
        let y := q.2.merges.pops
        (q.1, { y with snap := none, freeAt := none, depthAt := none }) }) s
  t.modCore c fun k => { k.tickV with spadSnap := none, cycle := k.cycle + 1 }

end Sys2Proof.Machine
end

