-- ==== Sys2Proof/Machine/Bind.lean ====
section
/-! DEFINITION. Bind records, kernel-table entries and dispatch (R288, R290 to R297). -/

namespace Sys2Proof.Machine

/-! ### Records -/

/-- A kernel-table entry of 32 bytes (R290); none with a reserved bit or code set, or a field out of range. -/
def parseKte (x : Nat) : Option Kte :=
  let sr := recField x 149 2
  let vr := recField x 147 2
  let scratch := recField x 128 19
  if recField x 152 104 == 0 && sr != 3 && vr != 3 && scratch % 16 == 0 && decide (scratch ≤ Config.spadBytes) && recField x 0 12 == 0 then
    some { gang := recField x 151 1 == 1, sregs := 16 * 2 ^ sr, vregs := 32 * 2 ^ vr, scratch := scratch, gip := BitVec.ofNat 32 (recField x 96 32),
           lip := BitVec.ofNat 32 (recField x 64 32), cbase := BitVec.ofNat 64 (recField x 0 64) }
  else none

/-- The queue limits of 96 bits (R292); all zero selects the defaults. -/
def parseQlim (x : Nat) : Qlim :=
  if x = 0 then { operand := ⟨16, 0⟩, engine := ⟨64, 4⟩, port := ⟨16, 0⟩, decision := ⟨16, 0⟩ }
  else { operand := ⟨recField x 84 12, recField x 72 12⟩, engine := ⟨recField x 60 12, recField x 48 12⟩, port := ⟨recField x 36 12, recField x 24 12⟩,
         decision := ⟨recField x 12 12, recField x 0 12⟩ }

/-- The limits as 96 bits. -/
def Qlim.bits (q : Qlim) : Nat :=
  let one := fun (l : Limit) => l.min % 2 ^ 12 + l.cap % 2 ^ 12 * 2 ^ 12
  one q.decision + one q.port * 2 ^ 24 + one q.engine * 2 ^ 48 + one q.operand * 2 ^ 72

/-- A bind record of 64 bytes (R291) with its queue limits; none with a reserved bit set or a field out of range (code 2 of R294, but for the gangs). -/
def parseBind (x : Nat) : Option (Bind × Qlim) :=
  let f := recField x
  let b : Bind :=
    { tlbsets := f 312 7, tlbbase := f 304 6, cohort := f 301 1 == 1, sys := f 300 1 == 1, mgrant := f 299 1 == 1, wcode := f 296 3, glimit := f 288 6,
      ngang0 := f 280 6, spbase := f 256 19, handle := BitVec.ofNat 64 (f 192 64), routes := BitVec.ofNat 64 (f 128 64),
      args := BitVec.ofNat 64 (f 64 64), kte := BitVec.ofNat 64 (f 0 64) }
  if f 320 96 == 0 && f 319 1 == 0 && f 310 2 == 0 && f 302 2 == 0 && f 294 2 == 0 && f 286 2 == 0 && f 275 5 == 0 && decide (b.glimit ≤ 32) &&
      decide (b.ngang0 ≤ b.glimit) && decide (1 ≤ b.tlbsets ∧ b.tlbsets ≤ 64) && b.spbase % 16 == 0 then
    some (b, parseQlim (f 416 96))
  else none

/-- The record of a bound unit, as a save area holds it (R327). -/
def Bind.bits (b : Bind) (q : Qlim) : Nat :=
  b.kte.toNat + b.args.toNat * 2 ^ 64 + b.routes.toNat * 2 ^ 128 + b.handle.toNat * 2 ^ 192 + b.spbase * 2 ^ 256 + b.ngang0 * 2 ^ 280 +
    b.glimit * 2 ^ 288 + b.wcode * 2 ^ 296 + (if b.mgrant then 2 ^ 299 else 0) + (if b.sys then 2 ^ 300 else 0) + (if b.cohort then 2 ^ 301 else 0) +
    b.tlbbase * 2 ^ 304 + b.tlbsets * 2 ^ 312 + q.bits * 2 ^ 416

/-- Gang counts agree with the kernel (R294 code 2, R281). -/
def gangsAgree (k : Kte) (ngang0 glimit : Nat) : Bool := if k.gang then decide (1 ≤ ngang0) else ngang0 == 0 && glimit == 0

/-- Bytes of a unit's scratchpad area, spill areas included (R294). -/
def areaBytes (k : Kte) (glimit : Nat) : Nat := k.scratch + 512 * glimit

/-! ### The checks of dispatch (R294, R296) -/

/-- The rules of R296 on limits. -/
def Qlim.legal (q : Qlim) (wcode : Nat) : Bool :=
  decide (q.operand.min ≤ q.operand.cap) && decide (q.engine.min ≤ q.engine.cap) && decide (q.port.min ≤ q.port.cap) &&
    decide (q.decision.min ≤ q.decision.cap) && decide (1 ≤ q.decision.cap) && decide (1 ≤ q.port.cap) && decide (4 ≤ q.engine.cap) &&
    decide (8 * (wcode + 1) / 4 ≤ q.operand.cap)

/-- A unit before its gangs are created. -/
def bareUnit (b : Bind) (k : Kte) (q : Qlim) (args : List DWord) (origin : Option Origin) : Unit :=
  { kte := k
    bind := b
    qlim := q
    lead := { h := (args.mapIdx fun i x => (i + 1, x)).foldl (fun m p => mset 0 m p.1 p.2) [], lip := k.lip }
    origin := origin }

/-- Creates `n` gangs at the gang entry (R21); none when one has no place. -/
def State.addGangs (s : State) (u width : Nat) (args : List DWord) (ip : Word) : Nat → Option State
  | 0 => some s
  | n + 1 => match s.addGangs u width args ip n with
    | some t => (t.spawn u width args ip).map (·.2)
    | none => none

/-- The unit and its gangs. -/
def State.addUnit (s : State) (u : Nat) (x : Unit) (args : List DWord) : Option State :=
  ({ s with units := mput s.units u x } : State).addGangs u (8 * (x.bind.wcode + 1)) args x.kte.gip x.bind.ngang0

/-- Two ranges share a number; an empty one shares none. -/
def overlaps (a n b m : Nat) : Bool := decide (0 < n ∧ 0 < m ∧ a < b + m ∧ b < a + n)

/-- Checks 3 to 7 of R294 for unit `u`: 0, or the code. -/
def State.admitCode (s : State) (u : Nat) (b : Bind) (k : Kte) (q : Qlim) : Nat :=
  let others := s.unitsOf (coreOf u)
  let area := areaBytes k b.glimit
  if Config.spadBytes < b.spbase + area ∨
      others.any fun p => overlaps b.spbase area p.2.bind.spbase (areaBytes p.2.kte p.2.bind.glimit) then 3
  else if (s.addUnit u (bareUnit b k q [] none) []).isNone then 4
  else if 64 < b.tlbbase + b.tlbsets ∨ others.any fun p => overlaps b.tlbbase b.tlbsets p.2.bind.tlbbase p.2.bind.tlbsets then 5
  else if b.mgrant && (s.core (coreOf u)).grant.isSome then 6
  else if !q.legal b.wcode || decide (s.poolFree (coreOf u) < q.reserved b.glimit) then 7
  else 0

/-- `err` of SLT_STAT (R293). -/
def State.setErr (s : State) (u code : Nat) : State := { s with slotErr := mset 0 s.slotErr u code }

/-- The area of a unit reads as zero (R294). -/
def State.clearArea (s : State) (c base n : Nat) : State :=
  (s.forget (2 + c) fun a => decide (base ≤ a ∧ a < base + n)).modCore c fun k =>
    { k with
      spad := k.spad.filter fun p => !decide (base ≤ p.1 ∧ p.1 < base + n)
      spadBad := k.spadBad.filter fun w => !decide (base ≤ 4 * w + 3 ∧ 4 * w < base + n) }

/-- Creates a unit in one step (R10, R21, R33, R294, R295). -/
def State.createUnit (s : State) (u : Nat) (x : Unit) (args : List DWord) : State :=
  let c := coreOf u
  match s.addUnit u x args with
  | none => s
  | some t =>
    let t := t.clearArea c x.bind.spbase (areaBytes x.kte x.bind.glimit)
    let t := t.modCore c fun k =>
      { k with
        tlb := k.tlb.filter fun e => e.own != u
        grant := if x.bind.mgrant then some (slotOf u) else k.grant
        mx := if x.bind.mgrant then {} else k.mx }
    t.returned u x

/-! ### Reading what dispatch reads -/

/-- The eight arguments. -/
def parseArgs (v : Nat) : List DWord := (List.range 8).map fun k => BitVec.ofNat 64 (v / 2 ^ (64 * k))

/-- A physical route table (R291): valid routes by port; none with a reserved bit set. -/
def parseRoutes (v : Nat) : Option (SMap Route) :=
  let e := fun k => v / 2 ^ (16 * k) % 2 ^ 16
  if (List.range 16).all fun k => e k / 2 ^ 12 % 8 == 0 && (e k / 2 ^ 15 == 0 || decide (e k / 2 ^ 6 % 64 < Config.coresPerLayer)) then
    some ((List.range 16).filterMap fun k =>
      if e k / 2 ^ 15 = 1 then some (k, ⟨e k / 2 ^ 6 % 64, e k / 2 ^ 4 % 4, e k % 16⟩) else none)
  else none

/-- A record read at the hub, at an aligned address. -/
def State.hubRecord (s : State) (va : DWord) (n : Nat) : EngRead :=
  if va.toNat % n ≠ 0 then .fault .misaligned else s.hubRead va n

/-- What dispatch reads for a bind record at `v`. -/
inductive BindRead where
  | later
  | bad
  | ok (b : Bind) (q : Qlim) (k : Kte) (args : List DWord) (routes : SMap Route)

/-- Kernel-table entry, arguments and routes of a bind record (code 2 of R294). `known`: a record Miryen wrote, whose argument block and route table are
Miryen's own (assumption 47) and are not read again when its save area is restored. -/
def State.readBindParts (s : State) (b : Bind) (q : Qlim) (known : Bool) : BindRead :=
  match s.hubRecord b.kte 32, (if known then .val 0 else s.hubRecord b.args 64), (if known || b.routes = 0 then .val 0 else s.hubRecord b.routes 32) with
  | .later, _, _ => .later
  | _, .later, _ => .later
  | _, _, .later => .later
  | .val kv, .val av, .val rv => match parseKte kv, parseRoutes rv with
    | some k, some r => if gangsAgree k b.ngang0 b.glimit then .ok b q k (parseArgs av) r else .bad
    | _, _ => .bad
  | _, _, _ => .bad

/-- The bind record at `v` and what it names. -/
def State.readBind (s : State) (v : DWord) (known : Bool := false) : BindRead :=
  match s.hubRecord v 64 with
  | .later => .later
  | .fault _ => .bad
  | .val x => match parseBind x with
    | some (b, q) => s.readBindParts b q known
    | none => .bad

/-! ### Placement (R288) -/

/-- The instance of a level a core lies in. -/
def instanceOf (span c : Nat) : Nat :=
  match span with
  | 1 => c
  | 2 => layerOf c
  | 3 => layerOf c / 2
  | 4 => layerOf c / 8
  | _ => 0

/-- A node of a job. -/
def State.node? (s : State) (o : Origin) : Option Node := match mfind s.jobs o.job with
  | some j => j.nodes[o.node]?
  | none => none

/-- Updates it. -/
def State.modNode (s : State) (o : Origin) (f : Node → Node) : State :=
  { s with jobs := mmodify s.jobs o.job fun j => { j with nodes := j.nodes.modify o.node f } }

/-- `span` of a node. -/
def Node.span (n : Node) : Nat := recField n.img.toNat 332 3

/-- A core of the presented device that the survey found (R355, R264). -/
def State.hasCore (s : State) (c : Nat) : Bool := decide (layerOf c < s.layerCount) && !s.svy.lost.contains (layerOf c) && decide (coreId c < (mget {} s.svy.dies (layerOf c)).ncore)

/-- Priority of the queue a pending unit's job came from. -/
def State.prioOf (s : State) (p : Pending) : Nat := match mfind s.jobs p.origin.job with
  | some j => (mget {} s.queues j.q).prio
  | none => 0

/-- The weight by which a unit shares the L1 TLB of its core (R295). -/
def tlbWeight (k : Kte) (ngang0 : Nat) : Nat := k.vregs * ngang0

/-- The 64 sets of a core divided among units of these weights: each its part in proportion, rounded down and at least one set, and the first of the largest weight
what is left: DESIGN CHOICE (R295, assumption 95). -/
def tlbSizes (ws : List Nat) : List Nat :=
  let sum := ws.foldl (· + ·) 0
  let parts := ws.map fun w => max 1 (64 * w / sum)
  let top := ws.idxOf (ws.foldl max 0)
  parts.mapIdx fun k n => if k = top then 64 - ((parts.foldl (· + ·) 0) - n) else n

/-- First sets and numbers of sets of units of these weights, in order. -/
def tlbShares (ws : List Nat) : List (Nat × Nat) :=
  (tlbSizes ws).foldl (fun r n => r ++ [(((r.getLast?).map fun p => p.1 + p.2).getD 0, n)]) []

/-- Miryen's division of the L1 TLB of a core when a unit of weight `w` joins its residents as unit number `u`. -/
def State.tlbDivision (s : State) (u w : Nat) : SMap (Nat × Nat) :=
  let us := ([0, 1, 2, 3].map (4 * coreOf u + ·)).filterMap fun v =>
    if v = u then some (v, w) else (s.unit? v).map fun x => (v, tlbWeight x.kte x.bind.ngang0)
  (us.map (·.1)).zip (tlbShares (us.map (·.2)))

/-- The share of the unit that joins. -/
def State.tlbShare (s : State) (u w : Nat) : Nat × Nat := mget (0, 1) (s.tlbDivision u w) u

/-- The residents take their shares; the sets of one whose share changes are empty. -/
def State.divideTlb (s : State) (u w : Nat) : State :=
  (s.tlbDivision u w).foldl (fun s p => match s.unit? p.1 with
    | none => s
    | some x =>
      if x.bind.tlbbase = p.2.1 ∧ x.bind.tlbsets = p.2.2 then s
      else (s.modUnit p.1 fun x => { x with bind := { x.bind with tlbbase := p.2.1, tlbsets := p.2.2 } }).modCore (coreOf u) fun k =>
        { k with tlb := k.tlb.filter fun e => e.own != p.1 }) s

/-- Where Miryen keeps a part of the bind record it writes next: 0 the argument block, 1 the route table, 2 the record itself (assumption 47). -/
def State.firmPart (s : State) (k : Nat) : DWord := BitVec.ofNat 64 (64 * ((Config.bindPart k s.nextId).toNat + 1))

/-- Miryen writes bytes of its own memory. -/
def State.firmWrite (s : State) (a : DWord) (bs : List Byte) : State := { s with firm := s.firm.writeAll (bytesAt a.toNat bs) }

/-- An argument block (R291). -/
def argBytes (args : List DWord) : List Byte := (List.range 8).flatMap fun k => leBytes 8 (args.getD k 0).toNat

/-- A physical route table (R291). -/
def routeBytes (r : SMap Route) : List Byte := (List.range 16).flatMap fun k => leBytes 2 (match mfind r k with
  | some t => 2 ^ 15 + t.core % 64 * 2 ^ 6 + t.slot % 4 * 2 ^ 4 + t.port % 16
  | none => 0)

/-- The bind record Miryen gives a pending unit at unit number `u` and `spbase`. -/
def State.bindAt (s : State) (u : Nat) (p : Pending) (spbase : Nat) : Bind :=
  let t := s.tlbShare u (tlbWeight p.kte p.bind.ngang0)
  { p.bind with spbase := spbase, tlbbase := t.1, tlbsets := t.2, args := s.firmPart 0, routes := if p.routes.isEmpty then 0 else s.firmPart 1 }

/-- The checks of R294 pass for a pending unit at unit number `u` and `spbase`. -/
def State.admits (s : State) (u : Nat) (p : Pending) (spbase : Nat) : Bool :=
  (s.unit? u).isNone && (mfind s.binding u).isNone && spbase % 16 == 0 &&
    (s.divideTlb u (tlbWeight p.kte p.bind.ngang0)).admitCode u (s.bindAt u p spbase) p.kte (parseQlim p.qlim.toNat) == 0

/-- A pending unit may be placed at unit number `u` so: the core is there, within the instance of its launch, and the checks of R294 pass. -/
def State.placeable (s : State) (u : Nat) (p : Pending) (spbase : Nat) : Bool :=
  s.hasCore (coreOf u) && (match s.node? p.origin with
    | some n => match n.inst with
      | some i => instanceOf n.span (coreOf u) == i
      | none => true
    | none => false) && s.admits u p spbase

/-- The unit a pending unit becomes with a bind record. -/
def Pending.unitOf (p : Pending) (b : Bind) : Unit :=
  { bareUnit b p.kte (parseQlim p.qlim.toNat) p.args (some p.origin) with parked := p.bind.cohort, table := p.routes, miryen := true }

/-- The unit is placed. -/
def State.takePlace (s : State) (u : Nat) (p : Pending) (spbase : Nat) : State :=
  ((s.divideTlb u (tlbWeight p.kte p.bind.ngang0)).createUnit u (p.unitOf (s.bindAt u p spbase)) p.args).fresh

/-- Where an area of a core's scratchpad may begin: at its start, or after another unit's. -/
def State.spadPlaces (s : State) (c : Nat) : List Nat := 0 :: (s.unitsOf c).map fun p => p.2.bind.spbase + areaBytes p.2.kte p.2.bind.glimit

/-- How many units like `p` slots of core `c` can take beside what is resident there (R288). -/
def State.room (s : State) (p : Pending) (c : Nat) : List Nat → Nat
  | [] => 0
  | k :: t => match (s.spadPlaces c).find? (s.admits (4 * c + k) p) with
    | some b => 1 + (s.takePlace (4 * c + k) p b).room p c t
    | none => s.room p c t

/-- An instance of a level has room for `n` units like `p` (R288). -/
def State.holds (s : State) (p : Pending) (span inst n : Nat) : Bool :=
  decide (n ≤ (((List.range 768).filter fun c => s.hasCore c && instanceOf span c == inst).map fun c => s.room p c [0, 1, 2, 3]).foldl (· + ·) 0)

/-- Units of a launch that wait for a place. -/
def State.waitingOf (s : State) (o : Origin) : Nat := (s.pend.filter fun p => p.origin.job == o.job && p.origin.node == o.node).length

/-- The work of `p` fits: a place for the unit, or for every unit of its cohort, within one instance (R288). -/
def State.fits (s : State) (p : Pending) : Bool := match s.node? p.origin with
  | none => false
  | some n =>
    let insts := match n.inst with
      | some i => [i]
      | none => ((List.range 768).map (instanceOf n.span)).eraseDups
    insts.any fun i => s.holds p n.span i (if p.bind.cohort then s.waitingOf p.origin else 1)

/-- The place of a resident unit of a launch, by its index. -/
def State.memberAt (s : State) (o : Origin) (idx : Nat) : Option Nat :=
  (s.units.find? fun p => match p.2.origin with
    | some q => q.job == o.job && q.node == o.node && q.index == idx
    | none => false).map (·.1)

/-- The unit belongs to a launch. -/
def Unit.ofLaunch (x : Unit) (o : Origin) : Bool := match x.origin with
  | some q => q.job == o.job && q.node == o.node
  | none => false

/-- The routes of a unit of a cohort, every unit of which has its place. -/
def State.routesOf (s : State) (o : Origin) (x : Unit) : SMap Route :=
  x.table.filterMap fun r => (s.memberAt o r.2.1).map fun u => (r.1, ⟨coreId (coreOf u), slotOf u, r.2.2⟩)

/-- When the last unit of a cohort has its place, every route is known, Miryen writes the route tables, and all of them start (R288, R291). -/
def State.startCohort (s : State) (o : Origin) : State :=
  if s.pend.any fun p => p.origin.job == o.job && p.origin.node == o.node then s
  else
    let mine := s.units.filter fun p => p.2.ofLaunch o
    let placed := fun (p : Nat × Unit) =>
      if p.2.ofLaunch o then (p.1, { p.2 with parked := false, table := [], routes := s.routesOf o p.2 }) else p
    let t : State := { s with units := s.units.map placed }
    mine.foldl (fun t p => if p.2.bind.routes = 0 then t else t.firmWrite p.2.bind.routes (routeBytes (s.routesOf o p.2))) t

/-- The acquire with which the streams of a new unit start (R268, R284): L1, clean seam blocks and the layer's copies are dropped (assumption 10), and its reads see
what other units' have seen and what near and deep commands that have ended have written. -/
def State.startAcquire (s : State) (u : Nat) : State :=
  let t := ((s.acquire (coreOf u) 5).modLayer (layerOf (coreOf u)) fun l => { l with copies := [] }).adopt u 5
  [0, 1, 2, 3, 4].foldl (fun t q => t.seeWhere u q fun p => p.path == 3 && !p.cmd.any s.commandRuns || p.path == 4 && !p.cmd.any s.commandRuns) t

/-- The queue a pending unit's job came from. -/
def State.queueOf (s : State) (p : Pending) : Nat := match mfind s.jobs p.origin.job with
  | some j => j.q
  | none => 0

/-- How many of the 64 queues the round robin of one `prio` passes before it comes to queue `q` (R288). -/
def State.turnsBefore (s : State) (q : Nat) : Nat := (q + 127 - mget 63 s.served (mget {} s.queues q).prio) % 64

/-- A unit of the launch of `p` has its place: a cohort being placed keeps its turn until it is whole (R288). -/
def State.begun (s : State) (p : Pending) : Bool := p.bind.cohort && s.units.any fun x => x.2.parked && x.2.ofLaunch p.origin

/-- A pending unit goes before `p`: its queue has the higher `prio`, or the earlier turn within one `prio` (R288). -/
def State.goesBefore (s : State) (q p : Pending) : Bool :=
  decide (s.prioOf p < s.prioOf q) || (s.prioOf p == s.prioOf q && decide (s.turnsBefore (s.queueOf q) < s.turnsBefore (s.queueOf p)))

/-- Some unit of a cohort goes before the unit `p`, or work that fits does (R288). -/
def State.outranked (s : State) (p : Pending) : Bool :=
  !s.begun p && s.pend.any fun q => !q.hosted && (s.begun q || (s.goesBefore q p && s.fits q))

/-- Every unit of the launch that still waits has a place left in the instance; one that is no cohort waits for resources (R288). -/
def State.cohortHolds (s : State) (p : Pending) (inst : Nat) : Bool := !p.bind.cohort || (match s.node? p.origin with
  | some n => s.holds p n.span inst (s.waitingOf p.origin)
  | none => false)

/-- Miryen writes the bind record of a pending unit, with its argument block, and names it to the slot, which is dispatching from then on (R291, R293). -/
def State.planUnit (s : State) (u : Nat) (p : Pending) (spbase : Nat) : State :=
  let b := s.bindAt u p spbase
  let t := (s.divideTlb u (tlbWeight p.kte p.bind.ngang0)).firmWrite b.args (argBytes p.args)
  let t := t.firmWrite (s.firmPart 2) (leBytes 64 (b.bits (parseQlim p.qlim.toNat)))
  ({ t with binding := mput t.binding u { value := s.firmPart 2, miryen := true, plan := some (p.origin, b) } } : State).fresh

/-- Miryen's dispatch of the pending unit number `i` begins at unit number `u`, with its division of the TLB sets, one unit at a time. A cohort begins only where all
of it fits. A launch is placed by Miryen when it started so (R288, R293 to R295, R328). -/
def State.dispatchPending (s : State) (u i spbase tlbbase tlbsets : Nat) : State :=
  match s.pend[i]? with
  | none => s
  | some p =>
    if p.hosted || s.binding.any (·.2.plan.isSome) || s.tlbShare u (tlbWeight p.kte p.bind.ngang0) != (tlbbase, tlbsets) || !s.placeable u p spbase || s.outranked p then s
    else
      let t := ({ s with pend := s.pend.eraseIdx i } : State).takePlace u p spbase
      let t := t.modNode p.origin fun n => { n with inst := some (instanceOf n.span (coreOf u)) }
      if !t.cohortHolds p (match s.node? p.origin with
          | some n => instanceOf n.span (coreOf u)
          | none => 0) then s
      else s.planUnit u p spbase

/-- `state` of SLT_STAT (R293): dispatching from the write of SLT_BIND until the unit is created; ending from the condition of R145 until its resources are
released. -/
def State.slotState (s : State) (u : Nat) : Nat := match s.unit? u with
  | none => if (mfind s.binding u).isSome then 1 else 0
  | some x =>
    if x.save.isSome || x.lead.trapped.isSome then 4
    else if (x.over || x.stopping) && s.quiet u x then 3
    else 2

/-- A write to SLT_BIND: taken in state free, where the slot's dispatch hardware begins; in any other `err` becomes 1 (R293). -/
def State.bindWrite (s : State) (u : Nat) (w : Bound) : State :=
  if s.slotState u = 0 then { s with binding := mput s.binding u w } else s.setErr u 1

/-- Dispatch or restore of slot `u` is over. -/
def State.bindDone (s : State) (u : Nat) : State := { s with binding := merase s.binding u }

/-- The dispatch Miryen began ends: the checks of R294 are made, and the unit is created; one whose launch has been cancelled meanwhile is not (R293, R294). -/
def State.dispatchPlan (s : State) (u : Nat) (o : Origin) (b : Bind) : State :=
  let t := s.bindDone u
  match s.pend.find? fun p => p.origin == o with
  | none => t
  | some p =>
    let code := s.admitCode u b p.kte (parseQlim p.qlim.toNat)
    if code ≠ 0 then t.setErr u code
    else
      let t : State := { t with pend := t.pend.erase p, served := mset 63 s.served (s.prioOf p) (s.queueOf p) }
      let t := (t.createUnit u (p.unitOf b) p.args).modNode o fun n => { n with inst := some (instanceOf n.span (coreOf u)) }
      let t := t.startAcquire u
      if p.bind.cohort then t.startCohort o else t

/-- Dispatch of the bind record at `v` in slot `u`; while a part of it lies on a first-touch page it waits (R293, R294). -/
def State.dispatchRecord (s : State) (u : Nat) (v : DWord) : State :=
  let t := s.bindDone u
  match s.readBind v with
    | .later => s
    | .bad => t.setErr u 2
    | .ok b q k args routes =>
      let code := s.admitCode u b k q
      if code ≠ 0 then t.setErr u code
      else
        let mine := s.pend.find? fun p => p.hosted && p.bind.handle == b.handle
        let x : Unit := { bareUnit b k q args (mine.map (·.origin)) with routes := routes }
        let t : State := match mine with
          | some p => { t with pend := t.pend.erase p }
          | none => t
        (t.createUnit u x args).startAcquire u

/-- SLT_BIND_DISPATCH: Miryen writes the bind record of pending unit `pend` (by its number) and names it to the slot; or the host writes the bind record address `v` to
SLT_BIND; or the slot where one was written dispatches the record (R288, R293, R294). -/
def execSltBindDispatch (slot : Nat) (v : BitVec 64) (pend : Option Nat) (spbase tlbbase tlbsets : Nat) (s : State) :
    Host.Outcome State Fault Refusal :=
  .next (match pend, mfind s.binding slot with
    | some i, _ => s.dispatchPending slot i spbase tlbbase tlbsets
    | none, some w => if w.value ≠ v ∨ v.getLsbD 0 then s else match w.plan with
      | some (o, b) => s.dispatchPlan slot o b
      | none => s.dispatchRecord slot v
    | none, none => if s.fsplit.getLsbD 0 && s.hasCore (coreOf slot) && !v.getLsbD 0 then s.bindWrite slot { value := v } else s)

/-! ### QPOOL_LIM (R297) -/

/-- A limit of a unit by class: operand, engine, port, decision. -/
def Qlim.get (q : Qlim) (cls : Nat) : Limit := match cls with
  | 0 => q.operand | 1 => q.engine | 2 => q.port | _ => q.decision

/-- Replaces it. -/
def Qlim.put (q : Qlim) (cls : Nat) (l : Limit) : Qlim := match cls with
  | 0 => { q with operand := l } | 1 => { q with engine := l } | 2 => { q with port := l } | _ => { q with decision := l }

/-- A write to QPOOL_LIM: ignored when the slot is not resident; code 7 when the minimums cannot be backed (R297). -/
def State.setLimit (s : State) (u cls : Nat) (v : DWord) : State :=
  match s.unit? u with
  | none => s
  | some x =>
    if s.slotState u ≠ 2 then s
    else
    let y : Unit := { x with qlim := x.qlim.put cls ⟨recField v.toNat 16 12, recField v.toNat 0 12⟩ }
    if s.poolFree (coreOf u) + x.poolUse < y.poolUse then s.setErr u 7 else s.modUnit u fun _ => y

/-- QPOOL_LIM (R297). -/
def execQpoolLim (slot cls : Nat) (v : BitVec 64) (s : State) : Host.Outcome State Fault Refusal := .next (s.setLimit slot cls v)

end Sys2Proof.Machine
end

