-- ==== Sys2Proof/Machine/Save.lean ====
section
/-! DEFINITION. Pre-emption and restore (R289, R316, R317, R323 to R327): the save-area image, written and read. -/

namespace Sys2Proof.Machine

/-! ### Packed fields -/

/-- Fields (width, value) from bit 0 up. -/
def packFields : List (Nat × Nat) → Nat
  | [] => 0
  | p :: t => p.2 % 2 ^ p.1 + 2 ^ p.1 * packFields t

/-- The values of fields of some widths, from bit 0 up. -/
def unpackFields : List Nat → Nat → List Nat
  | [], _ => []
  | w :: t, v => v % 2 ^ w :: unpackFields t (v / 2 ^ w)

/-- Up to a multiple of 256. -/
def round256 (n : Nat) : Nat := (n + 255) / 256 * 256

/-! ### The layout (R327) -/

/-- Bytes of the matrix section. -/
def matrixBytes : Nat := 295936

/-- Bytes of a gang section. -/
def gangBytes (sregs vregs w : Nat) : Nat := round256 (64 + 160 + 8 * sregs + 128 + 8 * w + 4 * vregs * w + vregs * w / 2)

/-- Offsets of the sections, and the size of the image. -/
structure Layout where
  mtx : Nat
  scr : Nat
  gang : Nat
  size : Nat
  deriving DecidableEq, Repr

/-- The layout of a unit with `qbytes` of queues and `n` gangs. -/
def layoutOf (k : Kte) (b : Bind) (qbytes n : Nat) : Layout :=
  let q := round256 (0x1000 + qbytes)
  let scr := if b.mgrant then q + matrixBytes else q
  let gang := round256 (scr + areaBytes k b.glimit)
  ⟨if b.mgrant then q else 0, scr, gang, gang + n * gangBytes k.sregs k.vregs (8 * (b.wcode + 1))⟩

/-! ### Queues -/

/-- One 16-byte queue record. -/
def queueRec (cls idx gang value : Nat) : List Byte := leBytes 16 (packFields [(64, value), (40, 0), (8, gang), (8, idx), (8, cls)])

/-- Number of an operation, for a saved command. -/
def CmdOp.num : CmdOp → Nat
  | .mldw => 0 | .mswap => 1 | .mma t => 2 + t | .mdrain t => 6 + t | .tcopy => 10 | .strm => 11 | .nmc => 12 | .dread => 13 | .dappend => 14

/-- Number of an engine. -/
def Engine.num : Engine → Nat
  | .tile => 0 | .stream => 1 | .near => 2 | .deep => 3

/-- The queue section: decision queue, ports, operand queues, commands not started (R237, R327). -/
def Unit.queueSection (x : Unit) : List Byte :=
  (x.dq.flatMap fun v => queueRec 0 0 0 v.toNat) ++
    (x.ports.flatMap fun p => p.2.flatMap fun v => queueRec 1 p.1 0 v.toNat) ++
    (x.opq.flatMap fun p => p.2.elems.flatMap fun e => queueRec 2 (p.1 % 16) (p.1 / 16) (packFields [(32, e.r.bits.toNat), (4, e.r.tag.code)])) ++
    ((x.cmds.filter (·.state == .queued)).flatMap fun c =>
      [c.op.num, c.a.toNat, c.b.toNat, c.c.toNat].flatMap fun v => queueRec 3 c.op.engine.num 0 v)

/-- Adds the value of a queue record to its queue. -/
def Unit.takeRec (x : Unit) (r : Nat) : Unit :=
  let idx := recField r 112 8
  let value := recField r 0 64
  match recField r 120 8 with
  | 0 => { x with dq := x.dq ++ [BitVec.ofNat 64 value] }
  | 1 => { x with ports := mput x.ports idx (mget [] x.ports idx ++ [BitVec.ofNat 64 value]) }
  | 2 =>
    let key := 16 * recField r 104 8 + idx
    { x with opq := mput x.opq key { elems := (mget {} x.opq key).elems ++ [{ r := ⟨BitVec.ofNat 32 value, Tag.ofCode (value / 2 ^ 32 % 16)⟩ }] } }
  | _ => x

/-! ### The matrix section -/

/-- Flags as a number. -/
def flagBits (f : SMap Bool) : Nat := f.foldl (fun n p => if p.2 then n + 2 ^ p.1 else n) 0

/-- The flags of a number. -/
def bitFlags (n : Nat) : SMap Bool := ((List.range 128).filter n.testBit).map fun i => (i, true)

/-- Fields of the matrix section's last 1,024 bytes, in the model's own order (assumption 17). -/
def mxFields (m : Matrix) (i : IssueMx) : List (Nat × Nat) :=
  [(1, if m.sel then 1 else 0), (4, m.plane0.tag.code), (128, flagBits m.plane0.nan), (4, m.plane1.tag.code), (128, flagBits m.plane1.nan)] ++
    ([0, 1, 2, 3].flatMap fun t => [(4, (m.tile t).tag.code), (32, (m.tile t).passes), (128, flagBits (m.tile t).nan)]) ++
    [(4, i.active.code), (4, i.shadow.code), (4, i.activeCode), (4, i.shadowCode)] ++ i.tiles.flatMap fun t => [(4, t.1.code), (32, t.2)]

/-- A plane, one byte each weight. -/
def Plane.bytes (p : Plane) : List Byte := (List.range 16384).map fun i => BitVec.ofInt 8 (mget 0 p.w i)

/-- A tile, one triple each 32-bit word. -/
def Tile.bytes (t : Tile) : List Byte := (List.range 16384).flatMap fun i => leBytes 4 (mget 0 t.t i).toNat

/-- The matrix section (R327). -/
def matrixSection (m : Matrix) (i : IssueMx) : List Byte :=
  m.plane0.bytes ++ m.plane1.bytes ++ [0, 1, 2, 3].flatMap (fun t => (m.tile t).bytes) ++ leBytes 1024 (packFields (mxFields m i))

/-- Weights of a plane from its bytes. -/
def planeWeights (bs : List Byte) : SMap Int := (bs.zipIdx.filter fun p => p.1 != 0).map fun p => (p.2, p.1.toInt)

/-- Triples of a tile from its 32-bit words. -/
def tileTriples (v : Nat) : SMap (BitVec 28) :=
  ((List.range 16384).map fun i => (i, BitVec.ofNat 28 (v / 2 ^ (32 * i)))).filter fun p => p.2 != 0

/-- Matrix state and issue-time state from a matrix section. -/
def readMatrix (v : Nat) : Matrix × IssueMx :=
  let plane := fun (k : Nat) => planeWeights (leBytes 16384 (v / 2 ^ (131072 * k)))
  let tri := fun (k : Nat) => tileTriples (v / 2 ^ (262144 + 524288 * k))
  let fs := unpackFields ((mxFields {} {}).map (·.1)) (v / 2 ^ (8 * (matrixBytes - 1024)))
  let f := fun (k : Nat) => fs.getD k 0
  let tile := fun (k : Nat) => ({ tag := Tag.ofCode (f (5 + 3 * k)), t := tri k, nan := bitFlags (f (7 + 3 * k)), passes := f (6 + 3 * k) } : Tile)
  ({ plane0 := { tag := Tag.ofCode (f 1), w := plane 0, nan := bitFlags (f 2) }, plane1 := { tag := Tag.ofCode (f 3), w := plane 1, nan := bitFlags (f 4) },
     sel := f 0 == 1, tiles := [0, 1, 2, 3].foldl (fun m k => mset {} m k (tile k)) [] },
   { active := Tag.ofCode (f 17), shadow := Tag.ofCode (f 18), activeCode := f 19, shadowCode := f 20,
     tiles := [0, 1, 2, 3].map fun k => (Tag.ofCode (f (21 + 2 * k)), f (22 + 2 * k)) })

/-! ### Gang sections -/

/-- Number of a split state (R20). -/
def SplitState.code : SplitState → Nat
  | .free => 0 | .ready => 1 | .waiting => 2 | .demoted => 3 | .trap => 4

/-- The state of a number; reserved numbers are restored as free (R325). -/
def SplitState.ofCode : Nat → SplitState
  | 1 => .ready | 2 => .waiting | 3 => .demoted | 4 => .trap | _ => .free

/-- The image of an entry (R20). -/
def Gang.entryBits (g : Gang) (e : Nat) : Nat :=
  let p := g.entry e
  packFields [(64, p.mask.toNat), (32, p.ip.toNat), (2, p.wd), (3, p.state.code), (3, p.dpos), (1, if p.raised then 1 else 0), (13, p.idle), (6, g.vmcnt p),
    (6, g.spcnt p), (8, p.fpctl.toNat), (8, p.fpflags.toNat), (5, if e = 4 then g.tcode.toNat else 0)]

/-- An entry from its image: `idle`, `raised` and the counters are 0 (R325), reserved bits read as zero (R5, R28, R29). A state that is not its entry's, trap in
entries 0 to 3 or another in the trap entry, is kept as read: DESIGN CHOICE (assumption 83). -/
def readEntry (w v : Nat) : Split :=
  let st := SplitState.ofCode (recField v 98 3)
  if st = .free then {}
  else { mask := BitVec.ofNat 64 (recField v 0 64) &&& widthMask w, ip := BitVec.ofNat 32 (recField v 64 32), wd := recField v 96 2, state := st,
         dpos := recField v 101 3, fpctl := BitVec.ofNat 8 (recField v 130 3), fpflags := BitVec.ofNat 8 (recField v 138 6) }

/-- The section of gang number `n` (R327). -/
def Gang.section (g : Gang) (n : Nat) (k : Kte) : List Byte :=
  let w := g.width
  let regs := (List.range k.vregs).flatMap fun r => (List.range w).map fun l => mget {} g.regs.v (64 * r + l)
  let inTrap := !g.isFree 4
  let body := leBytes 64 (packFields [(7, w), (1, 0), (5, n), (51, 0), (6, g.spill.length), (34, if inTrap then 4 * g.tip.toNat + g.twd else 0),
      (64, if inTrap then g.tmask.toNat else 0)]) ++
    ([0, 1, 2, 3, 4].flatMap fun e => leBytes 32 (g.entryBits e)) ++
    ((List.range k.sregs).flatMap fun r => leBytes 8 (mget 0 g.regs.s r).toNat) ++
    ((List.range 16).flatMap fun r => leBytes 8 (mget 0 g.regs.m r).toNat) ++
    ((List.range w).flatMap fun l => leBytes 8 (mget 0 g.taddr l).toNat) ++
    (regs.flatMap fun r => leBytes 4 r.bits.toNat) ++
    leBytes (k.vregs * w / 2) (packFields (regs.map fun r => (4, r.tag.code)))
  body ++ List.replicate (gangBytes k.sregs k.vregs w - body.length) 0

/-- Values of `n` fields of 64 bits at byte `off` of a number, those other than zero. -/
def wordsAt (v off n : Nat) : SMap DWord :=
  ((List.range n).map fun i => (i, BitVec.ofNat 64 (v / 2 ^ (8 * off + 64 * i)))).filter fun p => p.2 != 0

/-- The elements of a spill stack, top first, from the bytes of its spill area (R24); bits that no lane or field has read as zero (R5, R11). -/
def readSpill (w v depth : Nat) : List Spill :=
  ((List.range (min depth Config.spillDepth)).map fun i =>
    let x := v / 2 ^ (128 * i)
    (⟨BitVec.ofNat 64 (recField x 0 64) &&& widthMask w, BitVec.ofNat 32 (recField x 64 32), BitVec.ofNat 8 (recField x 96 3), BitVec.ofNat 8 (recField x 104 6)⟩ : Spill)).reverse

/-- The bytes of the spill area of a gang. -/
def Gang.spillBytes (g : Gang) : List Byte :=
  let bs := g.spill.reverse.flatMap fun p => leBytes 16 (packFields [(64, p.mask.toNat), (32, p.ip.toNat), (8, p.fpctl.toNat), (8, p.fpflags.toNat)])
  bs ++ List.replicate (512 - bs.length) 0

/-- A gang from its section and its spill area, not yet placed. -/
def readGang (k : Kte) (w v spill : Nat) : Gang :=
  let vbase := 64 + 160 + 8 * k.sregs + 128 + 8 * w
  let regs : SMap VReg := (List.range k.vregs).flatMap fun r => ((List.range w).map fun l =>
    let i := r * w + l
    (64 * r + l, (⟨BitVec.ofNat 32 (v / 2 ^ (8 * vbase + 32 * i)), Tag.ofCode (v / 2 ^ (8 * (vbase + 4 * k.vregs * w) + 4 * i) % 16)⟩ : VReg))).filter
      fun p => p.2 != {}
  let entries := [0, 1, 2, 3, 4].map fun e => (e, readEntry w (v / 2 ^ (8 * (64 + 32 * e)) % 2 ^ 256))
  { width := w
    regs := { s := wordsAt v 224 k.sregs
              m := ((wordsAt v (224 + 8 * k.sregs) 16).map fun p => (p.1, p.2 &&& widthMask w)).filter fun p => p.2 != 0
              v := regs }
    split := entries.filter fun p => p.2.mask != 0
    spill := readSpill w spill (recField v 64 6)
    tcode := BitVec.ofNat 5 (recField (v / 2 ^ (8 * 192)) 146 5)
    tip := BitVec.ofNat 32 (recField v 72 32)
    twd := recField v 70 2
    tmask := BitVec.ofNat 64 (recField v 104 64)
    taddr := wordsAt v (224 + 8 * k.sregs + 128) w }

/-! ### The image -/

/-- Number of a lead state. -/
def LeadState.code : LeadState → Nat
  | .running => 0 | .waiting => 1 | .stopped => 2

/-- The gangs that are saved: those that live. -/
def Unit.savedGangs (x : Unit) : SMap Gang := x.gangs.filter fun p => !p.2.ended

/-- The 64-byte header (R327). -/
def Unit.header (x : Unit) (qbytes : Nat) : List Byte :=
  let y := layoutOf x.kte x.bind qbytes x.savedGangs.length
  let lt := match x.lead.trapped with
    | some t => t.1.code
    | none => 0
  leBytes 64 (packFields [(32, y.size), (2, x.lead.state.code), (2, x.lead.lwd), (5, lt), (23, 0), (32, x.lead.lip.toNat), (32, y.gang), (32, y.scr), (32, y.mtx),
    (32, 0), (32, x.savedGangs.foldl (fun n p => n + 2 ^ p.1) 0), (32, qbytes), (8, x.slots.foldl (fun n p => n + 2 ^ p.1) 0)])

/-- The unit's scratchpad area, its spill areas as R24 lays them out. -/
def State.scratchSection (s : State) (u : Nat) (x : Unit) : List Byte :=
  (List.range x.kte.scratch).map (fun i => mget 0 (s.core (coreOf u)).spad (x.bind.spbase + i)) ++
    (List.range x.bind.glimit).flatMap fun g => match mfind x.savedGangs g with
      | some y => y.spillBytes
      | none => List.replicate 512 0

/-- A list of bytes filled up with zeros. -/
def padTo (n : Nat) (bs : List Byte) : List Byte := bs ++ List.replicate (n - bs.length) 0

/-- The whole image of a unit (R327). -/
def State.image (s : State) (u : Nat) (x : Unit) : List Byte :=
  let q := x.queueSection
  let y := layoutOf x.kte x.bind q.length x.savedGangs.length
  let head := leBytes 64 (x.bind.bits x.qlim) ++ x.header q.length ++
    ((List.range 32).flatMap fun n => leBytes 8 (x.lead.H n).toNat) ++
    ((List.range 16).flatMap fun c => leBytes 8 (mget {} x.chans c).value.toNat) ++
    ((List.range 8).flatMap fun k => leBytes 64 (mget 0 x.slots k).toNat) ++ List.replicate 3072 0 ++ q
  let mx := if x.bind.mgrant then matrixSection (s.core (coreOf u)).mx x.imx else []
  padTo y.gang (padTo y.scr (head ++ List.replicate (y.mtx - head.length) 0 ++ mx) ++ s.scratchSection u x) ++
    x.savedGangs.flatMap fun p => p.2.section p.1 x.kte

/-- Scratchpad words with an uncorrectable error poison the sectors they are saved to (R318). -/
def State.savePoison (s : State) (u : Nat) (x : Unit) (area : DWord) (scr : Nat) : State :=
  ((s.core (coreOf u)).spadBad.filter fun w => decide (x.bind.spbase ≤ 4 * w ∧ 4 * w < x.bind.spbase + x.kte.scratch)).foldl (fun s w =>
    match s.hubPlace (area + BitVec.ofNat 64 (scr + (4 * w - x.bind.spbase))) true with
    | .at (.dev pa) _ => s.poisonSector (sectorOf pa)
    | _ => s) s

/-! ### Pre-emption (R323, R324) -/

/-- What the pages of a range answer to a write or a read. -/
def State.hubSpan (s : State) (va : DWord) (n : Nat) (write : Bool) : EngPlace :=
  ((List.range ((n + 4095) / 4096)).map fun i => s.hubPlace (va + BitVec.ofNat 64 (4096 * i)) write).foldl (fun r p => match r, p with
    | .fault c, _ => .fault c
    | _, .fault c => .fault c
    | .later, _ => .later
    | _, .later => .later
    | _, p => p) (.at (.dev 0) false)

/-- Every unit of a cohort launch stops issuing (R324). -/
def State.parkCohort (s : State) (o : Origin) : State :=
  { s with units := s.units.map fun p => if p.2.ofLaunch o then (p.1, { p.2 with parked := true }) else p }

/-- The other units of a cohort launch. -/
def State.mates (s : State) (u : Nat) (x : Unit) : List (Nat × Unit) := match x.origin with
  | some o => if x.bind.cohort then s.units.filter fun p => p.1 != u && p.2.ofLaunch o else []
  | none => []

/-- The cohort goes on: every member that has not ended is restored (R289, R324). -/
def State.unparkCohort (s : State) (o : Origin) : State :=
  if s.saved.any (fun v => v.launch.job == some o.job && v.origin.any fun p => p.node == o.node) then s
  else if s.pend.any fun p => p.origin.job == o.job && p.origin.node == o.node then s
  else if s.units.any fun p => p.2.ofLaunch o && !p.2.back then s
  else { s with units := s.units.map fun p => if p.2.ofLaunch o then (p.1, { p.2 with parked := false, back := false }) else p }

/-- Every member of the cohort whose unit area `area` holds is saved, restored or over: a cohort is restored only when all of it was saved (R289, R324). -/
def State.cohortSaved (s : State) (area : DWord) : Bool :=
  match (s.saved.find? fun v => v.area == area).bind (·.origin) with
  | some o => s.units.all fun p => !(p.2.bind.cohort && p.2.ofLaunch o) || p.2.back
  | none => true

/-- The trap a lead took is kept for the host (R317). -/
def State.keepsTrap (s : State) (x : Unit) : Bool := s.ctx.hdbg && match x.lead.trapped with
  | some (.breakpoint, _) => true
  | some (.softwareTrap, _) => true
  | _ => false

/-- What is kept beside the image of a unit. -/
def Unit.saved (x : Unit) (u : Nat) (area : DWord) (id : Nat) : Saved :=
  { id := id, area := area, cmds := x.cmds, u := u, origin := x.origin, launch := x.launch, routes := x.routes,
    late := x.lead.late.toList.map (32, ·) ++ x.savedGangs.flatMap fun p => p.2.late.map (p.1, ·), efault := x.efault, fault := x.fault, badVals := x.badVals,
    miryen := x.miryen, badRegs := x.savedGangs.map fun p => (p.1, p.2.badRegs),
    addrs := x.opq.map fun p => (p.1, p.2.elems.map fun q => (q.addr, q.stale)) }

/-- A unit that is saved leaves its slot; its deep copies now arrive in its save area (R323). -/
def State.shelve (s : State) (v : Saved) : State :=
  let t := (s.releaseUnit v.u).seeEnded (areaReader v.id) s.commandRuns
  ({ t with
    saved := t.saved ++ [v]
    restored := t.restored.filter fun w => w.area != v.area
    hub := t.hub.map fun h => if h.owner == .unit v.u then { h with owner := .area v.id } else h } : State).fresh

/-- The image is written, and the unit leaves its slot (R323); a lead trap the host is not to see ends it (R317). -/
def State.saveUnit (s : State) (u : Nat) (x : Unit) (area : DWord) : State :=
  let y := layoutOf x.kte x.bind x.queueSection.length x.savedGangs.length
  let t := (s.hubWriteAll area (s.image u x)).savePoison u x area y.scr
  let stat := x.save.bind (·.stat)
  match x.lead.trapped with
  | some (code, w) =>
    if s.keepsTrap x then
      let v := { x.saved u area s.nextId with trap := true, handed := w, resume := some (s.afterChain u x.kte.cbase x.lead.lip x.lead.lwd) }
      ((t.shelve v).ringPost { what := .leadTrap v.id, handle := x.bind.handle, info := BitVec.ofNat 64 code.code }).writeStat stat 0
    else
      let t := (t.endUnit u x code.code).writeStat stat 1
      match x.origin with
      | some o => if x.bind.cohort then t.unparkCohort o else t
      | none => t
  | none => (t.shelve (x.saved u area s.nextId)).writeStat stat 0

/-- The save goes on: accesses complete, dirty seam blocks of the core are written back and their claims released, then the image is written. -/
def State.trySave (s : State) (u : Nat) (x : Unit) (area : DWord) : State :=
  let c := coreOf u
  if !s.quiet u x || (x.lead.devWait && s.xlt.busy) || x.gangs.any (fun p => [0, 1, 2, 3].any fun e => (p.2.entry e).bar == .passed) || (s.mates u x).any (fun p => !s.quiet p.1 p.2) then s
  else if !s.blocksWritten c then ((s.core c).dress.filter (·.dirty)).foldl (fun s b => s.evict c b) s
  else match s.hubSpan area (layoutOf x.kte x.bind x.queueSection.length x.savedGangs.length).size true with
    | .later => s
    | .fault _ => match x.save.bind (·.stat) with
      | some a => if !s.statFree (some a) then s else (s.modUnit u fun x => { x with save := none }).writeStat (some a) 4
      | none => s
    | .at _ _ =>
      if s.hubOpen area (layoutOf x.kte x.bind x.queueSection.length x.savedGangs.length).size && s.statFree (x.save.bind (·.stat)) then s.saveUnit u x area else s

/-- PREEMPTION: Miryen's policy, a CTXSV or a lead trap has unit `u` saved, at `area` when no CTXSV named one. The first such event stops the unit's
streams, and every member of a cohort; a later one, when its accesses have completed, saves it (R323, R324). -/
def execPreemption (u : Nat) (area : BitVec 64) (s : State) : Host.Outcome State Fault Refusal :=
  .next (match s.unit? u with
    | none => s
    | some x =>
      let a := match x.save with
        | some r => if r.stat.isSome then r.area else area
        | none => area
      if a.toNat % 4096 ≠ 0 || x.cancel || x.ending.isSome || x.back then s
      else if x.save.isNone && x.lead.trapped.isNone then
        let t := s.modUnit u fun x => { x with save := some ⟨a, none⟩ }
        match x.origin with
        | some o => if x.bind.cohort then t.parkCohort o else t
        | none => t
      else if (s.mates u x).any (fun p => !p.2.parked) then match x.origin with
        | some o => s.parkCohort o
        | none => s
      else s.trySave u x a)

/-! ### Restore (R325, R326) -/

/-- What a save area holds, read at the hub: none while a part of it cannot be read yet. -/
inductive AreaRead where
  | later
  | bad (code : Nat)
  | ok (b : Bind) (q : Qlim) (k : Kte) (routes : SMap Route) (head v : Nat)

/-- The header of an image has no reserved bit set and agrees with the bind record and the layout (R326). -/
def headerOk (b : Bind) (k : Kte) (h : Nat) : Bool :=
  let f := recField h
  let n := ((List.range 32).filter fun g => h.testBit (224 + g)).length
  let y := layoutOf k b (f 256 32) n
  f 296 216 == 0 && f 192 32 == 0 && f 41 23 == 0 && f 256 32 % 16 == 0 && f 32 2 != 3 && f 0 32 == y.size && f 160 32 == y.mtx && f 128 32 == y.scr &&
    f 96 32 == y.gang && decide (n ≤ b.glimit)

/-- Miryen wrote the bind record that a save area holds. -/
def State.knownArea (s : State) (area : DWord) : Bool := (s.saved ++ s.restored).any fun v => v.area == area && v.miryen

/-- Reads and checks a save area: code 2 of R294 on its bind record, and the checks of R326; `whole`: Miryen restores a member of a cohort. -/
def State.readArea (s : State) (v : DWord) (whole : Bool) : AreaRead :=
  let area := v &&& ~~~(0xFFF#64)
  match s.readBind area (s.knownArea area) with
  | .later => .later
  | .bad => .bad 2
  | .ok b q k _ routes =>
    match s.hubRead (area + 0x40) 64 with
    | .later => .later
    | .fault _ => .bad 8
    | .val h =>
      if v.toNat % 4096 ≠ 1 || !headerOk b k h || (b.cohort && !whole) then .bad 8
      else
        let scr := recField h 128 32
        let rest := recField h 96 32
        match engJoin [s.hubRead area scr, .val 0], s.hubRead (area + BitVec.ofNat 64 rest) (recField h 0 32 - rest) with
        | .later, _ => .later
        | _, .later => .later
        | .val head, .val gangs => .ok b q k routes head gangs
        | _, _ => .bad 8

/-- The checks of a restore into slot `u`, in order: those of R294 on the bind record, then those of R326. -/
def State.restoreChecks (s : State) (u : Nat) (v : DWord) (whole : Bool) : AreaRead :=
  match s.readBind (v &&& ~~~(0xFFF#64)) (s.knownArea (v &&& ~~~(0xFFF#64))) with
  | .ok b q k _ _ => if s.admitCode u b k q = 0 then s.readArea v whole else .bad (s.admitCode u b k q)
  | _ => s.readArea v whole

/-- The scratchpad section, byte by byte: what can be read, and the words that cannot. -/
def State.restoreScratch (s : State) (u : Nat) (x : Unit) (area : DWord) (scr : Nat) : State :=
  (List.range (x.kte.scratch / 4)).foldl (fun s w =>
    let off := x.bind.spbase + 4 * w
    match s.hubRead (area + BitVec.ofNat 64 (scr + 4 * w)) 4 with
    | .val v => s.spadWrite (coreOf u) off 4 v
    | _ => s.modCore (coreOf u) fun k => { k with spadBad := if k.spadBad.contains (off / 4) then k.spadBad else off / 4 :: k.spadBad }) s

/-- The bytes of a spill area, 0 where they cannot be read. -/
def State.spillAt (s : State) (area : DWord) (off : Nat) : Nat := match s.hubRead (area + BitVec.ofNat 64 off) 512 with
  | .val v => v
  | _ => 0

/-- The unit an image describes, without its gangs. -/
def readUnit (b : Bind) (q : Qlim) (k : Kte) (routes : SMap Route) (v : Nat) : Unit :=
  let h := v / 2 ^ 512 % 2 ^ 512
  let qn := recField h 256 32 / 16
  let chan := fun (i : Nat) => recField (v / 2 ^ (8 * (0x180 + 8 * i))) 0 64
  let x : Unit :=
    { kte := k
      bind := b
      qlim := q
      routes := routes
      lead := { h := merase (wordsAt v 0x80 32) 0, lip := BitVec.ofNat 32 (recField h 64 32), lwd := recField h 34 2,
                state := match recField h 32 2 with
                  | 0 => .running | 1 => .waiting | _ => .stopped }
      slots := ((List.range 8).filter fun i => h.testBit (288 + i)).map fun i => (i, BitVec.ofNat 512 (v / 2 ^ (8 * (0x200 + 64 * i))))
      chans := (List.range 16).foldl (fun m i => mset {} m i ⟨chan i % 2 ^ 63, decide (2 ^ 63 ≤ chan i)⟩) []
      imx := if b.mgrant then (readMatrix (v / 2 ^ (8 * recField h 160 32))).2 else {} }
  (List.range qn).foldl (fun x i => x.takeRec (v / 2 ^ (8 * (0x1000 + 16 * i)) % 2 ^ 128)) x

/-- Places the gangs of an image; none when one has no context or rows. -/
def State.placeGangs (s : State) (u : Nat) (k : Kte) : List (Nat × Gang) → Option State
  | [] => some s
  | (n, g) :: t => match s.gangSlices u k.vregs g.width with
    | some sl => (s.modUnit u fun x => { x with gangs := mput x.gangs n { g with slices := sl } }).placeGangs u k t
    | none => none

/-- The lead of a restored unit: one whose trap the host has answered resumes after the trapping chain (R317). -/
def Saved.leadOf (o : Saved) (l : Lead) : Lead :=
  let l : Lead := { l with late := (o.late.find? (·.1 == 32)).map (·.2) }
  match o.resume with
  | some r => { l with lip := r.1, lwd := r.2, state := .running }
  | none => l

/-- What was kept beside a save area that is restored once more: the unit is a like one, which belongs to no launch; its commands are accepted anew (R326). -/
def Saved.again (o : Saved) (n : Nat) : Saved :=
  { o with origin := none, cmds := (o.cmds.filter fun c => c.state == .queued).zipIdx.map fun p => { p.1 with id := n + p.2 } }

/-- The elements of a restored operand queue with the addresses they were fetched from, so that a fence can have them fetched again (R197, R339). -/
def OpQueue.known (q : OpQueue) (l : List (Option DWord × Bool)) : OpQueue :=
  { elems := q.elems.mapIdx fun k e => { e with addr := (l.getD k (none, false)).1, stale := (l.getD k (none, false)).2 } }

/-- The unit is recreated from what was read (R325); code 4 of R294 when its gangs have no contexts or rows. -/
def State.recreate (s : State) (u : Nat) (area : DWord) (b : Bind) (q : Qlim) (k : Kte) (routes : SMap Route) (v gangs : Nat) : State :=
  let h := v / 2 ^ 512 % 2 ^ 512
  let w := 8 * (b.wcode + 1)
  let old := (s.saved.filter fun p => p.area == area).getLast?
  let x := readUnit b q k routes v
  let kept : Option Saved := match old with
    | some o => some o
    | none => (s.restored.find? fun p => p.area == area).map (·.again s.nextId)
  let x : Unit := match kept with
    | some o => { x with cmds := o.cmds, origin := o.origin, routes := o.routes, efault := o.efault, fault := o.fault, badVals := o.badVals, parked := b.cohort,
                         back := b.cohort, miryen := o.miryen, lead := o.leadOf x.lead, opq := x.opq.map fun p => (p.1, p.2.known (mget [] o.addrs p.1)) }
    | none => x
  let scr := recField h 128 32
  let late := (kept.map (·.late)).getD []
  let gs := ((List.range 32).filter fun g => h.testBit (224 + g)).zipIdx.map fun p =>
    (p.1, { readGang k w (gangs / 2 ^ (8 * p.2 * gangBytes k.sregs k.vregs w)) (s.spillAt area (scr + k.scratch + 512 * p.1)) with
      late := (late.filter (·.1 == p.1)).map (·.2)
      badRegs := mget [] ((kept.map (·.badRegs)).getD []) p.1 })
  let s := s.bindDone u
  match ({ s with units := mput s.units u x, nextId := s.nextId + x.cmds.length } : State).placeGangs u k gs with
  | none => s.setErr u 4
  | some t =>
    let c := coreOf u
    let t := (t.clearArea c b.spbase (areaBytes k b.glimit)).restoreScratch u x area scr
    let t := t.modCore c fun c =>
      { c with
        tlb := c.tlb.filter fun e => e.own != u
        grant := if b.mgrant then some (slotOf u) else c.grant
        mx := if b.mgrant then (readMatrix (v / 2 ^ (8 * recField h 160 32))).1 else c.mx }
    let t := (t.returned u x).seeEnded u s.commandRuns
    match old with
    | none => t
    | some o =>
      let t : State := { t with saved := t.saved.filter fun p => p.id != o.id, restored := o :: t.restored,
                                hub := t.hub.map fun h => if h.owner == .area o.id then { h with owner := .unit u } else h }
      match o.origin with
      | some n => if b.cohort then t.unparkCohort n else t
      | none => t

/-- A restore of the save area `w` names (bit 0 set) into slot `u` (R326). A unit the host has not yet answered for stays saved (R317). -/
def State.restore (s : State) (u : Nat) (w : Bound) : State :=
  let area := w.value &&& ~~~(0xFFF#64)
  if (s.saved.any fun p => p.area == area && p.trap) || !s.areaOpen area then s
  else match s.restoreChecks u w.value (w.miryen && s.cohortSaved area && s.saved.any fun p => p.area == area && p.u == u) with
    | .later => s
    | .bad code => (s.bindDone u).setErr u code
    | .ok b q k routes head gangs => s.recreate u area b q k routes head gangs

/-- Fields of a number replaced: first bit, width, value. -/
def putFields (v : Nat) (fs : List (Nat × Nat × Nat)) : Nat :=
  fs.foldl (fun v f => v - recField v f.1 f.2.1 * 2 ^ f.1 + f.2.2 % 2 ^ f.2.1 * 2 ^ f.1) v

/-- Before it restores a unit, Miryen writes its place into the bind record of the save area: where its area was, or a free place, and its share of the TLB sets
(R295, R326). -/
def State.rebind (s : State) (u : Nat) (area : DWord) : State :=
  match s.readBind area (s.knownArea area), s.hubRecord area 64 with
  | .ok b _ k _ _, .val v =>
    let w := tlbWeight k b.ngang0
    let free := fun (base : Nat) => decide (base + areaBytes k b.glimit ≤ Config.spadBytes) &&
      !(s.unitsOf (coreOf u)).any fun p => overlaps base (areaBytes k b.glimit) p.2.bind.spbase (areaBytes p.2.kte p.2.bind.glimit)
    let base := ((b.spbase :: s.spadPlaces (coreOf u)).find? free).getD b.spbase
    (s.divideTlb u w).hubWriteAll area (leBytes 64 (putFields v [(256, 19, base), (304, 6, (s.tlbShare u w).1), (312, 7, (s.tlbShare u w).2)]))
  | _, _ => s

/-- The core lies in the instance of `span` the launch of the save area's unit is in (R289). -/
def State.inSpan (s : State) (c : Nat) (area : DWord) : Bool :=
  match (s.saved.find? fun p => p.area == area).bind (·.origin) with
  | some o => match s.node? o with
    | some n => match n.inst with
      | some i => instanceOf n.span c == i
      | none => true
    | none => true
  | none => true

/-- A cohort is being placed: Miryen restores no unit meanwhile (R288). -/
def State.placing (s : State) : Bool := s.pend.any s.begun

/-- SLT_BIND_RESTORE: Miryen writes the save area `v` to SLT_BIND, within the `span` of its launch, a cohort only whole; or the slot where it was written restores
the unit (R289, R293, R326). -/
def execSltBindRestore (slot : Nat) (v : BitVec 64) (s : State) : Host.Outcome State Fault Refusal :=
  .next (
    let area := v &&& ~~~(0xFFF#64)
    match mfind s.binding slot with
    | some w => if w.value = v ∧ v.getLsbD 0 then s.restore slot w else s
    | none =>
      if v.getLsbD 0 && s.hasCore (coreOf slot) && s.inSpan (coreOf slot) area && s.cohortSaved area && !s.placing then
        if !s.hubOpen area 64 then s
        else if s.slotState slot = 0 then (s.rebind slot area).bindWrite slot { value := v, miryen := true } else s.bindWrite slot { value := v, miryen := true }
      else s)

end Sys2Proof.Machine
end

