-- ==== Sys2Proof/Machine/Touch.lean ====
section
/-! DEFINITION. The first-touch service (R309 to R311) and the host's answers to fault-ring records (R311, R317, R329). -/

namespace Sys2Proof.Machine

/-! ### The service (R310, R311) -/

/-- The pool: array and count. -/
inductive Pool where
  | later
  | none
  | at (array count : Nat)

/-- The pool of the context; one that is empty or cannot be read is none. -/
def State.pool (s : State) : Pool :=
  if s.ctx.ftpool = 0 then .none
  else match s.hubRead s.ctx.ftpool 12 with
    | .later => .later
    | .fault _ => .none
    | .val v => if v / 2 ^ 64 = 0 then .none else .at (v % 2 ^ 64) (v / 2 ^ 64)

/-- A page of 64 KiB reads as zeros; no copy of it is left, and no mark (R248, R311). -/
def State.zeroPage (s : State) (pa : Nat) : State :=
  let inside := fun (a : Nat) => decide (pa ≤ a ∧ a < pa + 65536)
  { s with
    mem := s.mem.filter fun p => !inside p.1
    poison := s.poison.filter fun q => !inside (32 * q)
    layers := s.layers.map fun l => (l.1, { l.2 with copies := l.2.copies.filter fun p => !inside (32 * p.1) })
    cores := s.cores.map fun k => (k.1, { k.2 with l1 := k.2.l1.filter fun p => p.1 % 2 == 1 || !inside (32 * (p.1 / 2)) }) }

/-- The entry of a first-touch page, mapped at `pa` (R311). -/
def touchLeaf (e : DWord) (pa : Nat) : DWord := (e &&& ~~~(0x000FFFFFFFFFF00F#64)) ||| BitVec.ofNat 64 (pa % 2 ^ 52) ||| 3

/-- The handle a record about unit `u` names. -/
def State.handleOf (s : State) (u : Nat) : DWord := match s.unit? u with
  | some x => x.bind.handle
  | none => 0

/-- A first-touch record is written, unless one stands already, and the streams that are held for the entry are noted (R311). -/
def State.postTouch (s : State) (u entry : Nat) (va : DWord) : State :=
  if s.fr.pending (.touch entry) then s
  else
    let t := s.ringPost { what := .touch entry, addr := va, handle := s.handleOf u }
    { t with agenda := .touched entry :: t.agenda }

/-- Miryen maps a page of the pool, or asks the host when there is none or the function is the host's; an entry that the host has been asked about stays the
host's (R311, R328). -/
def State.serveTouch (s : State) (u entry : Nat) (va : DWord) : State :=
  if s.fr.pending (.touch entry) || s.held (sectorOf entry) then s
  else if s.fsplit.getLsbD 1 then s.postTouch u entry va
  else match s.pool with
    | .later => s
    | .none => s.postTouch u entry va
    | .at array count => match s.hubRead (BitVec.ofNat 64 (array + 8 * (count - 1))) 8 with
      | .later => s
      | .fault _ => s.postTouch u entry va
      | .val pa =>
        if pa % 65536 ≠ 0 ∨ !s.backed pa then s.postTouch u entry va
        else if !s.hubOpen (s.ctx.ftpool + 8) 4 || s.asleep pa then s
        else
          let t := s.hubWriteAll (s.ctx.ftpool + 8) (leBytes 4 (count - 1))
          let t := t.reach pa
          let e := BitVec.ofNat 64 (t.mem.readNat entry 8)
          ((t.forget 0 fun a => decide (pa ≤ a ∧ a < pa + 65536)).zeroPage pa).outsideWrite (valueAt entry 8 (touchLeaf e pa).toNat) false

/-- FIRST_TOUCH_SERVICE (R311). -/
def execFirstTouchService (u : Nat) (va : BitVec 64) (s : State) : Host.Outcome State Fault Refusal :=
  .next (if s.inPeerRegion va then s else match s.walk va.toNat with
    | .touch entry => s.serveTouch u entry va
    | _ => s)

/-! ### Refusal (R311) -/

/-- The streams of the machine. -/
def State.streams (s : State) : List Stream :=
  s.units.flatMap fun p => .lead p.1 :: p.2.gangs.flatMap fun q => ([0, 1, 2, 3, 4].filter fun e => !q.2.isFree e).map fun e => .split p.1 q.1 e

/-- A tile or stream command that was held for a refused entry has its fault. -/
def State.refuseCmd (s refused : State) (u : Nat) (c : Cmd) : State :=
  match s.unit? u with
  | none => s
  | some x =>
    if c.state != .started || c.bad then s
    else match s.runCmd u x c, refused.runCmd u x c with
      | .later, .fault f a _ => s.modUnit u (·.modCmd c.id fun c => { c with bad := true, err := f.code + 32 * a.toNat })
      | _, _ => s

/-- What the hub, Miryen and the dressing units may hold: each finds the refusal and fails. -/
def State.heldAccesses (s : State) : List Held :=
  (s.units.flatMap fun p => p.2.cmds.filterMap fun c => match c.op with
    | .nmc => some (.near c.id) | .dread => some (.read c.id) | .dappend => some (.append c.id) | _ => none) ++
  ((s.hub.filter (·.queued)).filterMap fun h => match h.op with
    | .dread => some (.read h.id) | .dappend => some (.append h.id) | _ => none) ++
  (s.cores.flatMap fun c => c.2.seamq.map fun q => .claim c.1 q.sidx q.blk) ++
  (s.units.flatMap fun p => (p.2.lead.ops ++ p.2.gangs.flatMap fun g => g.2.ops).flatMap fun o => o.accs.filterMap fun a => match a.loc with
    | .seam i b _ => some (.fill (coreOf p.1) i b)
    | _ => none) ++
  (s.jobs.flatMap fun j => (List.range j.2.nodes.length).map fun k => .wait j.1 k)

/-- Verdict 1 for a first-touch entry: every access held for it fails (R311). -/
def State.refuseTouch (s : State) (entry : Nat) : State :=
  let r : State := { s with refused := entry :: s.refused }
  let t := s.units.foldl (fun s p => p.2.cmds.foldl (fun s c => s.refuseCmd r p.1 c) s) s
  let t := s.units.foldl (fun t p => t.refetchFrom r p.1 (·.stale)) t
  { t with
    refused := entry :: t.refused
    agenda := (t.streams.map fun st => Micro.denied st entry) ++ t.heldAccesses.map Micro.retry ++ Micro.allow entry :: t.agenda }

/-- The accesses held for a first-touch entry are held no longer. -/
def State.unhold (s : State) (entry : Nat) : State := { s with fr := { s.fr with held := s.fr.held.filter (·.1 != entry) } }

/-! ### Units kept for the host (R317) -/

/-- A unit in a save area ends with a trap code, or 0. -/
def State.endSaved (s : State) (v : Saved) (code : Nat) : State :=
  let t := (v.cmds.filter fun c => c.state == .queued && (c.op.engine == .near || c.op.engine == .deep)).foldl (fun s c =>
    s.hubCancel { id := c.id, op := c.op, owner := .gone, launch := some v.launch, b := c.b }) s
  let t := ({ t with
    saved := t.saved.filter fun w => w.id != v.id
    hub := t.hub.map fun h => if h.owner == .area v.id then { h with owner := .gone } else h } : State).unitOver v.origin code
  let t := t.noteEnd v.u v.launch
  match v.origin with
  | some o => t.unparkCohort o
  | none => t

/-- Lets a unit kept for the host be restored. -/
def State.releaseTrap (s : State) (id : Nat) : State := { s with saved := s.saved.map fun v => if v.id = id then { v with trap := false } else v }

/-! ### FR_ACK (R329) -/

/-- The host answers a record. -/
def State.frAck (s : State) (seq : Nat) (deny : Bool) : State :=
  match s.fr.answered seq with
  | none => s
  | some r =>
    let t := s.ringAnswer seq
    match r.what with
    | .touch entry => if deny then t.refuseTouch entry else t.unhold entry
    | .leadTrap id =>
      if deny then match t.saved.find? fun v => v.id == id with
        | some v => t.endSaved v (r.info.toNat % 32)
        | none => t
      else t.releaseTrap id
    | .error => t

/-- FR_ACK, verdict 0 (R311, R317, R329). -/
def execFrAckVerdict0 (seq : BitVec 32) (s : State) : Host.Outcome State Fault Refusal := .next (s.frAck seq.toNat false)

/-- FR_ACK, verdict 1 (R311, R317, R329). -/
def execFrAckVerdict1 (seq : BitVec 32) (s : State) : Host.Outcome State Fault Refusal := .next (s.frAck seq.toNat true)

end Sys2Proof.Machine
end

