-- ==== Sys2Proof/Machine/Jobs.lean ====
section
/-! DEFINITION. Submission queues and jobs (R276 to R287): acceptance, nodes, completion, CANCEL and CTXSV (R234, R235). -/

namespace Sys2Proof.Machine

/-! ### Tables (R278, R279) -/

/-- What reading a table finds. -/
inductive Table (α : Type) where
  | later
  | bad
  | ok (x : α)

/-- An entry of a phase or graph table: the address, the count, whether it is in error. -/
def tableEntry (x align lim width : Nat) : Option (DWord × Nat) :=
  let n := recField x 64 width
  if recField x (64 + width) (64 - width) = 0 ∧ 1 ≤ n ∧ n ≤ lim ∧ recField x 0 64 % align = 0 then some (BitVec.ofNat 64 (recField x 0 64), n) else none

/-- Reads `n` entries of 16 bytes at `va`. -/
def State.readTable (s : State) (va : DWord) (n align lim width : Nat) : Table (List (DWord × Nat)) :=
  if va.toNat % 16 ≠ 0 then .bad
  else match s.hubRead va (16 * n) with
    | .later => .later
    | .fault _ => .bad
    | .val v =>
      let es := (List.range n).map fun i => tableEntry (v / 2 ^ (128 * i) % 2 ^ 128) align lim width
      if es.all Option.isSome then .ok (es.filterMap id) else .bad

/-- Reads the graph tables of some phases. -/
def State.readGraphs (s : State) : List (DWord × Nat) → Table (List (List (DWord × Nat)))
  | [] => .ok []
  | p :: t => match s.readTable p.1 p.2 64 64 7, s.readGraphs t with
    | .later, _ => .later
    | _, .later => .later
    | .ok g, .ok gs => .ok (g :: gs)
    | _, _ => .bad

/-- The tables a job record names: reserved bits, counts and addresses in order, or the record is in error (R279). -/
def State.readJob (s : State) (r : Nat) : Table (List (List (DWord × Nat))) :=
  if r / 2 ^ 210 ≠ 0 ∨ recField r 192 16 = 0 then .bad
  else match s.readTable (BitVec.ofNat 64 (recField r 64 64)) (recField r 192 16) 16 65535 16 with
    | .later => .later
    | .bad => .bad
    | .ok ps => s.readGraphs ps

/-! ### Completion (R279, R285, R286) -/

/-- The error record of a completion record that cannot be written (R279). -/
def State.compError (s : State) (b : Job) : State :=
  s.report 11 b.comp none (some (b.q * 65536 + b.ring))

/-- `status` of a job (R286). -/
def Job.status (b : Job) : Nat :=
  if b.recErr then 1 else if b.cancelJ || !b.cancelP.isEmpty || !b.cancelGs.isEmpty then 3 else if b.nfail ≠ 0 then 2 else 0

/-- The 32 bytes of a job completion record (R286). -/
def Job.record (b : Job) : List Byte :=
  leBytes 32 (b.code % 2 ^ 32 + b.nphdone % 2 ^ 32 * 2 ^ 32 + b.nfail % 2 ^ 32 * 2 ^ 64 + b.status * 2 ^ 112 + 2 ^ 127 + b.first.toNat * 2 ^ 128 +
    b.tag.toNat * 2 ^ 192)

/-- The job leaves the device; the next job of its queue may start. -/
def State.dropJob (s : State) (j : Nat) : State :=
  { s with jobs := (merase s.jobs j).map fun p => (p.1, if p.2.prev = some j then { p.2 with prev := none } else p.2) }

/-- A near or deep command of the job is still at the hub: its writes are the job's (R269). -/
def State.copies (s : State) (j : Nat) : Bool :=
  s.hub.any fun h => h.launch.any (·.job == some j) || (match h.owner with
    | .node i _ => i == j
    | _ => false)

/-- A whole-sector write to a place would be discarded: its sector is poisoned, and its page has no `pm` (R319). -/
def State.discards (s : State) (l : Loc) (pm : Bool) : Bool := match l with
  | .dev pa => s.poisoned pa && !pm
  | _ => false

/-- The completion record is written after every write of the job, or an error record in its place; while the page is a first-touch page the job waits
(R269, R279). -/
def State.endJob (s : State) (j : Nat) (b : Job) : State :=
  let t : State := { s with jobs := mput s.jobs j { b with finished := true } }
  if s.copies j then t
  else match s.hubPlace b.comp true with
  | .later => t
  | .fault _ => (t.compError b).dropJob j
  | .at l pm =>
    if !s.hubFree l then t
    else if s.discards l pm then (t.compError b).dropJob j
    else (t.hubStore l b.record pm).dropJob j

/-- The next graph of a job whose graph has ended, failed and cancelled parts skipped; none when its counter is 0 (R234, R285). A phase
one of whose graphs was cancelled is not counted in `nphdone`: DESIGN CHOICE (R286, assumption 114). -/
def Job.next (b : Job) : Nat → Job × Bool
  | 0 => (b, true)
  | n + 1 =>
    if b.cancelJ then (b, true)
    else match b.phases[b.phase]? with
      | none => (b, true)
      | some gs =>
        let cut := b.phaseCut || b.cancelP.contains b.phase
        if b.phaseFailed || b.cancelP.contains b.phase || decide (gs.length ≤ b.graph) then
          let c : Job := { b with phase := b.phase + 1, graph := 0, phaseFailed := false, phaseCut := false,
                                  nphdone := b.nphdone + if b.phaseFailed || cut then 0 else 1 }
          if b.phaseFailed && !b.cont then (c, true) else c.next n
        else if b.cancelGs.contains (b.phase, b.graph) then ({ b with graph := b.graph + 1, phaseCut := true } : Job).next n
        else (b, false)

/-- Phases and graphs left to look at. -/
def Job.fuel (b : Job) : Nat := (b.phases.map (·.length + 1)).foldl (· + ·) 2

/-- The graph that is running has been cancelled. -/
def Job.graphCut (b : Job) : Bool := b.cancelJ || b.cancelP.contains b.phase || b.cancelGs.contains (b.phase, b.graph)

/-- A handle (R287). -/
def handleBits (phase graph node : Nat) : DWord := BitVec.ofNat 64 (2 ^ 48 + phase * 2 ^ 32 + graph * 2 ^ 16 + node)

/-- Deep copies of a cancelled graph that are still running (R234). -/
def State.copying (s : State) (j : Nat) (b : Job) : Bool :=
  s.hub.any fun h => (match h.launch with
    | some l => l.job == some j && recField l.handle.toNat 32 16 == b.phase && recField l.handle.toNat 16 16 == b.graph
    | none => false) || (match h.owner with
    | .node i _ => i == j
    | _ => false)

/-- When every node of the graph is over, the graph ends, then its phase and its job as their counters reach 0 (R285, R286). -/
def State.settleJob (s : State) (j : Nat) : State :=
  match mfind s.jobs j with
  | none => s
  | some b =>
    if b.finished || b.recErr then s.endJob j b
    else if (b.nodes.isEmpty && !b.graphCut) || b.nodes.any (·.finished.isNone) || (b.graphCut && s.copying j b) then s
    else
      let failed := b.nodes.any fun n => n.finished == some .failed
      let c : Job := if b.graphCut then { b with nodes := [], phaseCut := true, phaseFailed := failed } else { b with nodes := [], graph := b.graph + 1, phaseFailed := failed }
      let r := c.next c.fuel
      if r.2 then s.endJob j r.1 else { s with jobs := mput s.jobs j r.1 }

/-! ### Acceptance -/

/-- A queue (R277). -/
def State.queue (s : State) (q : Nat) : SubQueue := mget {} s.queues q

/-- The job a serial job of queue `q` waits for: the one accepted just before it, while it is not finished (R278). -/
def State.lastJob (s : State) (q : Nat) : Option Nat := (s.queue q).last.filter fun j => (mfind s.jobs j).isSome

/-- Queues of the presented device (R276, R356). -/
def State.queueCount (s : State) : Nat := 64 / s.ctx.pmode

/-- JOB_ACCEPT: the next submitted record of queue `q` is read, its `comp` checked and its tables read (R277 to R279). Of a record that the link delivers poisoned,
`comp` fails its check where its own sector is marked, and the record is in error where another is: DESIGN CHOICE (assumption 107). -/
def execJobAccept (q : Nat) (s : State) : Host.Outcome State Fault Refusal :=
  .next (
    let k := s.queue q
    if !k.en || k.head == k.tail || s.fatal || decide (s.queueCount ≤ q) then s
    else
      let r := s.hostMem.readNat (k.base.toNat + 128 * k.head) 128
      let comp := BitVec.ofNat 64 (recField r 128 64)
      let read := fun (last : Option Nat) => ({ s with queues := mset {} s.queues q { k with head := (k.head + 1) % 2 ^ k.size, last := last } } : State)
      let t := read none
      let b : Job := { q := q, ring := k.head, tag := BitVec.ofNat 64 (recField r 0 64), comp := comp, cont := r.testBit 209,
                       prev := if r.testBit 208 then s.lastJob q else none }
      let marked := fun (i : Nat) => s.linkPoisoned (k.base.toNat + 128 * k.head + 32 * i)
      if comp.toNat % 32 ≠ 0 ∨ marked 0 then t.compError b
      else match s.hubPlace comp true with
        | .later => s
        | .fault _ => t.compError b
        | .at _ _ =>
          let j := s.nextId
          let t := read (some j)
          match if marked 1 || marked 2 || marked 3 then .bad else s.readJob r with
          | .later => s
          | .bad => (({ t with jobs := mput t.jobs j { b with recErr := true } } : State).fresh).settleJob j
          | .ok ps => ({ t with jobs := mput t.jobs j { b with phases := ps } } : State).fresh)

/-! ### Nodes (R280 to R284) -/

/-- A field of a node record. -/
def Node.field (n : Node) (lo len : Nat) : Nat := recField n.img.toNat lo len
/-- `kind`. -/
def Node.kind (n : Node) : Nat := n.field 320 3
/-- `pred`. -/
def Node.pred (n : Node) : Nat := n.field 0 64
/-- `addr`. -/
def Node.addr (n : Node) : DWord := BitVec.ofNat 64 (n.field 128 64)
/-- `arg`. -/
def Node.arg (n : Node) : DWord := BitVec.ofNat 64 (n.field 192 64)

/-- The checks of R281 that the record alone decides, for node `k` of `cnt`; `priv` of its queue. -/
def Node.bad (n : Node) (k cnt : Nat) (priv : Bool) : Bool :=
  let f := n.field
  let reserved := f 368 16 != 0 || f 350 2 != 0 || f 342 2 != 0 || f 335 1 != 0 || f 331 1 != 0 || f 326 2 != 0
  let masks := decide (2 ^ cnt ≤ n.pred) || n.pred.testBit k || n.pred ||| f 64 64 != n.pred || f 360 8 &&& f 352 8 != 0
  let launch :=
    decide (f 384 32 = 0 ∨ 2 ^ 20 < f 384 32) || f 332 3 == 0 || f 332 3 == 7 || (f 256 64 != 0 && (f 323 1 == 0 || decide (2 < f 332 3))) ||
      (f 324 1 == 1 && !priv) || decide (32 < f 344 6 ∨ f 344 6 < f 336 6) || (f 344 6 != 0 && f 336 6 == 0)
  let only := f 384 128 != 0 || f 344 24 != 0 || f 323 23 != 0 || f 256 64 != 0
  reserved || masks || decide (3 < n.kind) || (if n.kind = 0 then launch else only) || (n.kind == 3 && f 192 64 != 0)

/-- The nodes whose predecessors can all finish, as a mask; pass after pass (R281). -/
def reachable (nodes : List Node) : Nat → Nat → Nat
  | 0, done => done
  | m + 1, done => reachable nodes m (nodes.zipIdx.foldl (fun d p =>
      let need := p.1.pred % 2 ^ nodes.length &&& (2 ^ 64 - 1 - 2 ^ p.2)
      if need &&& d == need then d ||| 2 ^ p.2 else d) done)

/-- The predecessor masks form a cycle. -/
def cyclic (nodes : List Node) : Bool := reachable nodes nodes.length 0 != 2 ^ nodes.length - 1

/-- Updates a job. -/
def State.modJob (s : State) (j : Nat) (f : Job → Job) : State := { s with jobs := mmodify s.jobs j f }

/-- A node is over; a failed one is counted, and the first one named (R285, R286). -/
def Job.finish (b : Job) (k : Nat) (e : NodeEnd) (code : Nat) : Job :=
  let c : Job := { b with nodes := b.nodes.modify k fun n => { n with finished := some e } }
  if e = .failed then
    { c with nfail := b.nfail + 1, first := if b.first = 0 then handleBits b.phase b.graph k else b.first, code := if b.first = 0 then code else b.code }
  else c

/-- A node fails with a status or trap code. -/
def State.failNode (s : State) (j k code : Nat) : State := (s.modJob j (·.finish k .failed code)).settleJob j

/-- The graph that is to run starts: its nodes are read (R279); a cycle fails every one of them (R281). -/
def State.startGraph (s : State) (j : Nat) (b : Job) : State :=
  match (b.phases[b.phase]?.bind (·[b.graph]?)) with
  | none => s
  | some (va, n) =>
    match s.hubRead va (64 * n) with
    | .later => s
    | .fault _ => (s.modJob j fun b => { b with recErr := true }).settleJob j
    | .val v =>
      let nodes := (List.range n).map fun i => ({ img := BitVec.ofNat 512 (v / 2 ^ (512 * i)) } : Node)
      let c : Job := { b with nodes := nodes }
      if cyclic nodes then
        (s.modJob j fun _ => (List.range n).foldl (fun c k => c.finish k .failed 1) c).settleJob j
      else s.modJob j fun _ => c

/-- A launch's unit. -/
def Node.pending (n : Node) (j k : Nat) (handle : DWord) (kte : Kte) (args : List DWord) (table : SMap (Nat × Nat)) (hosted : Bool)
    (i : Nat) : Pending :=
  { origin := ⟨j, k, i⟩
    bind := { cohort := n.field 323 1 == 1, sys := n.field 324 1 == 1, mgrant := n.field 325 1 == 1, wcode := n.field 328 3, glimit := n.field 344 6,
              ngang0 := n.field 336 6, handle := handle, args := n.arg, kte := n.addr }
    kte := kte
    qlim := BitVec.ofNat 96 (n.field 416 96)
    args := args.mapIdx fun a x => if (n.field 352 8).testBit a then BitVec.ofNat 64 i else if (n.field 360 8).testBit a then handle else x
    routes := table
    hosted := hosted }

/-- The logical route table (R281): unit index and port by port; none when an entry is in error. -/
def parseTable (v units : Nat) : Option (SMap (Nat × Nat)) :=
  let e := fun (p : Nat) => v / 2 ^ (32 * p) % 2 ^ 32
  if (List.range 16).all fun p => recField (e p) 4 4 == 0 && recField (e p) 28 3 == 0 && !((e p).testBit 31 && decide (units ≤ recField (e p) 8 20)) then
    some (((List.range 16).filter fun p => (e p).testBit 31).map fun p => (p, recField (e p) 8 20, recField (e p) 0 4))
  else none

/-- Cores of the largest instance of a level. -/
def State.coresWithin (s : State) (span : Nat) : Nat :=
  ((List.range 768).map fun i => ((List.range 768).filter fun c => s.hasCore c && instanceOf span c == i).length).foldl max 0

/-- A launch that can never be placed (R288). -/
def State.neverFits (s : State) (n : Node) (p : Pending) : Bool :=
  let one := ({ svy := s.svy } : State).room p 0 [0, 1, 2, 3]
  one == 0 || s.coresWithin n.span == 0 || (p.bind.cohort && decide (s.coresWithin n.span * one < n.field 384 32))

/-- A node has started. -/
def State.started (s : State) (j k live : Nat) : State :=
  s.modJob j fun b => { b with nodes := b.nodes.modify k fun n => { n with started := true, live := live } }

/-- A launch node starts: what it names is read and checked, and its units wait for places (R281, R282). -/
def State.startLaunch (s : State) (j k : Nat) (b : Job) (n : Node) : State :=
  let aux := BitVec.ofNat 64 (n.field 256 64)
  match s.hubRecord n.addr 32, s.hubRecord n.arg 64, (if aux = 0 then .val 0 else s.hubRecord aux 64) with
  | .later, _, _ => s
  | _, .later, _ => s
  | _, _, .later => s
  | .val kv, .val av, .val rv =>
    match parseKte kv, parseTable rv (n.field 384 32) with
    | some kte, some table =>
      let unit := n.pending j k (handleBits b.phase b.graph k) kte (parseArgs av) table (s.fsplit.getLsbD 0)
      if !gangsAgree kte (n.field 336 6) (n.field 344 6) then s.failNode j k 1
      else if !s.fsplit.getLsbD 0 && s.neverFits n (unit 0) then s.failNode j k 1
      else
        let t := s.started j k (n.field 384 32)
        { t with pend := t.pend ++ (List.range (n.field 384 32)).map unit }
    | _, _ => s.failNode j k 1
  | _, _, _ => s.failNode j k 1

/-- A deep node starts: its request goes to the deep engine, with no channel (R282). -/
def State.startDeep (s : State) (j k : Nat) (b : Job) (n : Node) : State :=
  let go := fun (t : State) =>
    let t := (t.started j k 1).seeEnded nodeReader t.commandRuns
    ({ t with hub := t.hub ++ [{ id := t.nextId, op := if n.kind = 1 then .dread else .dappend, owner := .node j k,
                                 launch := some ⟨handleBits b.phase b.graph k, some j⟩, a := n.addr, b := n.arg, queued := true }] } : State).fresh
  match s.hubRead n.addr 32 with
  | .later => s
  | .fault _ => go s
  | .val v => if recField v 160 1 = 1 then s.failNode j k 1 else go s

/-- NODE_START: the graph's nodes are read; then a node whose record is in error fails, one whose predecessors have finished is skipped or starts
(R279, R281 to R283). -/
def execNodeStart (j k : Nat) (s : State) : Host.Outcome State Fault Refusal :=
  .next (match mfind s.jobs j with
    | none => s
    | some b =>
      if b.finished || b.recErr || b.prev.isSome || b.graphCut then s
      else match b.nodes[k]? with
        | none => if b.nodes.isEmpty then s.startGraph j b else s
        | some n =>
          if n.started || n.finished.isSome then s
          else if n.bad k b.nodes.length (s.queue b.q).priv then s.failNode j k 1
          else
            let preds := b.nodes.zipIdx.filter fun p => n.pred.testBit p.2
            if preds.any fun p => p.1.finished.isNone then s
            else if preds.any fun p => !(n.field 64 64).testBit p.2 && (p.1.finished == some .failed || p.1.finished == some .skipped) then
              (s.modJob j (·.finish k .skipped 0)).settleJob j
            else match n.kind with
              | 0 => s.startLaunch j k b n
              | 3 => s.started j k 1
              | _ => s.startDeep j k b n)

/-- WAIT_NODE_POLL: a wait node reads the record it watches (R282). -/
def execWaitNodePoll (j k : Nat) (s : State) : Host.Outcome State Fault Refusal :=
  .next (match (mfind s.jobs j).bind (·.nodes[k]?) with
    | none => s
    | some n =>
      if n.kind != 3 || !n.started || n.live == 0 || n.finished.isSome then s
      else match s.hubRecord n.addr 32 with
        | .later => s
        | .fault _ => s.nodeDone (.node j k) 1
        | .val v => if v.testBit 127 then s.nodeDone (.node j k) (recField v 112 8) else s)

/-- NODE_FINISH: a node whose units, request or record have ended is over; counters fall (R282, R284, R285). -/
def execNodeFinish (j k : Nat) (s : State) : Host.Outcome State Fault Refusal :=
  .next (match mfind s.jobs j with
    | none => s
    | some b =>
      let t := match b.nodes[k]? with
        | some n =>
          if n.started && n.live == 0 && n.finished.isNone then
            s.modJob j (·.finish k (if b.graphCut then .cancelled else if n.code = 0 then .complete else .failed) n.code)
          else s
        | none => s
      t.settleJob j)

/-! ### CANCEL (R234) -/

/-- The part of a job a CANCEL names. -/
inductive Part where
  | graph (p g : Nat)
  | phase (p : Nat)
  | job
  deriving DecidableEq, Repr

/-- Graph `g` of phase `p` lies in the part. -/
def Part.holds (a : Part) (p g : Nat) : Bool := match a with
  | .graph q h => q == p && h == g
  | .phase q => q == p
  | .job => true

/-- The part is live: not finished yet (R287). -/
def Part.live (a : Part) (b : Job) : Bool := !b.finished && match a with
  | .graph p g => (decide (b.phase < p) || (p == b.phase && decide (b.graph ≤ g))) && match b.phases[p]? with
      | some gs => decide (g < gs.length)
      | none => false
  | .phase p => decide (b.phase ≤ p ∧ p < b.phases.length)
  | .job => true

/-- The part is recorded as cancelled. -/
def Part.mark (a : Part) (b : Job) : Job := match a with
  | .graph p g => { b with cancelGs := b.cancelGs ++ [(p, g)] }
  | .phase p => { b with cancelP := b.cancelP ++ [p] }
  | .job => { b with cancelJ := true }

/-- A node of a graph that is cancelled: what has not started never does. -/
def Node.cancel (n : Node) : Node :=
  if n.finished.isSome then n
  else if !n.started || n.kind == 3 then { n with finished := some .cancelled, live := 0 }
  else n

/-- Takes `n` from the count of units or requests of a node that have not ended. -/
def State.lessLive (s : State) (o : Origin) (n : Nat) : State := s.modNode o fun d => { d with live := d.live - n }

/-- Cancels a live part of a job: units of the graph that runs stop, units not dispatched and requests not started are dropped (R234). -/
def State.cancelPart (s : State) (j : Nat) (b : Job) (a : Part) : State :=
  let t := s.modJob j a.mark
  if !a.holds b.phase b.graph then t
  else
    let t : State := { t with
      units := t.units.map fun p => (p.1, if p.2.origin.any (·.job == j) then { p.2 with cancel := true } else p.2)
      pend := t.pend.filter fun p => p.origin.job != j }
    let t := (s.pend.filter fun p => p.origin.job == j).foldl (fun t p => t.lessLive p.origin 1) t
    let t := (s.saved.filter fun v => v.origin.any (·.job == j)).foldl (fun t v => t.endSaved v 0) t
    let t := (s.hub.filter fun h => h.queued && match h.owner with
      | .node i _ => i == j
      | _ => false).foldl (fun t h => ((t.hubDrop h).nodeDone h.owner 0).hubCancel h) t
    (t.modJob j fun b => { b with nodes := b.nodes.map Node.cancel }).settleJob j

/-- CANCEL with handle in `h`: `part` reads the phase and graph a handle names. A value that is no handle (R287) cancels nothing; of the indices the kind does not
read, any value is taken: DESIGN CHOICE (assumption 94). -/
def State.cancelWord (s : State) (h : BitVec 5) (part : Nat → Nat → Part) : Host.Outcome State Fault Refusal :=
  s.issueTo (s.leadWord []) fun _ t =>
    match t.here with
    | none => t
    | some (u, x) =>
      let v := if t.X h.toNat = 0 then x.bind.handle else t.X h.toNat
      let a := part (recField v.toNat 32 16) (recField v.toNat 16 16)
      match x.origin with
      | none => t.advance
      | some o => match mfind t.jobs o.job with
        | none => t.advance
        | some b =>
          if v.toNat / 2 ^ 48 ≠ 1 ∨ recField v.toNat 6 10 ≠ 0 ∨ !a.live b then t.advance
          else
            let r := t.cancelPart o.job b a
            match r.unit? u with
            | some y => if y.cancel then r.modLead u fun l => { l with state := .waiting } else r.advance
            | none => r

/-- CANCEL.GRAPH (R234). -/
def execCancelGraph (h : BitVec 5) (s : State) : Host.Outcome State Fault Refusal := s.cancelWord h .graph

/-- CANCEL.PHASE (R234). -/
def execCancelPhase (h : BitVec 5) (s : State) : Host.Outcome State Fault Refusal := s.cancelWord h fun p _ => .phase p

/-- CANCEL.JOB (R234). -/
def execCancelJob (h : BitVec 5) (s : State) : Host.Outcome State Fault Refusal := s.cancelWord h fun _ _ => .job

/-! ### CTXSV (R235) -/

/-- A request in error. -/
def saveReqErr (v : Nat) : Bool :=
  recField v 192 64 != 0 || recField v 26 38 != 0 || recField v 18 6 != 0 || recField v 12 4 != 0 || recField v 6 2 != 0 || decide (1 < recField v 24 2) ||
    decide (Config.coresPerLayer ≤ recField v 0 6) || (recField v 24 2 == 0 && recField v 64 64 % 4096 != 0)

/-- The unit number a request names. -/
def saveTarget (v : Nat) : Nat := 4 * (Config.coresPerLayer * recField v 8 4 + recField v 0 6) + recField v 16 2

/-- The device acts on a request read from `ad`: `stat` at once, or the target is asked to stop (R235). Where several codes apply: 4 before 1, 1 before 2, 2 before 3, and
in mode 1 the area is not looked at: DESIGN CHOICE (assumption 96). -/
def State.askSave (s : State) (u : Nat) (ad : DWord) (v : Nat) : State :=
  let at_ := some (ad.toNat + 16)
  let t := saveTarget v
  if saveReqErr v then s.writeStat at_ 4
  else match s.unit? t with
    | none => s.writeStat at_ 1
    | some x =>
      if x.bind.cohort then s.writeStat at_ 2
      else if t = u then s.writeStat at_ 3
      else if x.cancel || x.save.isSome || x.ending.isSome then s.writeStat at_ 1
      else if recField v 24 2 = 0 then s.modUnit t fun x => { x with save := some ⟨BitVec.ofNat 64 (recField v 64 64), at_⟩ }
      else s.modUnit t fun x => { x with cancel := true, cancelStat := at_ }

/-- CTXSV (R235). -/
def execCtxsv (h : BitVec 5) (s : State) : Host.Outcome State Fault Refusal :=
  match s.here with
  | some (u, x) =>
    let ad := s.X h.toNat
    let r := match s.globalPlace u x ad ⟨32, .load, false⟩ with
      | .fault c => RecRead.trap c
      | .touch => .hold
      | .at l _ => s.readRecord u x l 32
    s.issue ((s.leadWord []).andThen (s.needPrivilege.andThen (match r with
        | .hold => .hold
        | .trap c => leadTrap c ad
        | .ok _ => need (s.hubOpen (ad + 16) 8) .hold))) fun _ t =>
      match r with
      | .ok v => t.askSave u ad v
      | _ => t
  | none => s.issue s.undefined fun _ t => t

end Sys2Proof.Machine
end

