-- ==== Sys2Proof/Machine/Smem.lean ====
section
/-! DEFINITION. Scalar loads and stores (R131 to R134): SLD, SST, SLDS, SSTS. -/

namespace Sys2Proof.Machine

/-- The verdict of a scalar access: one check for the whole split, or a lead trap (R132). -/
def State.scalarPlaceVerdict (s : State) (ea : DWord) : Place → Verdict
  | .at _ _ => .ok
  | .touch => .hold
  | .fault c => .trap (s.allLanes c ea)

/-- The place of a scalar access. -/
def State.scalarPlace (s : State) (ea : DWord) (w : Want) (scratch : Bool) : Place :=
  match s.here with
  | some (u, x) => if scratch then State.spadPlace u x ea w.size w.size else s.globalPlace u x ea w
  | none => .fault .translation

/-- A loaded scalar (R131): form 0 B64, 1 N32, 2 I32. -/
def scalarValue (form v : Nat) : DWord :=
  match form with
  | 2 => (BitVec.ofNat 32 v).signExtend 64
  | 1 => (BitVec.ofNat 32 v).setWidth 64
  | _ => BitVec.ofNat 64 v

/-- The class a scalar load counts in (R133). -/
def State.scalarCls (s : State) (scratch : Bool) : Cls :=
  match s.cur.stream with
  | .lead _ => .lm
  | _ => if scratch then .sp else .vm

/-- A scalar load (R131, R133, R134). Whether one whose counter stands at 63 waits before its operand is checked the spec does not say: it waits first, DESIGN CHOICE
(assumption 37). -/
def State.scalarLoad (s : State) (form size : Nat) (scratch : Bool) (d a : BitVec 6) (imm : BitVec 10) : Host.Outcome State Fault Refusal :=
  let ea := s.scalarAddr a.toNat imm size
  let p := s.scalarPlace ea ⟨size, .load, form != 0⟩ scratch
  let cls := s.scalarCls scratch
  s.issue ((s.scalarWord [d.toNat, a.toNat]).andThen ((s.countRoom cls).andThen (s.scalarPlaceVerdict ea p)))
    fun mk t =>
      match p, s.here with
      | .at l _, some (u, _) =>
        let acc : Acc := match l with
          | .spad c off =>
            { lane := 64, loc := l, size := size, addr := ea, scalar := some (scalarValue form (t.spadView t.laneReader c off size)), done := true,
              bad := if t.spadPoisoned c off size then some .poisonedData else none }
          | _ => { lane := 64, loc := l, size := size, addr := ea }
        let t := t.addRead cls (.scalar d.toNat form) mk [acc]
        if scratch then t else t.laneTlbFill u [ea]
      | _, _ => t

/-- A scalar store (R131). -/
def State.scalarStore (s : State) (size : Nat) (seamOk scratch : Bool) (d a : BitVec 6) (imm : BitVec 10) : Host.Outcome State Fault Refusal :=
  let ea := s.scalarAddr a.toNat imm size
  let p := s.scalarPlace ea ⟨size, .store, seamOk⟩ scratch
  s.issue ((s.scalarWord [d.toNat, a.toNat]).andThen (s.scalarPlaceVerdict ea p))
    fun mk t =>
      match p, s.here with
      | .at l pm, some (u, _) =>
        let t := t.sendStores mk [⟨l, size, (s.X d.toNat).toNat % 2 ^ (8 * size), pm, ea, none⟩]
        if scratch then t else t.laneTlbFill u [ea]
      | _, _ => t

/-- SLD.B64 (R131). -/
def execSldB64 (d a : BitVec 6) (imm : BitVec 10) (s : State) : Host.Outcome State Fault Refusal := s.scalarLoad 0 8 false d a imm
/-- SLD.N32 (R131). -/
def execSldN32 (d a : BitVec 6) (imm : BitVec 10) (s : State) : Host.Outcome State Fault Refusal := s.scalarLoad 1 4 false d a imm
/-- SLD.I32 (R131). -/
def execSldI32 (d a : BitVec 6) (imm : BitVec 10) (s : State) : Host.Outcome State Fault Refusal := s.scalarLoad 2 4 false d a imm
/-- SST.B64 (R131). -/
def execSstB64 (d a : BitVec 6) (imm : BitVec 10) (s : State) : Host.Outcome State Fault Refusal := s.scalarStore 8 false false d a imm
/-- SST.B32 (R131). -/
def execSstB32 (d a : BitVec 6) (imm : BitVec 10) (s : State) : Host.Outcome State Fault Refusal := s.scalarStore 4 true false d a imm
/-- SLDS.B64 (R131). -/
def execSldsB64 (d a : BitVec 6) (imm : BitVec 10) (s : State) : Host.Outcome State Fault Refusal := s.scalarLoad 0 8 true d a imm
/-- SSTS.B64 (R131). -/
def execSstsB64 (d a : BitVec 6) (imm : BitVec 10) (s : State) : Host.Outcome State Fault Refusal := s.scalarStore 8 false true d a imm

end Sys2Proof.Machine
end

