-- ==== Sys2Proof/Machine/Device.lean ====
section
/-! DEFINITION. Device space (R5, R236, R265, R277, R293, R300, R307, R320, R328, R329, R349, R353, R361, R368, R371, R372): its registers, DSLD and DSST, and the events that write them. -/

namespace Sys2Proof.Machine

/-! ### Submission queues and the context (R277, R300) -/

/-- Replaces a queue. -/
def State.setQueue (s : State) (q : Nat) (k : SubQueue) : State := { s with queues := mset {} s.queues q k }

/-- A write to SQ_TAIL: the doorbell (R268, R277). -/
def State.sqTail (s : State) (q : Nat) (v : DWord) : State :=
  let k := s.queue q
  let n := 2 ^ k.size
  let t := v.toNat % 2 ^ 16
  if t < n ∧ (k.tail + n - k.head) % n ≤ (t + n - k.head) % n then s.setQueue q { k with tail := t } else s

/-- A write to SQ_BASE. -/
def State.sqBase (s : State) (q : Nat) (v : DWord) : State :=
  let k := s.queue q
  if k.en || v.toNat % 4096 != 0 then s else s.setQueue q { k with base := v, head := 0, tail := 0 }

/-- A write to SQ_SIZE. -/
def State.sqSize (s : State) (q : Nat) (v : DWord) : State :=
  let k := s.queue q
  if k.en || decide (v.toNat < 4 ∨ 16 < v.toNat) then s else s.setQueue q { k with size := v.toNat, head := 0, tail := 0 }

/-- A context descriptor; none with a reserved bit set or a field out of range (R300), such as a deep-tier range outside the device's share (R241, assumption 99). -/
def parseCtx (x : Nat) : Option Ctx :=
  let f := recField x
  let c : Ctx :=
    { thip := BitVec.ofNat 32 (f 576 32), tbase := BitVec.ofNat 64 (f 512 64), ftpool := BitVec.ofNat 64 (f 384 64), dcount := f 296 40, dfirst := f 256 40,
      pwbase := BitVec.ofNat 64 (f 192 64), pmode := f 160 4, hdbg := f 157 1 == 1, dbg := f 156 1 == 1, seamlen := f 128 13,
      seambase := BitVec.ofNat 64 (f 64 64), ptroot := BitVec.ofNat 64 (f 0 64) }
  if f 608 416 == 0 && f 448 64 == 0 && f 336 48 == 0 && f 164 28 == 0 && f 158 2 == 0 && f 141 15 == 0 && f 512 12 == 0 && f 384 6 == 0 && f 192 27 == 0 &&
      (c.pmode == 1 || c.pmode == 2 || c.pmode == 8) && decide (c.seamlen ≤ 4096) && decide (c.dfirst + c.dcount ≤ Config.flashPages / c.pmode) && f 64 5 == 0 && f 0 15 == 0 then some c
  else none

/-- The descriptor at CTX_DESC, in device memory. -/
def State.readCtx (s : State) : Option Ctx :=
  let a := s.ctxReg.toNat
  if a % 128 ≠ 0 ∨ !s.backed a ∨ s.poisonedRange a 128 then none else parseCtx (s.mem.readNat a 128)

/-- Every queue is disabled. -/
def State.disableAll (s : State) : State := { s with queues := (s.queues.map fun p => (p.1, { p.2 with en := false })).filter fun p => p.2 != {} }

/-- The survey left the device of a context in place: in mode 8 a chiplet without its stack is not presented, in the others a device of which nothing remains
(R360; the model's device holds chiplet 0, assumption 7). -/
def State.presents (s : State) (c : Ctx) : Bool :=
  if c.pmode = 8 then s.svy.hbm.getLsbD 0
  else (List.range (16 / c.pmode)).any s.layerPresent || (List.range (8 / c.pmode)).any s.svy.hbm.getLsbD

/-- Queues the presented device does not have are not enabled (R276). -/
def State.dropQueues (s : State) : State :=
  { s with queues := (s.queues.map fun p => (p.1, if p.1 < s.queueCount then p.2 else { p.2 with en := false })).filter fun p => p.2 != {} }

/-- A queue is enabled: a descriptor not yet read is read; one in error, or a mode that presents no device, disables every queue (R300, R360). -/
def State.loadCtx (s : State) : State :=
  if s.ctxNew then match s.readCtx.filter s.presents with
    | some c => ({ s with ctx := c, ctxNew := false, ctxBad := false } : State).dropQueues
    | none => ({ s with ctxNew := false, ctxBad := true } : State).disableAll
  else if s.ctxBad then s.disableAll
  else s

/-- A write to SQ_CTL; `en` is not set before the survey is done (R277, R357). -/
def State.sqCtl (s : State) (q : Nat) (v : DWord) : State :=
  let k := s.queue q
  let en := v.getLsbD 3 && s.svy.done
  let t := s.setQueue q { k with prio := v.toNat % 8, priv := if k.en then k.priv else v.getLsbD 4, en := en }
  if en && !k.en then t.loadCtx else t

/-- A queue has `en` set. -/
def State.anyEnabled (s : State) : Bool := s.queues.any (·.2.en)

/-- A write to CTX_DESC (R300). -/
def State.ctxDesc (s : State) (v : DWord) : State :=
  if s.anyEnabled || !s.jobs.isEmpty then s else { s with ctxReg := v, ctxNew := true }

/-- The queue is one of the presented device's. -/
def State.onQueue (s : State) (q : Nat) (t : State) : Host.Outcome State Fault Refusal := .next (if q < s.queueCount then t else s)

/-- The function on a host link is one of the presented device's: either link's in mode 1, else that of link 0 (R356, assumption 7). -/
def State.linkOk (s : State) (link : Nat) : Bool := decide (link = 0 ∨ (link = 1 ∧ s.ctx.pmode = 1))

/-- The link over which a queue takes doorbells (R356). -/
def State.doorLink (s : State) (q : Nat) : Nat := if s.ctx.pmode = 1 then q / 32 else 0

/-- SQ_TAIL: the doorbell over the link of the queue; over another it is not taken (R277, R356, assumption 102). -/
def execSqTail (door : Nat × Nat) (v : BitVec 64) (s : State) : Host.Outcome State Fault Refusal :=
  s.onQueue door.2 (if door.1 = s.doorLink door.2 then s.sqTail door.2 v else s)

/-- SQ_BASE (R277). -/
def execSqBase (q : Nat) (v : BitVec 64) (s : State) : Host.Outcome State Fault Refusal := s.onQueue q (s.sqBase q v)

/-- SQ_SIZE (R277). -/
def execSqSize (q : Nat) (v : BitVec 64) (s : State) : Host.Outcome State Fault Refusal := s.onQueue q (s.sqSize q v)

/-- SQ_ENABLE: SQ_CTL written with `en` 1 (R277). -/
def execSqEnable (q : Nat) (v : BitVec 64) (s : State) : Host.Outcome State Fault Refusal := s.onQueue q (if v.getLsbD 3 then s.sqCtl q v else s)

/-- SQ_DISABLE: SQ_CTL written with `en` 0 (R277). -/
def execSqDisable (q : Nat) (v : BitVec 64) (s : State) : Host.Outcome State Fault Refusal := s.onQueue q (if v.getLsbD 3 then s else s.sqCtl q v)

/-- CTX_DESC (R300). -/
def execCtxDesc (v : BitVec 64) (s : State) : Host.Outcome State Fault Refusal := .next (s.ctxDesc v)

/-! ### Invalidation (R307) -/

/-- Pages of 64 KiB a size code names. -/
def invPages (size : Nat) : Nat := if size = 1 then 32 else if size = 2 then 16384 else 1

/-- A cached translation is one an invalidation names: every one, or of a page that shares an address with the named one. -/
def XltInv.names (i : XltInv) (e : TlbEntry) : Bool :=
  i.size == 3 || (let n := invPages i.size
                  let p := i.va / 65536 / n * n
                  decide (e.vpn < p + n ∧ p < e.vpn + e.pages))

/-- The named translations leave every TLB. -/
def State.dropNamed (s : State) (i : XltInv) : State :=
  let keep := fun (l : List TlbEntry) => l.filter fun e => !i.names e
  { s with cores := s.cores.map fun c => (c.1, { c.2 with tlb := keep c.2.tlb, wtlb := keep c.2.wtlb }), hubTlb := keep s.hubTlb }

/-- An invalidation begins. -/
def State.startInv (s : State) (va size : Nat) : State :=
  let i : XltInv := { s.xlt with busy := true, va := va, size := size, mark := s.nextId }
  ({ s with xlt := i } : State).dropNamed i

/-- A write to XLT_INV. -/
def State.xltInv (s : State) (v : DWord) : State :=
  if s.xlt.busy then { s with xlt := { s.xlt with err := true } } else s.startInv (recField v.toNat 16 36 * 65536) (recField v.toNat 2 2)

/-- Accesses issued before an invalidation that are not yet performed at their homes. -/
def State.olderAccess (s : State) (mark : Nat) : Bool :=
  s.units.any (fun p => (p.2.lead.ops ++ p.2.gangs.flatMap fun g => g.2.ops).any fun o => decide (o.id < mark) && o.accs.any fun a => !a.done) ||
    s.cores.any (fun c => c.2.port.any (fun r => decide (r.id < mark)) || c.2.seamq.any fun q => decide (q.id < mark)) ||
    s.layers.any (fun l => l.2.out.any fun w => decide (w.id < mark)) ||
    s.hub.any fun h => decide (h.id < mark) && !h.queued

/-- Every seam block leaves every dressing cache, dirty ones encoded. -/
def State.evictBlocks (s : State) : State := s.cores.foldl (fun s c => c.2.dress.foldl (fun s b => s.evict c.1 b) s) s

/-- XLT_INV_COMPLETE: accesses that used an old translation are performed, seam blocks among them; `busy` falls; a migration whose entry was being
invalidated is over (R307, R322). -/
def execXltInvComplete (s : State) : Host.Outcome State Fault Refusal :=
  .next (if !s.xlt.busy || s.olderAccess s.xlt.mark then s
    else if s.cores.any fun c => !c.2.dress.isEmpty then s.evictBlocks
    else if s.cores.any fun c => !c.2.wbs.isEmpty then s
    else
      let t := s.dropNamed s.xlt
      { t with
        xlt := { t.xlt with busy := false }
        mig := if t.mig.flush then { t.mig with busy := false, flush := false, res := 0, moved := [] } else t.mig
        units := t.units.map fun p => (p.1, { p.2 with lead := { p.2.lead with devWait := false } }) })

/-- XLT_INV_PAGE: a write to XLT_INV that names a page (R307). -/
def execXltInvPage (v : BitVec 64) (s : State) : Host.Outcome State Fault Refusal := .next (if recField v.toNat 2 2 = 3 then s else s.xltInv v)

/-- XLT_INV_ALL: a write to XLT_INV with `size` 11 (R307). -/
def execXltInvAll (v : BitVec 64) (s : State) : Host.Outcome State Fault Refusal := .next (if recField v.toNat 2 2 = 3 then s.xltInv v else s)

/-! ### Migration requests (R320) -/

/-- The leaf that maps an address, the address of the first entry of its run, and the entries of the run (R302). -/
def State.leafEntry (s : State) (va : Nat) : Option (DWord × Nat × Nat) :=
  match s.walk va with
  | .leaf e =>
    let n := pagesOf (pteSize e)
    let e1 := s.pte s.ctx.ptroot.toNat (va / 2 ^ 40 % 4096)
    if n = 16384 then some (e, ptePa e1 + 8 * (va / 2 ^ 28 % 4096 / 4 * 4), 4)
    else
      let e2 := s.pte (ptePa e1) (va / 2 ^ 28 % 4096)
      some (e, ptePa e2 + 8 * (va / 2 ^ 16 % 4096 / n * n), n)
  | _ => none

/-- The migration a request starts, or its result (R320): 1 no device-memory page, 2 tier full, 3 already there. -/
def State.migReq (s : State) (v : DWord) : State :=
  let tier := v.toNat % 4
  if s.mig.busy || decide (tier = 0 ∨ tier = 3) then s
  else
    let fail := fun (r : Nat) => ({ s with mig := { s.mig with res := r } } : State)
    match s.leafEntry (recField v.toNat 16 36 * 65536) with
    | none => fail 1
    | some (e, entry, _) =>
      let src := ptePa e
      let n := pagesOf (pteSize e) * 65536
      let inTier := fun (a : Nat) => if tier = 1 then s.isHbm a else isLpddr a
      if pteS e || pteKind e != 0 || !s.owned src then fail 1
      else if inTier src then fail 3
      else match Config.freePage tier s.nextId with
        | none => fail 2
        | some dst =>
          if dst % n = 0 ∧ inTier dst ∧ inTier (dst + n - 1) ∧ s.owned dst ∧ s.owned (dst + n - 1) ∧ !(s.mem.any fun p => decide (dst ≤ p.1 ∧ p.1 < dst + n)) then
            ({ s with mig := { busy := true, va := recField v.toNat 16 36 * 65536, bytes := n, src := src, dst := dst, entry := entry } } : State).fresh
          else fail 2

/-- MIG_REQ for HBM4E (R320). -/
def execMigReqHbm (v : BitVec 64) (s : State) : Host.Outcome State Fault Refusal := .next (if v.toNat % 4 = 1 then s.migReq v else s)

/-- MIG_REQ for LPDDR-6 (R320). -/
def execMigReqLpddr (v : BitVec 64) (s : State) : Host.Outcome State Fault Refusal := .next (if v.toNat % 4 = 2 then s.migReq v else s)

/-! ### Other registers that are written -/

/-- A write to FSPLIT: bit 0 changes only while every queue is disabled (R328). -/
def State.setFsplit (s : State) (v : DWord) : State :=
  let x := v.setWidth 6
  { s with fsplit := if s.anyEnabled then (x &&& 0x3E) ||| (s.fsplit &&& 1) else x }

/-- FSPLIT (R328). -/
def execFsplit (v : BitVec 64) (s : State) : Host.Outcome State Fault Refusal := .next (s.setFsplit v)

/-- A write to HBM_PWRCFG (R353). -/
def State.setPwrcfg (s : State) (v : DWord) : State :=
  let f := recField v.toNat
  if f 24 32 ≤ f 0 16 then s
  else { s with pwrcfg := { sren := v.getLsbD 57, pden := v.getLsbD 56, sridle := f 24 32, pdidle := f 0 16 } }

/-- HBM_PWRCFG (R353). -/
def execHbmPwrcfg (v : BitVec 64) (s : State) : Host.Outcome State Fault Refusal := .next (s.setPwrcfg v)

/-- A write to PWR_CTL (R371). -/
def State.setPwrCtl (s : State) (v : DWord) : State :=
  let cap := recField v.toNat 0 12
  let fmin := recField v.toNat 24 5
  if cap < 1800 ∨ 3600 < cap ∨ fmin < 8 ∨ 17 < fmin then s else { s with pwr := { s.pwr with cap := cap, fmin := fmin } }

/-- PWR_CTL (R371). -/
def execPwrCtl (v : BitVec 64) (s : State) : Host.Outcome State Fault Refusal := .next (s.setPwrCtl v)

/-! ### The register map -/

/-- A device-space register. -/
inductive DevReg where
  | lvlRow (lvl : Nat) | lvlCost (lvl : Nat)
  | sqBase (q : Nat) | sqSize (q : Nat) | sqTail (q : Nat) | sqHead (q : Nat) | sqCtl (q : Nat)
  | ctxDesc | xltInv | xltStat | migReq | migStat | fsplit
  | frBase | frSize | frHead | frAck | frLost
  | dlogHead | dlogFree | dlogTrim | dlogCtl
  | hbmPwrcfg | hbmPchst (p : Nat)
  | svyStatus | svyDie (i : Nat) | svyArr (y : Nat)
  | pwrCtl | pwrStat | vxlPort (p : Nat)
  | errWord (k w : Nat)
  | sltBind (u : Nat) | sltStat (u : Nat) | qpoolLim (u cls : Nat) | qpoolFree (c : Nat)
  deriving DecidableEq, Repr

/-- The slot or pool register at an offset of the slot registers (R293, R297). -/
def State.coreReg (s : State) (a : Nat) : Option DevReg :=
  let y := a / 0x10000
  let k := a % 0x10000 / 0x400
  let o := a % 0x400
  let c := y * Config.coresPerLayer + k
  let u := 4 * c + o / 0x40
  if Config.coresPerLayer ≤ k ∨ 16 ≤ y ∨ !s.hasCore c then none
  else if o = 0x100 then some (.qpoolFree c)
  else if 0x100 ≤ o then none
  else match o % 0x40 with
    | 0x00 => some (.sltBind u)
    | 0x08 => some (.sltStat u)
    | 0x10 => some (.qpoolLim u 0)
    | 0x18 => some (.qpoolLim u 1)
    | 0x20 => some (.qpoolLim u 2)
    | 0x28 => some (.qpoolLim u 3)
    | _ => none

/-- The register at an address, a multiple of 8; none where the address names none. -/
def State.devReg (s : State) (a : Nat) : Option DevReg :=
  if 0x1000000 ≤ a then (if a < 0x1100000 then s.coreReg (a - 0x1000000) else none)
  else if 0x20000 ≤ a ∧ a < 0x20070 then some (if a / 8 % 2 = 0 then .lvlRow ((a - 0x20000) / 16) else .lvlCost ((a - 0x20000) / 16))
  else if 0x30000 ≤ a ∧ a < 0x30000 + 64 * s.queueCount then
    let q := (a - 0x30000) / 64
    match a % 64 with
    | 0x00 => some (.sqBase q)
    | 0x08 => some (.sqSize q)
    | 0x10 => some (.sqTail q)
    | 0x18 => some (.sqHead q)
    | 0x20 => some (.sqCtl q)
    | _ => none
  else if 0x91000 ≤ a ∧ a < 0x91000 + 8 * 512 then some (.hbmPchst ((a - 0x91000) / 8))
  else if 0xA0100 ≤ a ∧ a < 0xA0100 + 8 * 29 then some (.svyDie ((a - 0xA0100) / 8))
  else if 0xA0200 ≤ a ∧ a < 0xA0200 + 8 * 16 then some (.svyArr ((a - 0xA0200) / 8))
  else if 0xC0000 ≤ a ∧ a < 0xC0000 + 8 * 24 then some (.vxlPort ((a - 0xC0000) / 8))
  else if 0xD0000 ≤ a ∧ a < 0xD0000 + 32 * Config.errorRecords then some (.errWord ((a - 0xD0000) / 32) (a / 8 % 4))
  else match a with
    | 0x40000 => some .ctxDesc
    | 0x40010 => some .xltInv
    | 0x40018 => some .xltStat
    | 0x50000 => some .migReq
    | 0x50008 => some .migStat
    | 0x60000 => some .fsplit
    | 0x70000 => some .frBase
    | 0x70008 => some .frSize
    | 0x70010 => some .frHead
    | 0x70018 => some .frAck
    | 0x70020 => some .frLost
    | 0x80000 => some .dlogHead
    | 0x80008 => some .dlogFree
    | 0x80010 => some .dlogTrim
    | 0x80018 => some .dlogCtl
    | 0x90000 => some .hbmPwrcfg
    | 0xA0000 => some .svyStatus
    | 0xB0000 => some .pwrCtl
    | 0xB0008 => some .pwrStat
    | _ => none

/-- 1 or 0. -/
def bit1 (b : Bool) : Nat := if b then 1 else 0

/-- SVY_STATUS (R361). -/
def Survey.status (v : Survey) : Nat :=
  packFields [(1, bit1 v.done), (1, bit1 v.fail), (1, bit1 v.arr), (1, bit1 v.degr), (4, 0), (8, v.nexcl), (4, 0), (4, v.oio.toNat), (8, v.hbm.toNat), (16, v.cores)]

/-- A word of an error record of the buffer, laid out as a fault-ring record (R329, R372). -/
def State.errRecord (s : State) (k w : Nat) : Nat := match mfind s.errs k with
  | none => 0
  | some e =>
    let n := (s.errNext - 1 - k) / Config.errorRecords * Config.errorRecords + k
    let r : RingRec := { what := .error, addr := e.addr, info := BitVec.ofNat 64 e.info }
    leValue (r.bytes n (n / Config.errorRecords % 2 == 0)) / 2 ^ (64 * w) % 2 ^ 64

/-- DLOG_FREE (R349). -/
def State.dlogFree (s : State) : Nat :=
  let used := (s.flash.filter fun p => s.deepRange p.1 1).length +
    s.appending
  let phys := s.dlog.phys / 256
  s.ctx.dcount - used + 2 ^ 40 * ((if phys < 2 ^ 24 then phys else Config.wideField phys) % 2 ^ 24)

/-- What a register reads as by a core of layer `y`, or through BAR0 (R264). A register that is only written reads zero (R5).
A port that is down has no wavelength in service (assumption 33). -/
def State.regRead (s : State) (y : Option Nat) : DevReg → Nat
  | .lvlRow l =>
    let f := s.levelField y l
    packFields [(9, f 1), (9, 0), (1, f 0), (2, f 4), (3, f 5), (3, f 6)]
  | .lvlCost l => packFields [(32, s.levelField y l 2), (32, s.levelField y l 3)]
  | .sqBase q => (s.queue q).base.toNat
  | .sqSize q => (s.queue q).size
  | .sqTail q => (s.queue q).tail
  | .sqHead q => (s.queue q).head
  | .sqCtl q => packFields [(3, (s.queue q).prio), (1, bit1 (s.queue q).en), (1, bit1 (s.queue q).priv)]
  | .ctxDesc => s.ctxReg.toNat
  | .xltStat => packFields [(1, bit1 s.xlt.busy), (1, bit1 s.xlt.err)]
  | .migStat => packFields [(1, bit1 s.mig.busy), (7, 0), (8, s.mig.res)]
  | .fsplit => s.fsplit.toNat
  | .frBase => s.fr.base.toNat
  | .frSize => s.fr.size
  | .frHead => s.fr.head
  | .frLost => s.fr.lost
  | .dlogHead => s.logHead
  | .dlogFree => s.dlogFree
  | .dlogCtl => 256 * bit1 s.dlog.busy
  | .hbmPwrcfg => packFields [(16, s.pwrcfg.pdidle), (8, 0), (32, s.pwrcfg.sridle), (1, bit1 s.pwrcfg.pden), (1, bit1 s.pwrcfg.sren)]
  | .hbmPchst p => packFields [(2, (mget {} s.pch p).state), (30, 0), (32, (mget {} s.pch p).srexits)]
  | .svyStatus => s.svy.status
  | .svyDie i => let d := mget {} s.svy.dies i
    packFields [(2, d.state), (6, 0), (8, d.why), (8, d.ltotal), (8, d.ltrain), (16, 0), (8, d.ncore)]
  | .svyArr y => (s.svy.arrChan.filter fun p => layerOf p.1 == y).foldl (fun n p => n + 2 ^ coreId p.1) 0
  | .pwrCtl => packFields [(12, s.pwr.cap), (12, 0), (5, s.pwr.fmin)]
  | .pwrStat => packFields [(5, s.pwr.step), (3, 0), (4, s.pwr.lim), (1, bit1 s.pwr.skip), (19, 0), (12, s.pwr.pwr)]
  | .vxlPort p => let v := mget {} s.vxl p
    packFields [(2, match v.state with | .down => 0 | .training => 1 | .up => 2 | .rollover => 3), (6, 0), (8, if v.state = .down then 0 else 96 - v.retired.length), (1, bit1 v.ph), (7, 0),
      (8, v.peer), (32, v.replays)]
  | .errWord k w => s.errRecord k w
  | .sltStat u => packFields [(3, s.slotState u), (1, 0), (8, mget 0 s.slotErr u)]
  | .qpoolLim u cls => match s.unit? u with
    | some x => packFields [(12, (x.qlim.get cls).min), (4, 0), (12, (x.qlim.get cls).cap)]
    | none => 0
  | .qpoolFree c => packFields [(13, s.poolFree c)]
  | _ => 0

/-- A write to a register; fields that are only read, and reserved ones, ignore it (R5). -/
def State.regWrite (s : State) (v : DWord) : DevReg → State
  | .sqBase q => s.sqBase q v
  | .sqSize q => s.sqSize q v
  | .sqTail q => s.sqTail q v
  | .sqCtl q => s.sqCtl q v
  | .ctxDesc => s.ctxDesc v
  | .xltInv => s.xltInv v
  | .xltStat => if v.getLsbD 1 then { s with xlt := { s.xlt with err := false } } else s
  | .migReq => s.migReq v
  | .fsplit => s.setFsplit v
  | .frBase => s.frBase v
  | .frSize => s.frSize v
  | .frHead => s.frHead v
  | .frAck => s.frAck (v.toNat % 2 ^ 32) (v.getLsbD 32)
  | .dlogTrim => s.dlogTrim v
  | .dlogCtl => s.dlogCtl v
  | .hbmPwrcfg => s.setPwrcfg v
  | .pwrCtl => s.setPwrCtl v
  | .sltBind u => s.bindWrite u { value := v }
  | .qpoolLim u cls => s.setLimit u cls v
  | _ => s

/-- The slot and pool registers, which the host reaches only while FSPLIT bit 0 is 1 (R369). -/
def DevReg.slot : DevReg → Bool
  | .sltBind _ => true
  | .sltStat _ => true
  | .qpoolLim _ _ => true
  | .qpoolFree _ => true
  | _ => false

/-- The register an address of BAR0 names for the host (R369). -/
def State.barReg (s : State) (addr : Nat) : Option DevReg :=
  if addr % 8 ≠ 0 then none
  else match s.devReg addr with
    | some r => if r.slot && !s.fsplit.getLsbD 0 then none else some r
    | none => none

/-- What the host reads at an address of BAR0: zero where it names no register (R369). -/
def State.bar0Read (s : State) (addr : Nat) : Nat := match s.barReg addr with
  | some r => s.regRead none r
  | none => 0

/-- Lanes and rate in GT/s of a host link as trained, which its link status register shows: ×16 at 128 GT/s at most (R369). The register lies in PCI
configuration space, which only the host reads (assumption 118). -/
def State.linkStatus (s : State) (link : Nat) : Nat × Nat :=
  let t := Config.linkTrained s.svy.epoch link
  (min t.1 16, min t.2 128)

/-- What the host reads through BAR2 at a device physical address of the presented device's memory: the bytes at their homes, lowest first; none while one of them
cannot be read, or is poisoned (R239, R369, assumption 75). -/
def State.bar2Read (s : State) (pa n : Nat) : Option Nat :=
  let ps := (List.range n).map fun k => s.redirect (pa + k)
  if ps.all fun p => s.owned p && !s.held (sectorOf p) && !s.poisoned p then some (leValue (ps.map s.mem.read)) else none

/-- A doorbell over a link that is not its queue's. -/
def State.strayDoor (s : State) (link : Nat) : DevReg → Bool
  | .sqTail q => link != s.doorLink q
  | _ => false

/-- REGISTER_WRITE: a write of the host through BAR0; one that names no register is ignored (R5, R356, R369). -/
def execRegisterWrite (at_ : Nat × BitVec 64) (v : BitVec 64) (s : State) : Host.Outcome State Fault Refusal :=
  .next (match s.barReg at_.2.toNat with
    | some r => if s.linkOk at_.1 && !s.strayDoor at_.1 r then s.regWrite v r else s
    | none => s)

/-! ### DSLD and DSST (R236) -/

/-- The checks of a device-space access. -/
def State.devCheck (s : State) (a : DWord) : Verdict :=
  if a.toNat % 8 ≠ 0 then leadTrap .misaligned a
  else match s.devReg a.toNat with
    | some _ => .ok
    | none => leadTrap .protection a

/-- DSLD (R236). -/
def execDsld (d a : BitVec 6) (imm : BitVec 10) (s : State) : Host.Outcome State Fault Refusal :=
  let ea := s.scalarAddr a.toNat imm 8
  s.issue ((s.leadWord [d.toNat, a.toNat]).andThen (s.needPrivilege.andThen ((s.countRoom .lm).andThen (s.devCheck ea)))) fun mk t =>
    match t.here, t.devReg ea.toNat with
    | some (u, _), some r =>
      t.addOp .lm (.scalar d.toNat 0) mk
        [{ lane := 64, loc := .spad (coreOf u) 0, size := 8, addr := ea, done := true,
           scalar := some (BitVec.ofNat 64 (t.regRead (some (layerOf (coreOf u))) r)) }]
    | _, _ => t

/-- DSST (R236): a write to XLT_INV is complete when the invalidation is (R307). -/
def execDsst (d a : BitVec 6) (imm : BitVec 10) (s : State) : Host.Outcome State Fault Refusal :=
  let ea := s.scalarAddr a.toNat imm 8
  let v := s.X d.toNat
  s.issue ((s.leadWord [d.toNat, a.toNat]).andThen (s.needPrivilege.andThen (s.devCheck ea))) fun _ t =>
    match t.here, t.devReg ea.toNat with
    | some (u, _), some r =>
      let t := t.regWrite v r
      if r = .xltInv then t.modLead u fun l => { l with devWait := true } else t
    | _, _ => t

end Sys2Proof.Machine
end

