-- ==== Sys2Proof/Machine/Migrate.lean ====
section
/-! DEFINITION. Tier migration (R320 to R322) and the power states of HBM4E and of the package (R351, R352, R371). -/

namespace Sys2Proof.Machine

/-! ### Moving a line (R321) -/

/-- Keys renamed. -/
def renameKeys {α : Type} (f : Nat → Nat) (m : SMap α) : SMap α := m.foldl (fun t p => mput t (f p.1) p.2) []

/-- A place renamed. -/
def Loc.rename (f : Nat → Nat) : Loc → Loc
  | .dev pa => .dev (f pa)
  | l => l

/-- An operation's accesses renamed. -/
def Op.rename (f : Nat → Nat) (o : Op) : Op := { o with accs := o.accs.map fun a => { a with loc := a.loc.rename f } }

/-- A core's accesses on their way renamed; its L1 copies of the sectors in `gone` are dropped. -/
def Core.rename (f : Nat → Nat) (gone : Nat → Bool) (k : Core) : Core :=
  { k with
    l1 := k.l1.filter fun p => p.1 % 2 == 1 || !gone (p.1 / 2)
    port := k.port.map fun r => if r.dest = .dev then { r with bytes := renameKeys f r.bytes } else r
    dress := k.dress.map fun b => { b with phys := b.phys.map f }
    wbs := k.wbs.map fun w => { w with saddr := f w.saddr, bytes := renameKeys f w.bytes } }

/-- A layer's writes renamed; its copies of the sectors in `gone` are dropped. -/
def LayerCache.rename (f : Nat → Nat) (gone : Nat → Bool) (l : LayerCache) : LayerCache :=
  { l with
    copies := l.copies.filter fun p => !gone p.1
    out := l.out.map fun w => { w with bytes := renameKeys f w.bytes }
    inq := l.inq.map fun w => { w with bytes := renameKeys f w.bytes } }

/-- The 128 bytes at `a` move to `b`: contents, marks and stamps, and every access that has not reached the home of the line; the layers and cores keep no
copy of either line (R321). -/
def State.moveLine (s : State) (a b : Nat) : State :=
  let f := fun (p : Nat) => if a ≤ p ∧ p < a + 128 then p - a + b else p
  let fs := fun (q : Nat) => f (32 * q) / 32
  let gone := fun (q : Nat) => decide ((a ≤ 32 * q ∧ 32 * q < a + 128) ∨ (b ≤ 32 * q ∧ 32 * q < b + 128))
  let line := (s.mem.filter fun p => decide (a ≤ p.1 ∧ p.1 < a + 128)).map fun p => (f p.1, p.2)
  let rest := s.mem.filter fun p => !decide ((a ≤ p.1 ∧ p.1 < a + 128) ∨ (b ≤ p.1 ∧ p.1 < b + 128))
  { s with
    mem := Memory.writeAll rest line
    poison := (s.poison.filter fun q => !decide (b ≤ 32 * q ∧ 32 * q < b + 128)).map fs
    stamps := renameKeys fs (s.stamps.filter fun p => !decide (b ≤ 32 * p.1 ∧ 32 * p.1 < b + 128))
    claims := renameKeys f s.claims
    cores := s.cores.map fun k => (k.1, k.2.rename f gone)
    layers := s.layers.map fun l => (l.1, l.2.rename f gone)
    hub := s.hub.map fun h => { h with crec := h.crec.rename f }
    past := s.past.map fun p => if p.space = 0 then { p with bytes := renameKeys f (p.bytes.filter fun x => !decide (b ≤ x.1 ∧ x.1 < b + 128)) } else p
    units := s.units.map fun p => (p.1, { p.2 with
      lead := { p.2.lead with ops := p.2.lead.ops.map (·.rename f) }
      gangs := p.2.gangs.map fun g => (g.1, { g.2 with ops := g.2.ops.map (·.rename f) }) }) }

/-- A started hub command that touches the page: the copier waits for it. -/
def State.hubTouches (s : State) (pa n : Nat) : Bool :=
  s.hub.any fun h => h.tr.any fun p => p.2 / 2 % 2 == 0 && decide (pa < p.2 / 65536 * 65536 + 65536 ∧ p.2 / 65536 * 65536 < pa + n)

/-- The entries of the migrated page name its new place (R322). -/
def State.remap (s : State) : State :=
  let m := s.mig
  let n := if m.bytes = 65536 then 1 else if m.bytes = 2097152 then 32 else 4
  (List.range n).foldl (fun t i =>
    let a := m.entry + 8 * i
    let e := BitVec.ofNat 64 (t.mem.readNat a 8)
    t.outsideWrite (valueAt a 8 ((e &&& ~~~(0x000FFFFFFFFFF000#64)) ||| BitVec.ofNat 64 m.dst).toNat) false) s

/-- The sectors of the migrated page's entries can be written now. -/
def State.remapReady (s : State) : Bool :=
  let n := if s.mig.bytes = 65536 then 1 else if s.mig.bytes = 2097152 then 32 else 4
  (List.range n).all fun i => !s.held (sectorOf (s.mig.entry + 8 * i))

/-- MIGRATION_LINE_MOVE: the copier moves a line, whose two channels it has woken; when all are moved Miryen writes the entry and has it invalidated (R321, R322,
R352). -/
def execMigrationLineMove (line : Nat) (s : State) : Host.Outcome State Fault Refusal :=
  .next (
    let m := s.mig
    if !m.busy || m.flush || s.hubTouches m.src m.bytes then s
    else if m.moved.length * 128 = m.bytes then
      if s.xlt.busy || !s.remapReady then s
      else
        let t := s.remap
        ({ t with mig := { m with flush := true } } : State).startInv m.va (if m.bytes = 65536 then 0 else if m.bytes = 2097152 then 1 else 2)
    else if m.moved.contains line || decide (m.bytes ≤ 128 * line) || s.asleep (m.src + 128 * line) || s.asleep (m.dst + 128 * line) then s
    else
      let t := ((s.moveLine (m.src + 128 * line) (m.dst + 128 * line)).reach (m.src + 128 * line)).reach (m.dst + 128 * line)
      { t with mig := { m with moved := m.moved ++ [line] } })

/-! ### Pseudo-channels (R351 to R353) -/

/-- A pseudo-channel. -/
def State.chanOf (s : State) (p : Nat) : PseudoChan := mget {} s.pch p

/-- Updates a pseudo-channel of the 512. -/
def State.modChan (s : State) (p : Nat) (f : PseudoChan → PseudoChan) : State :=
  if p < 512 then { s with pch := mset {} s.pch p (f (s.chanOf p)) } else s

/-- The channel has been idle since an earlier time: a request in the cycle of an entry command cancels it (R351, R352). -/
def State.idle (s : State) (c : PseudoChan) : Bool := c.last != some s.tick

/-- POWER_DOWN_ENTRY: the idle timer reaches `pdidle` (R351 to R353). -/
def execPowerDownEntry (p : Nat) (s : State) : Host.Outcome State Fault Refusal :=
  .next (s.modChan p fun c => if c.state = 0 ∧ c.cfg.pden ∧ c.cfg.pdidle ≠ 0 ∧ s.idle c then { c with state := 1 } else c)

/-- SELF_REFRESH_ENTRY: from power-down, the idle timer reaches `sridle` (R351 to R353). -/
def execSelfRefreshEntry (p : Nat) (s : State) : Host.Outcome State Fault Refusal :=
  .next (s.modChan p fun c => if c.state = 1 ∧ c.cfg.pden ∧ c.cfg.sren ∧ s.idle c then { c with state := 2 } else c)

/-- PSEUDO_CHANNEL_WAKE: a request or a wake restarts the timer of an active channel, and starts the exit of another (R351, R352). -/
def execPseudoChannelWake (p : Nat) (s : State) : Host.Outcome State Fault Refusal :=
  .next (s.modChan p fun c => c.request s.pwrcfg s.tick)

/-- PSEUDO_CHANNEL_EXIT_COMPLETE (R351). -/
def execPseudoChannelExitComplete (p : Nat) (s : State) : Host.Outcome State Fault Refusal :=
  .next (s.modChan p fun c => if c.state = 3 then { c with state := 0, cfg := s.pwrcfg } else c)

/-! ### Power and clock (R371) -/

/-- The step after a measurement: down above the cap or near a limit, up with 150 W to spare, or toward `fmin` where the cap allows it. -/
def Power.nextStep (p : Power) (watts : Nat) (near5 near10 : Bool) : Nat :=
  if p.cap < watts ∨ near5 then max 8 (p.step - 1)
  else if (watts + 150 ≤ p.cap ∧ !near10) ∨ p.step < p.fmin then min 17 (p.step + 1)
  else p.step

/-- `lim` of PWR_STAT: what holds the clock below its highest step. -/
def Power.limits (p : Power) (step watts : Nat) (near10 : Bool) : Nat :=
  bit1 (decide (step < 17 ∧ p.cap < watts + 150)) + 2 * bit1 (decide (step < 17) && near10) + 4 * bit1 (decide (step < p.fmin))

/-- POWER_MEASUREMENT: the power manager measures the module and takes at most one step; at the lowest, above the cap, it skips issue cycles until
the power falls below the cap (R371). -/
def execPowerMeasurement (watts : BitVec 12) (near5 near10 : Bool) (s : State) : Host.Outcome State Fault Refusal :=
  .next (
    let w := watts.toNat
    let p := s.pwr
    let near10 := near10 || near5
    let step := p.nextStep w near5 near10
    { s with pwr := { p with pwr := w, step := step, lim := p.limits step w near10,
                             skip := if p.step = 8 ∧ p.cap < w then true else if w < p.cap then false else p.skip } })

end Sys2Proof.Machine
end

