-- ==== Sys2Proof/Machine/Package.lean ====
section
/-! DEFINITION. The package: reset and the survey (R354 to R363), Vexlis ports (R363 to R368), host accesses (R268, R370), errors and service (R372 to R374). -/

namespace Sys2Proof.Machine

/-! ### Reset and power loss (R357, R348) -/

/-- The package after a reset: the survey begins anew; durable flash pages and host memory are as they were, the physical pages of appends that were broken
off are free again (R348, R357). -/
def State.rebooted (s : State) : State :=
  { State.reset with
    flash := s.flash
    dlog := { phys := s.dlog.phys + s.appending }
    hostMem := s.hostMem
    svy := { epoch := s.svy.epoch + 1 }
    tick := s.tick
    nextId := s.nextId
    sched := s.sched }

/-- PACKAGE_RESET (R357). -/
def execPackageReset (s : State) : Host.Outcome State Fault Refusal := .next s.rebooted

/-- CARRIER_POWER_LOSS: only what is durable survives (R348). -/
def execCarrierPowerLoss (s : State) : Host.Outcome State Fault Refusal := .next s.rebooted

/-! ### The survey (R357 to R361) -/

/-- The two dies of a link. -/
def linkEnds (k : Nat) : Option (Nat × Nat) := Config.links[k]?

/-- How a link stands. -/
def Survey.link (v : Survey) (k : Nat) : LinkState := mget .training v.links k

/-- The survey is running. -/
def Survey.running (v : Survey) : Bool := !v.done && !v.fail

/-- Updates the survey. -/
def State.modSvy (s : State) (f : Survey → Survey) : State := { s with svy := f s.svy }

/-- LINK_TRAINING_TIMEOUT: a link does not train and is left out (R357). -/
def execLinkTrainingTimeout (link : Nat) (s : State) : Host.Outcome State Fault Refusal :=
  .next (s.modSvy fun v => if v.running && (linkEnds link).isSome && v.link link == .training then { v with links := mput v.links link .left } else v)

/-- LINK_AUTHENTICATION: a link has trained, and its two sides verify each other (R358). -/
def execLinkAuthentication (link whyA whyB : Nat) (s : State) : Host.Outcome State Fault Refusal :=
  .next (s.modSvy fun v =>
    let ok := fun (w : Nat) => w == 0 || w == 2 || w == 3
    if v.running && (linkEnds link).isSome && v.link link == .training && ok whyA && ok whyB then { v with links := mput v.links link (.trained whyA whyB) } else v)

/-- The other end of a link from a die, when the link trained and both sides passed. -/
def Survey.across (v : Survey) (k d : Nat) : Option Nat := match v.link k, linkEnds k with
  | .trained 0 0, some (a, b) => if a = d then some b else if b = d then some a else none
  | _, _ => none

/-- Dies joined to a die by a trained and authenticated link. -/
def Survey.neighbours (v : Survey) (d : Nat) : List Nat := (List.range Config.links.length).filterMap fun k => v.across k d

/-- What the other sides of its trained links found wrong with a die. -/
def Survey.found (v : Survey) (d : Nat) : List Nat := (List.range Config.links.length).filterMap fun k => match v.link k, linkEnds k with
  | .trained x y, some (a, b) => if b = d then some x else if a = d then some y else none
  | _, _ => none

/-- Self-test and every authentication passed (R359). -/
def Survey.sound (v : Survey) (d : Nat) : Bool := Config.selfTest v.epoch d && (v.found d).all (· == 0)

/-- Dies joined to those of a list through sound dies, pass after pass. -/
def Survey.spread (v : Survey) (sound : Nat → Bool) : Nat → List Nat → List Nat
  | 0, r => r
  | n + 1, r => v.spread sound n ((List.range 29).filter fun d => r.contains d || (sound d && (v.neighbours d).any r.contains))

/-- The dies joined to the hub. -/
def Survey.joined (v : Survey) (sound : Nat → Bool) : List Nat := if sound 28 then v.spread sound 29 [28] else []

/-- Base dies whose lower layer is not in `r` are left out, pass after pass, until nothing changes. -/
def Survey.settleIn (v : Survey) (sound : Nat → Bool) : Nat → List Nat → List Nat
  | 0, r => r
  | n + 1, r =>
    let next := v.joined fun d => sound d && !(decide (16 ≤ d ∧ d < 24) && !r.contains (2 * (d - 16)))
    if next = r then r else v.settleIn sound n next

/-- What the sound dies include (R359): a base die goes with its lower layer, and what only it joined to the hub goes with it. -/
def Survey.reached (v : Survey) (sound : Nat → Bool) : List Nat := v.settleIn sound 29 (v.joined sound)

/-- The included dies (R359). -/
def Survey.included (v : Survey) : List Nat := v.reached v.sound

/-- Every link has trained and authenticated, or is left out: steps 1 and 3 are over (R357). -/
def Survey.settled (v : Survey) : Bool := (List.range Config.links.length).all fun k => v.link k != .training

/-- Step 4 of the survey (R357): a die receives the message of an originator from it, or from an included die that has it, which forwards it once. A die that failed an
authentication has no link left (R359). -/
def Survey.hears (v : Survey) (die origin : Nat) : Bool :=
  let inc := v.included
  v.running && v.settled && decide (die < 29 ∧ origin < 29) && die != origin && !v.got.contains (die, origin) && (v.found die).all (· == 0) &&
    (v.neighbours die).any fun n => (v.found n).all (· == 0) && (n == origin || (inc.contains n && v.got.contains (n, origin)))

/-- SURVEY_MESSAGE: a die receives the message of an originator (R357). -/
def execSurveyMessage (die origin : Nat) (s : State) : Host.Outcome State Fault Refusal :=
  .next (s.modSvy fun v => if v.hears die origin then { v with got := v.got ++ [(die, origin)] } else v)

/-- Links of a die, and those of them that trained. -/
def Survey.linkCounts (v : Survey) (d : Nat) : Nat × Nat :=
  let mine := (List.range Config.links.length).filter fun k => match linkEnds k with
    | some (a, b) => a == d || b == d
    | none => false
  (mine.length, (mine.filter fun k => v.link k != .left && v.link k != .training).length)

/-- The hub has heard of a die: its message came, or an included die reports a link to it (R361). -/
def Survey.heard (v : Survey) (inc : List Nat) (d : Nat) : Bool :=
  v.got.contains (28, d) || (List.range Config.links.length).any fun k => match linkEnds k with
    | some (a, b) => (a == d && inc.contains b) || (b == d && inc.contains a)
    | none => false

/-- `why` of a die that is not included (R361). -/
def Survey.why (v : Survey) (inc : List Nat) (d : Nat) : Nat :=
  if v.got.contains (28, d) && !Config.selfTest v.epoch d then 4
  else if (v.found d).contains 2 then 2
  else if (v.found d).contains 3 then 3
  else if (v.linkCounts d).2 = 0 then 1
  else if 16 ≤ d ∧ d < 24 ∧ !inc.contains (2 * (d - 16)) then 6
  else 5

/-- SVY_DIE of a die (R361). -/
def Survey.dieOf (v : Survey) (inc : List Nat) (d : Nat) : Die :=
  let l := v.linkCounts d
  if inc.contains d then
    { ncore := if d < 16 then min Config.coresPerLayer (Config.coresFound v.epoch d) else 0, ltrain := l.2, ltotal := l.1, state := 1 }
  else if d = 28 || v.heard inc d then { ltrain := l.2, ltotal := l.1, why := v.why inc d, state := 2 }
  else {}

/-- Bits of the numbers `k` below `n` of which `f k` holds. -/
def bitsWhere (n : Nat) (f : Nat → Bool) : Nat := ((List.range n).filter f).foldl (fun x k => x + 2 ^ k) 0

/-- What the survey leaves (R359 to R361); `short`: a port lacks wavelengths to run. -/
def Survey.collect (v : Survey) (short : Bool) : Survey :=
  let inc := v.included
  if inc.isEmpty then { v with fail := true }
  else
    let dies : SMap Die := (List.range 29).foldl (fun m d => mset {} m d (v.dieOf inc d)) []
    let ncore := fun (y : Nat) => (mget {} dies y).ncore
    let arr : SMap Nat := (List.range 768).filterMap fun c =>
      if coreId c < ncore (layerOf c) then (Config.arrayChannel v.epoch c).map (c, ·) else none
    let cores := ((List.range 16).map ncore).foldl (· + ·) 0
    let hbm := bitsWhere 8 fun k => inc.contains (16 + k)
    let oio := bitsWhere 4 fun k => inc.contains (24 + k)
    { v with
      done := true
      dies := dies
      arrChan := arr
      arr := !arr.isEmpty
      cores := cores
      hbm := BitVec.ofNat 8 hbm
      oio := BitVec.ofNat 4 oio
      nexcl := (dies.filter fun p => p.2.state == 2).length
      degr := decide (cores < 768) || hbm != 255 || oio != 15 || !arr.isEmpty || short }

/-! ### Drift tables (R362) -/

/-- The die is included and not lost. -/
def Survey.up (v : Survey) (d : Nat) : Bool := (mget {} v.dies d).state == 1 && !v.lost.contains d

/-- The included links: number and ends. -/
def Survey.joins (v : Survey) : List (Nat × Nat × Nat) := (List.range Config.links.length).filterMap fun k => match v.link k, linkEnds k with
  | .trained 0 0, some (a, b) => if v.up a && v.up b then some (k, a, b) else none
  | _, _ => none

/-- Hops of the dies next to those of `r`, pass after pass. -/
def spreadHops (es : List (Nat × Nat × Nat)) : Nat → SMap Nat → SMap Nat
  | 0, r => r
  | n + 1, r =>
    let add := fun (t : SMap Nat) (a b : Nat) => match mfind r a, mfind r b with
      | some x, none => mput t b (x + 1)
      | _, _ => t
    spreadHops es n (es.foldl (fun t e => add (add t e.2.1 e.2.2) e.2.2 e.2.1) r)

/-- The best of some (hops, link): fewest hops, ties by ascending link number. -/
def bestLink (cs : List (Nat × Nat)) : Option (Nat × Nat) := cs.foldl (fun m c => match m with
  | none => some c
  | some b => if c.1 < b.1 ∨ (c.1 = b.1 ∧ c.2 < b.2) then some c else m) none

/-- An entry from the links that lead to a destination: the best, and the best of the others. -/
def driftOf (cs : List (Nat × Nat)) : Drift :=
  let p := bestLink cs
  { primary := p.map (·.2), alt := (bestLink (cs.filter fun c => some c != p)).map (·.2) }

/-- The ports that lead to a package: up, on an optical die that is in place, with the package or a switch at the other end. -/
def State.portsTo (s : State) (pkg : Nat) : List Nat := (s.vxl.filter fun p => p.2.live && s.svy.up (24 + p.1 / 6) && (p.2.peer == pkg || p.2.peer == 255)).map (·.1)

/-- The drift tables Miryen computes: shortest path over the included links (R362, R363). -/
def State.drifts (s : State) : SMap Drift :=
  let es := s.svy.joins
  let dies := (List.range 29).filter s.svy.up
  let links := fun (r : SMap Nat) (d : Nat) => es.filterMap fun e =>
    (if e.2.1 = d then some e.2.2 else if e.2.2 = d then some e.2.1 else none).bind fun n => (mfind r n).map fun x => (x, e.1)
  let col := fun (m : SMap Drift) (dest : Nat) (r : SMap Nat) (ports : List Nat) => dies.foldl (fun m d =>
    if dest = d then m
    else mset {} m (512 * d + dest) (driftOf (((ports.filter fun p => 24 + p / 6 == d).map fun p => (0, Config.links.length + p)) ++ links r d))) m
  let inside := dies.foldl (fun m t => col m t (spreadHops es 29 [(t, 0)]) []) []
  ((List.range s.pkgs).filter fun q => q != Config.package && !s.left.contains q).foldl (fun m q =>
    let ports := s.portsTo q
    col m (32 + q) (spreadHops es 29 (ports.foldl (fun r p => mput r (24 + p / 6) 1) [])) ports) inside

/-- Miryen recomputes the drift tables and switches them over (R362). -/
def State.redrift (s : State) : State := { s with drift := s.drifts }

/-- A port of the 24 has too few wavelengths to run (R368). -/
def State.shortPort (s : State) (p : Nat) : Bool := decide (96 - (s.port? p).retired.length < 64)

/-- The ports of the included optical dies that have the wavelengths are training until the pod survey (R357, R368, assumption 103). -/
def State.trainPorts (s : State) : State :=
  (List.range 24).foldl (fun s p => if s.svy.up (24 + p / 6) && !s.shortPort p && (s.port? p).state == .down then s.setPort p { s.port? p with state := .training } else s) s

/-- SURVEY_COLLECT: two seconds after the flooding began every message that can reach the hub has, and Miryen decides; whether the root complex completes AtomicOps
is recorded (R357, R370). -/
def execSurveyCollect (s : State) : Host.Outcome State Fault Refusal :=
  .next (
    let v := s.svy
    let imageGood := Config.imageOk v.epoch || v.image == .recovery
    let arrived := v.included.all fun d => d == 28 || v.got.contains (28, d)
    let short := (List.range 24).any fun p => v.included.contains (24 + p / 6) && s.shortPort p
    if v.running && imageGood && v.settled && arrived then
      let t : State := { s with svy := v.collect short, atomicOps := Config.rootAtomics v.epoch }
      if t.svy.done then t.trainPorts.redrift else t
    else s)

/-- RECOVERY_IMAGE_LOAD: the image failed its check, and the recovery image of the host passes or fails (R357). -/
def execRecoveryImageLoad (ok : Bool) (s : State) : Host.Outcome State Fault Refusal :=
  .next (s.modSvy fun v =>
    if !v.running || Config.imageOk v.epoch || v.image != .loaded then v
    else if ok then { v with image := .recovery } else { v with image := .failed, fail := true })

/-- LINK_LOSS: a link is lost in operation; dies left without a path are excluded from then on (R362). One the survey excluded is no part of a path, whichever link of
it is lost (R359). -/
def execLinkLoss (link : Nat) (s : State) : Host.Outcome State Fault Refusal :=
  .next (
    let v := s.svy
    if !v.done || (linkEnds link).isNone || v.link link == .left then s
    else
      let w : Survey := { v with links := mput v.links link .left }
      let now := w.reached v.up
      let out := (List.range 29).filter fun d => (mget {} v.dies d).state == 1 && !now.contains d && !v.lost.contains d
      let t : State := { s with svy := { w with lost := v.lost ++ out } }
      let t := ((List.range 24).filter fun p => out.contains (24 + p / 6)).foldl (fun t p => t.setPort p (t.port? p).downed) t
      (if out.isEmpty then t else t.report 6 0).redrift)

/-! ### Ports (R363 to R368) -/

/-- A port goes down, an error record is written, the drift tables are recomputed (R365, R368). -/
def State.portDown (s : State) (p : Nat) : State := ((s.setPort p (s.port? p).downed).report 7 0 none none (some p)).redrift

/-- POD_SURVEY: `n` packages; the ports that authenticated come up with their first keys, and the drift tables reach the other packages. One that was removed is back
when the survey finds it: as the neighbour of a port, or, in an entry whose number is no port's, behind a switch or another package (R358, R363, R366, R374). -/
def execPodSurvey (n : Nat) (peers : List (Nat × Nat)) (s : State) : Host.Outcome State Fault Refusal :=
  .next (
    if !s.svy.done || decide (n = 0 ∨ 256 < n) then s
    else
      let t : State := { s with pkgs := n, left := s.left.filter fun q => decide (q < n) && !peers.any fun p => p.2 % 256 == q }
      (peers.foldl (fun t p =>
        let v := t.port? p.1
        if p.1 < 24 && t.svy.up (24 + p.1 / 6) && !t.shortPort p.1 then
          t.setPort p.1 { state := .up, retired := v.retired, peer := p.2 % 256, replays := v.replays, key0 := true, rx0 := true }
        else t) t).redrift)

/-- A flit is discarded: a replay request goes out for the one expected, and an error record is written; after 16 requests for one the port goes down (R365, R372). -/
def State.askReplay (s : State) (p : Nat) (v : Vport) : State :=
  if 16 ≤ v.asked + 1 then s.portDown p else (s.setPort p { v with asked := v.asked + 1 }).report 7 0 (some 0) none (some p)

/-- VEXLIS_DATA_FLIT: a data flit arrives; `intact`: its tag passes under the key of its phase (R365, R366). -/
def execVexlisDataFlit (p : Nat) (seq ack : BitVec 12) (ph intact : Bool) (s : State) : Host.Outcome State Fault Refusal :=
  .next (
    let v := s.port? p
    if !v.live then s
    else if intact && v.rxKey ph && seq.toNat == v.rxSeq then
      s.setPort p (({ v with rxSeq := (v.rxSeq + 1) % 4096, asked := 0, cred := v.cred + 1 } : Vport).acked ack.toNat)
    else s.askReplay p v)

/-- VEXLIS_ACK_FLIT (R364, R365). -/
def execVexlisAckFlit (p : Nat) (ack : BitVec 12) (s : State) : Host.Outcome State Fault Refusal :=
  .next (if (s.port? p).live then s.setPort p ((s.port? p).acked ack.toNat) else s)

/-- VEXLIS_IDLE_FLIT: nothing but its `ack` acts (R364, R365). -/
def execVexlisIdleFlit (p : Nat) (ack : BitVec 12) (s : State) : Host.Outcome State Fault Refusal :=
  .next (if (s.port? p).live then s.setPort p ((s.port? p).acked ack.toNat) else s)

/-- VEXLIS_REPLAY_REQUEST: buffered flits are sent again unchanged; after 16 requests for one `seq` the port goes down (R365, R368). -/
def execVexlisReplayRequest (p : Nat) (seq : BitVec 12) (s : State) : Host.Outcome State Fault Refusal :=
  .next (
    let v := s.port? p
    if !v.live then s
    else
      let n := if v.reqs ≠ 0 ∧ v.reqSeq = seq.toNat then v.reqs + 1 else 1
      let w : Vport := { v with replays := (v.replays + 1) % 2 ^ 32, reqSeq := seq.toNat, reqs := n }
      if 16 ≤ n then (s.setPort p w).portDown p else (s.setPort p w).report 7 0 (some 0) none (some p))

/-- VEXLIS_KEY_RETIRE: accepted in sequence under a key it holds, it erases the old key of the receive side (R366). -/
def execVexlisKeyRetire (p : Nat) (seq : BitVec 12) (ph : Bool) (s : State) : Host.Outcome State Fault Refusal :=
  .next (
    let v := s.port? p
    if !v.live then s
    else if v.rxKey ph && seq.toNat == v.rxSeq then s.setPort p { v with rx0 := v.rx0 && !ph, rx1 := v.rx1 && ph }
    else s.askReplay p v)

/-- KEY_ROLLOVER: a new key is installed in the unused phase, and new flits go under it (R366). -/
def execKeyRollover (p : Nat) (s : State) : Host.Outcome State Fault Refusal :=
  .next (
    let v := s.port? p
    if v.state != .up || v.key (!v.ph) || v.rxKey (!v.ph) then s
    else
      let n := !v.ph
      s.setPort p ({ v with state := .rollover, ph := n, ctr := 0, key0 := v.key0 || !n, key1 := v.key1 || n, rx0 := v.rx0 || !n, rx1 := v.rx1 || n } : Vport).retire)

/-- WAVELENGTH_LOCK_LOSS: a wavelength is retired; below 64 the port goes down, in training too (R368). -/
def execWavelengthLockLoss (p w : Nat) (s : State) : Host.Outcome State Fault Refusal :=
  .next (
    let v := s.port? p
    if 96 ≤ w ∨ v.retired.contains w then s
    else
      let x : Vport := { v with retired := v.retired ++ [w] }
      let t := s.setPort p x
      if (v.live || v.state == .training) && decide (96 - x.retired.length < 64) then t.portDown p else t)

/-- WAVELENGTH_RETRY: a retired wavelength returns when it locks; a port that was down for want of them trains again (R368, assumption 103). -/
def execWavelengthRetry (p w : Nat) (locked : Bool) (s : State) : Host.Outcome State Fault Refusal :=
  .next (if locked then
      let t := s.setPort p { s.port? p with retired := (s.port? p).retired.filter (· != w) }
      if s.svy.done && s.shortPort p && p < 24 && s.svy.up (24 + p / 6) && !t.shortPort p then t.setPort p { t.port? p with state := .training } else t
    else s)

/-- PACKAGE_REMOVAL: a drained package leaves the pod; accesses to its memory fail from then on (R374). -/
def execPackageRemoval (pkg : Nat) (s : State) : Host.Outcome State Fault Refusal :=
  .next (
    if pkg = Config.package ∨ s.pkgs ≤ pkg ∨ s.left.contains pkg then s
    else ({ s with left := s.left ++ [pkg], vxl := (s.vxl.map fun p => (p.1, if p.2.peer = pkg then p.2.downed else p.2)).filter fun p => p.2 != {} } : State).redrift)

/-! ### The host's accesses (R268, R370) -/

/-- HOST_BAR2_WRITE: a host write to device memory, performed at its home in arrival order (R268, R369). -/
def execHostBar2Write (pa : Nat) (bytes : List (BitVec 8)) (s : State) : Host.Outcome State Fault Refusal :=
  .next (
    let at_ : SMap Byte := bytes.zipIdx.foldl (fun m p => mput m (s.redirect (pa + p.2)) p.1) []
    if at_.all fun p => s.owned p.1 && !s.held (sectorOf p.1) then (s.remoteWrite at_ false).stampAll at_ else s)

/-- The new value of a host AtomicOp: FetchAdd, Swap or CAS; none where nothing is written. -/
def atomicOpValue (kind bytes old x y : Nat) : Option Nat :=
  let m := 2 ^ (8 * bytes)
  match kind with
  | 0 => some ((old + x) % m)
  | 1 => some (x % m)
  | _ => if old = x % m then some (y % m) else none

/-- HOST_ATOMICOP: performed at the home hub slice at package scope; one that is not supported changes nothing (R370). -/
def execHostAtomicop (kind pa bytes : Nat) (x y : BitVec 64) (s : State) : Host.Outcome State Fault Refusal :=
  .next (
    let a := s.redirect pa
    if 2 < kind ∨ (bytes ≠ 4 ∧ bytes ≠ 8) ∨ pa % bytes ≠ 0 ∨ !s.owned a ∨ s.held (sectorOf a) ∨ s.poisoned a then s
    else match atomicOpValue kind bytes (s.mem.readNat a bytes) x.toNat y.toNat with
      | some v => (s.remoteWrite (valueAt a bytes v) false).stampAll (valueAt a bytes v)
      | none => s)

/-! ### Errors (R372, R373) -/

/-- SINGLE_BIT_ERROR: corrected, and recorded (R372). -/
def execSingleBitError (cls die : BitVec 8) (detail : BitVec 32) (s : State) : Host.Outcome State Fault Refusal :=
  .next (s.report cls.toNat 0 (some 0) (some detail.toNat) (some die.toNat))

/-- A block leaves a core's dressing cache and gives back its claim. -/
def State.giveBlock (s : State) (c : Nat) (b : Block) : State :=
  (s.modCore c (·.dropBlock b.sidx b.blk)).modCore c fun k => if b.claimed then { k with wbs := k.wbs ++ [⟨b.saddr, [], true, b.sidx, b.blk, b.unit, false⟩] } else k

/-- A dirty block is lost: its sectors are poisoned and its claim is given back (R318, R372). -/
def State.loseBlock (s : State) (c saddr : Nat) : State :=
  ((s.core c).dress.filter fun b => b.dirty && b.saddr == saddr).foldl (fun s b =>
    ((b.phys.map sectorOf).eraseDups.foldl (fun s q => s.poisonSector q) s).giveBlock c b) s

/-- A clean copy is dropped and fetched again (R372). By `off % 6`: 0 sector `loc` in layer caches and L1; 1 host sector `loc` in L1; then number `off / 6`
2 of the L1 TLB, 3 of the walk-ahead TLB and 4 of the clean dressing blocks of core `loc`, 5 of the hub's translations. -/
def State.dropClean (s : State) (loc off : Nat) : State :=
  let n := off / 6
  match off % 6 with
  | 0 => { s with
      layers := s.layers.map fun l => (l.1, { l.2 with copies := merase l.2.copies loc })
      cores := s.cores.map fun k => (k.1, { k.2 with l1 := merase k.2.l1 (2 * loc) }) }
  | 1 => { s with cores := s.cores.map fun k => (k.1, { k.2 with l1 := merase k.2.l1 (2 * loc + 1) }) }
  | 2 => s.modCore loc fun k => { k with tlb := k.tlb.eraseIdx n }
  | 3 => s.modCore loc fun k => { k with wtlb := k.wtlb.eraseIdx n }
  | 4 => match ((s.core loc).dress.filter fun b => !b.dirty)[n]? with
    | some b => s.giveBlock loc b
    | none => s
  | _ => { s with hubTlb := s.hubTlb.eraseIdx n }

/-- A register of a lane, 64 * register + lane, is marked for its next reader (R318, R372). -/
def Gang.markReg (y : Gang) (r : Nat) : Gang := { y with badRegs := if y.badRegs.contains r then y.badRegs else r :: y.badRegs }

/-- What is lost by kind: 0 a clean copy (`State.dropClean`); 1 a dirty line of sector `loc`, in a layer cache with its writes or in the hub cache; 2 the dirty block of core `loc` at storage address `off`; 3 the
scratchpad word of core `loc` at offset `off`; 4 the split tables, spill stacks, lead or matrix state of unit `loc`; 5 the drift table of die `loc`, Miryen's memory on the hub die;
6 sector `loc` in memory; 7 a register of unit `loc`, gang, register and lane in `off`; 8 an entry in a queue of unit `loc`: the value at `off % 4096` of queue `off / 4096`
of `badVals`, or with queue 1,000,000 the command numbered so; 9 the PCIe link marks, or marks no more, the completions of reads of host sector `loc` poisoned (R318). -/
def State.doubleBit (s : State) (kind loc off : Nat) : State :=
  match kind with
  | 0 => s.dropClean loc off
  | 1 => s.poisonSector loc
  | 2 => s.loseBlock loc off
  | 3 => s.modCore loc fun k => { k with spadBad := if off < Config.spadBytes ∧ !k.spadBad.contains (off / 4) then off / 4 :: k.spadBad else k.spadBad }
  | 4 => s.modUnit loc fun x => { x with ending := some (x.ending.getD .poisonedData) }
  | 5 => { s with fatal := true }
  | 6 => s.poisonSector loc
  | 7 => s.modGang loc (off / 8192) (·.markReg (off % 8192))
  | 9 => { s with linkBad := if s.linkBad.contains loc then s.linkBad.filter (· != loc) else loc :: s.linkBad }
  | _ =>
    if off / 4096 = 1000000 then s.modUnit loc (·.modCmd (off % 4096) fun c => { c with bad := true, err := TrapCode.poisonedData.code })
    else s.modUnit loc fun x => { x with badVals := x.badVals ++ [(off / 4096, off % 4096)] }

/-- Class of the record of an uncorrectable error. -/
def errorClass (s : State) (kind loc : Nat) : Nat := match kind with
  | 6 => if s.isHbm (32 * loc) then 3 else 4
  | 7 => 2
  | 9 => 8
  | _ => 1

/-- The die of the place, where the place fixes one (R354): the layer of a core or of a core's unit, of a layer cache with writes of the sector; the hub die; the base die of
an HBM4E sector's stack. -/
def errorDie (s : State) (kind loc off : Nat) : Option Nat := match kind with
  | 0 => if off % 6 ≤ 1 then none else if off % 6 = 5 then some 28 else some (layerOf loc)
  | 1 => some (((s.layers.find? fun l => l.2.out.any fun w => w.bytes.any fun p => sectorOf p.1 == loc).map (·.1)).getD 28)
  | 5 => some loc
  | 6 => if s.isHbm (32 * loc) then some (16 + s.stackOf (32 * loc)) else none
  | 9 => some 28
  | 2 => some (layerOf loc)
  | 3 => some (layerOf loc)
  | _ => some (layerOf (coreOf loc))

/-- The place may hold what is lost: a dirty line is of memory of this device (R318), a drift table of a die. -/
def errorAt (s : State) (kind loc : Nat) : Bool := match kind with
  | 1 => s.owned (32 * loc)
  | 5 => decide (loc < 29)
  | _ => decide (kind ≤ 9)

/-- Its severity. -/
def errorSev : Nat → Nat
  | 0 => 0 | 4 => 2 | 5 => 4 | _ => 1

/-- DOUBLE_BIT_ERROR: a record, and what the manual gives for the place (R318, R372). -/
def execDoubleBitError (kind loc off : Nat) (detail : BitVec 32) (s : State) : Host.Outcome State Fault Refusal :=
  .next (if errorAt s kind loc then (s.doubleBit kind loc off).report (errorClass s kind loc) 0 (some (errorSev kind)) (some detail.toNat) (errorDie s kind loc off) else s)

/-- HBM_ROW_SPARING: an HBM4E row (class 3) is copied to a spare, a flash block (5) or a link lane (6 on the package, 7 of a Vexlis port) replaced by one, with no program
effect; with no spare left it is retired, and a record says so (R373). -/
def execHbmRowSparing (what : Nat × BitVec 32) (spare : Bool) (s : State) : Host.Outcome State Fault Refusal :=
  .next (if spare || !(what.1 == 3 || what.1 == 5 || what.1 == 6 || what.1 == 7) then s else s.report what.1 0 (some 3) (some what.2.toNat))

end Sys2Proof.Machine
end

