-- ==== Sys2Proof/Machine/Agenda.lean ====
section
/-! DEFINITION. What one step does: the part of a cycle that is due, else the next move of the environment, else the drawing of further moves (assumption 1);
and the placing of an instruction where the next step fetches it (assumption 15). The meaning of an instruction is a parameter, `run`. -/

namespace Sys2Proof.Machine

/-! ### Parts of a cycle -/

/-- An access that was held for a first-touch entry is tried again (R311). -/
def State.retryHeld (s : State) (a : Held) : Host.Outcome State Fault Refusal := match a with
  | .near k => execNmcStart k s
  | .read k => execDreadStart k s
  | .append k => execDappendExecute k s
  | .claim c i b => execSeamClaimRequest c i b s
  | .fill c i b => execSeamBlockFill c i b s
  | .wait j k => execWaitNodePoll j k s

/-- One part of a cycle. -/
def State.runMicro (run : Runner) (s : State) (m : Micro) : Host.Outcome State Fault Refusal := match m with
  | .issue st => s.issueStream run st
  | .endCycle c => .next (s.endCycle c)
  | .retry a => s.retryHeld a
  | .denied st e => s.issueDenied run st e
  | .touched e => .next (s.streams.foldl (·.noteHeld run · [e]) s)
  | .allow e => .next { s.unhold e with refused := s.refused.filter (· != e) }

/-! ### Moves of the environment -/

/-- The instruction is an event: the table gives it no word. -/
def isEvent (i : Instr) : Bool := (encode i).isNone

/-- Layer `y` drops its copies of the four sectors of the 128-byte line of an address (R246). -/
def State.dropLine (s : State) (y pa : Nat) : State :=
  s.modLayer y fun l => { l with copies := l.copies.filter fun p => p.1 / 4 != pa / 128 }

/-- A cached translation is dropped: of core `c`, its L1 TLB and its walk-ahead TLB, or of the hub (R306). -/
def State.dropXlate (s : State) (c va : Nat) : State :=
  let keep := fun (e : TlbEntry) => !(decide (e.vpn ≤ va / 65536) && decide (va / 65536 < e.vpn + e.pages))
  if 768 ≤ c then { s with hubTlb := s.hubTlb.filter keep }
  else s.modCore c fun k => { k with tlb := k.tlb.filter keep, wtlb := k.wtlb.filter keep }

/-- One move of the environment. -/
def State.runAct (run : Runner) (s : State) (a : EnvAct) : Host.Outcome State Fault Refusal := match a with
  | .cycle c => .next (s.cycle run c)
  | .event i => if isEvent i then settle (run i s) else .next s
  | .dropL1 c k => .next (s.modCore c fun x => { x with l1 := merase x.l1 k })
  | .dropLayer y pa => .next (s.dropLine y pa)
  | .dropTlb c va => .next (s.dropXlate c va)

/-- The environment's next moves are drawn. -/
def State.draw (s : State) : State := { s with sched := Config.schedule s.tick, tick := s.tick + 1 }

/-- One step of the machine. -/
def State.advanceWith (run : Runner) (s : State) : Host.Outcome State Fault Refusal := match s.agenda with
  | m :: rest => ({ s with agenda := rest } : State).runMicro run m
  | [] => match s.sched with
    | a :: rest => ({ s with sched := rest } : State).runAct run a
    | [] => .next s.draw

/-! ### Placing an instruction (assumption 15) -/

/-- Words that only a lead has (R54, R70, R149, R234, R235). -/
def leadOnly : Instr → Bool
  | .cancelGraph _ => true
  | .cancelPhase _ => true
  | .cancelJob _ => true
  | .ctxsv _ => true
  | .dsld _ _ _ => true
  | .dsst _ _ _ => true
  | .dqpush _ => true
  | i => match encode i with
    | some w => w.toNat / 2 ^ 26 == 0x18
    | none => false

/-- The virtual address the instruction is placed at, and the host address it lies at. -/
def placeAddr : Nat := 0x10000

/-- The leaf entry of the page it lies in: host memory, executable (R303). -/
def placeLeaf : DWord := 0x10143

/-- The stream that issues the instruction: the lead of unit 0 where only a lead has it, the trap entry of its gang 0 for RETT, else split 0 of gang 0. -/
def placeStream : Option Instr → Stream
  | some .rett => .split 0 0 4
  | some i => if leadOnly i then .lead 0 else .split 0 0 0
  | none => .split 0 0 0

/-- The unit that runs it: system, with one gang of 8 lanes, lane 0 active, at the start of packet 0. -/
def placeUnit (st : Stream) : Unit :=
  { kte := { gang := true, sregs := 64, vregs := 128, scratch := 65536, cbase := BitVec.ofNat 64 placeAddr }
    bind := { sys := true, mgrant := true }
    qlim := { operand := ⟨8, 0⟩, engine := ⟨8, 0⟩, port := ⟨8, 0⟩, decision := ⟨8, 0⟩ }
    gangs := [(0, { width := 8, slices := [0], split := match st with
      | .split _ _ 4 => [(4, { mask := 1, state := .trap })]
      | _ => [(0, { mask := 1, state := .ready })] })] }

/-- The state with the bytes of a word where the next step fetches its instruction. -/
def State.place (s : State) (bs : List Byte) (st : Stream) : State :=
  { s with
    units := mput s.units 0 (placeUnit st)
    cores := mput s.cores 0 { s.core 0 with grant := some 0, tlb := [⟨0, 1, 1, placeLeaf⟩] }
    ctx := { s.ctx with pwbase := 0, tbase := BitVec.ofNat 64 placeAddr }
    hostMem := s.hostMem.writeAll (bytesAt placeAddr bs)
    cur := {}
    agenda := [.issue st] }

end Sys2Proof.Machine
end

