-- ==== Sys2Proof/Machine/MemEvents.lean ====
section
/-! DEFINITION. The steps of the memory system (R27, R179, R189, R192, R193, R244, R247, R249, R250): data returning, stores acknowledged, writes performed at home and forwarded, atomics at their sites. -/

namespace Sys2Proof.Machine

/-- What reading an access answers: not yet, a fault found (R179), or the value and the state after the read. -/
inductive ReadRes where
  | later
  | fault (c : TrapCode)
  | value (v : Nat) (s : State)

/-- Older accesses of the stream to the same place are still outstanding (R181). -/
def Unit.olderClash (x : Unit) (g : Nat) (o : Op) (a : Acc) : Bool :=
  (x.opsAt g).any fun p => decide (p.id < o.id) && (g == 32 || p.lanes &&& o.lanes != 0) && p.accs.any fun b => !b.done && a.clash b

/-- A sector read on the lane path, `x` being what it holds (R266, assumption 85), and the state after: a plain read keeps in L1 what is current, a poll finds the
latest value, and neither leaves an older one there (R181, R258). -/
def State.sectorRead (s : State) (c : Nat) (r : Reader) (key : Nat) (l : Loc) (x : BitVec 256) (poll : Bool) : BitVec 256 × State :=
  let gone := s.modCore c fun k => { k with l1 := merase k.l1 key }
  if poll then (x, gone.viewedAll r l 32)
  else
    let v := BitVec.ofNat 256 (s.view r l 32 x.toNat)
    (v, (if v = x then s.modCore c (·.fillL1 key x) else gone).viewed r l 32)

/-- A load answered by L1: a poll never is (R188, R244). -/
def State.l1Read (s : State) (c key pa size : Nat) (poll : Bool) : ReadRes :=
  if poll then .later
  else match mfind (s.core c).l1 key with
    | some x => .value (sectorValue x pa size) s
    | none => .later

/-- Reads bytes of a scratchpad, a poll the latest (R188, R239, R318). -/
def State.spadLoad (s : State) (r : Reader) (k off size : Nat) (l : Loc) (poll : Bool) : ReadRes :=
  if s.spadPoisoned k off size then .fault .poisonedData
  else if poll then .value (s.spadRead k off size) (s.viewedAll r l size)
  else .value (s.spadView r k off size) (s.viewed r l size)

/-- Reads the place of an access of operation `id`: `poll` never from L1; `hit` from L1 (R188, R244); memory that is lost fails the access (R362). -/
def State.readAcc (s : State) (u c id : Nat) (w : Who) (a : Acc) (poll hit : Bool) : ReadRes :=
  let me : Reader := ⟨0, u, id, none⟩
  match a.loc with
  | .dev pa =>
    let sec := sectorOf pa
    let y := layerOf c
    if hit then s.l1Read c (devKey pa) pa a.size poll
    else if !s.backed pa then .fault .protection
    else if !s.owned pa then
      if s.held sec || !s.devReady y sec then .later
      else if s.poisoned pa then .fault .poisonedData
      else
        let r := s.sectorRead c me (devKey pa) (.dev (32 * sec)) (s.mem.readSector sec) poll
        .value (sectorValue r.1 pa a.size) r.2
    else match s.layerFetch y sec with
      | none => .later
      | some t =>
        if t.layerPoisoned y sec then .fault .poisonedData
        else
          let r := t.sectorRead c me (devKey pa) (.dev (32 * sec)) (t.layerSector y sec) poll
          .value (sectorValue r.1 pa a.size) r.2
  | .host pa =>
    if hit then s.l1Read c (hostKey pa) pa a.size poll
    else if !s.hostReady (layerOf c) (sectorOf pa) then .later
    else if s.linkPoisoned pa then .fault .poisonedData
    else
      let r := s.sectorRead c me (hostKey pa) (.host (32 * sectorOf pa)) (s.hostMem.readSector (sectorOf pa)) poll
      .value (sectorValue r.1 pa a.size) r.2
  | .peer k off => s.spadLoad me k off a.size a.loc poll
  | .spad k off => s.spadLoad me k off a.size a.loc poll
  | .seam i b e =>
    if (handleRec i).isNone then .fault .seamMalformed
    else if (s.core c).seamq.any fun q => q.sidx == i && q.blk == b && decide (q.id < id) && q.who.same w then .later
    else match (s.core c).block i b with
      | some blk => .value (blk.elems.getD e 0).toNat s
      | none => match s.blockStorage u i b false with
        | .touch => .later
        | .fault code => .fault code
        | .at r ps => match s.copyValue c ps with
          | none => .later
          | some (_, v) => if (decodeBlock r.d r.rate r.fin v).isNone then .fault .seamMalformed else .later

/-- Demotion or readiness from the results of a VLDP or an ATOM.CAS (R189, R194), given to the entries that hold its lanes.
Where it demotes several at once, each goes behind those before it, in ascending index: DESIGN CHOICE (assumption 110). -/
def Gang.afterPoll (g : Gang) (o : Op) : Gang :=
  let acts := match o.kind with
    | .poll _ _ => true
    | .atom _ op _ _ _ => op == 7
    | _ => false
  if !acts || o.okLanes == 0 then g
  else [0, 1, 2, 3].foldl (fun x e =>
    let p := x.entry e
    if p.mask &&& o.okLanes == 0 then x
    else if o.good then x.setEntry e { p with dpos := 0, state := if p.state = .waiting then .waiting else .ready }
    else
      let top := ([0, 1, 2, 3].filter (· != e)).foldl (fun m k => max m (x.entry k).dpos) 0
      x.setEntry e { p with dpos := min 7 (top + 1), state := if p.state = .waiting then .waiting else .demoted }) g

/-- Removes a lane's access, and retires what can be (R27). -/
def finishAcc (ops : List Op) (id l : Nat) (ok good : Bool) : List Op :=
  ops.map fun o =>
    if o.id = id then
      { o with
        accs := o.accs.filter fun a => a.lane != l
        good := o.good || good
        okLanes := if ok then o.okLanes ||| laneBit l else o.okLanes }
    else o

/-- The result of a lane's access is written to its gang, and its count falls in order (R27, R189). -/
def Gang.finish (g : Gang) (o : Op) (l : Nat) (ok good : Bool) (f : Gang → Gang) : Gang :=
  let live := if l = 64 then o.mask != 0 else o.mask.getLsbD l
  let g := if live then f g else g
  let ops := finishAcc g.ops o.id l ok good
  let g := { g with ops := ops }
  match ops.find? fun p => p.id == o.id with
  | some p =>
    let g := if p.accs.isEmpty then g.afterPoll p else g
    { g with ops := retire g.ops }
  | none => g

/-- The same for the lead. -/
def Lead.finish (x : Lead) (o : Op) (f : Lead → Lead) : Lead :=
  let x := if o.mask != 0 then f x else x
  { x with ops := retire (finishAcc x.ops o.id 64 true false) }

/-- The lanes that stand in an entry of the gang, the trap entry among them. -/
def Gang.standing (g : Gang) : DWord := [0, 1, 2, 3, 4].foldl (fun m e => m ||| (g.entry e).mask) 0

/-- Lanes of a fault found for an access: the lane, or, for a scalar access, every lane of the word that still stands in an entry (R179). -/
def State.faultLanes (s : State) (u g : Nat) (o : Op) (l : Nat) : List Nat :=
  if l = 64 then lanesOf (o.mask &&& match s.gang? u g with
    | some x => x.standing
    | none => 0)
  else if o.mask.getLsbD l then [l] else []

/-- A fault is found for an access (R179): nothing is written, the others go on. -/
def State.accFault (s : State) (u g : Nat) (o : Op) (a : Acc) (code : TrapCode) : State :=
  let s := s.lateFault u g (s.faultLanes u g o a.lane) code a.addr
  if g = 32 then s.modLead u (·.finish o id) else s.modGang u g (·.finish o a.lane false false id)

/-- A returned value is written as its word says. -/
def State.accValue (s : State) (u g : Nat) (o : Op) (a : Acc) (v : Nat) : State :=
  match o.kind with
  | .load d ty => s.modGang u g (·.finish o a.lane true false fun x => x.writeLane a.lane (loadWrites d ty v))
  | .poll d cmp =>
    s.modGang u g (·.finish o a.lane true (decide (v ≠ (mget 0 cmp a.lane).toNat)) fun x =>
      x.writeLane a.lane [(d, ⟨BitVec.ofNat 32 v, .n32⟩)])
  | .scalar d form =>
    if g = 32 then s.modLead u (·.finish o (·.setH d (scalarValue form v)))
    else s.modGang u g (·.finish o 64 true false (·.setS d (scalarValue form v)))
  | _ => s

/-- An access performed earlier returns what it captured. -/
def State.accDone (s : State) (u g : Nat) (o : Op) (a : Acc) : State :=
  match a.bad with
  | some code => s.accFault u g o a code
  | none =>
    match o.kind, a.scalar with
    | .scalar d _, some v =>
      if g = 32 then s.modLead u (·.finish o (·.setH d v)) else s.modGang u g (·.finish o 64 true false (·.setS d v))
    | .poll _ cmp, _ =>
      let v := (a.writes.headD (0, {})).2.bits
      s.modGang u g (·.finish o a.lane true (decide (v ≠ mget 0 cmp a.lane)) (·.writeLane a.lane a.writes))
    | _, _ => s.modGang u g (·.finish o a.lane true false (·.writeLane a.lane a.writes))

/-- The access of a SEVICT goes on to wait for a write-back to storage address `saddr`. -/
def Gang.awaitBlock (g : Gang) (o : Op) (a : Acc) (saddr : Nat) : Gang :=
  { g with ops := g.ops.map fun p =>
      if p.id = o.id then { p with accs := p.accs.map fun q => if q.lane = a.lane then { q with loc := .dev saddr } else q } else p }

/-- A SEVICT acts on its block, after the stream's earlier stores to it: evicted, and its write-back, this one or one under way, awaited (R198). -/
def State.sevictAct (s : State) (u g c : Nat) (w : Who) (o : Op) (a : Acc) : State :=
  match a.loc with
  | .seam i b _ =>
    if (s.core c).seamq.any fun q => q.sidx == i && q.blk == b && decide (q.id < o.id) && q.who.same w then s
    else
      let s := match (s.core c).block i b with
        | some blk => s.evict c blk
        | none => s
      match (s.core c).wbs.find? fun q => q.sidx == i && q.blk == b with
      | some q => s.modGang u g (·.awaitBlock o a q.saddr)
      | none => s.modGang u g (·.finish o a.lane true false id)
  | _ => s

/-- The lanes of a request read at one instant: what each of them has returned of a scratchpad, later reads see (R258). -/
def State.requestSeen (s : State) (u id : Nat) (req : List Acc) (poll : Bool) : State :=
  let ls := req.filterMap fun a => match a.loc with
    | .peer _ _ => some (a.loc, a.size)
    | _ => none
  if poll then ls.foldl (fun s l => s.viewedAll ⟨0, u, id, none⟩ l.1 l.2) s else s.viewedAt ⟨0, u, id, none⟩ ls

/-- Two accesses lie in one sector, or seam block, of one kind of place. -/
def Acc.sameSector (a b : Acc) : Bool := match a.loc, b.loc with
  | .dev p, .dev q => sectorOf p == sectorOf q
  | .host p, .host q => sectorOf p == sectorOf q
  | .peer c p, .peer d q => c == d && sectorOf p == sectorOf q
  | .seam i b _, .seam j d _ => i == j && b == d
  | _, _ => false

/-- The accesses of an operation that travel as one request with `a`, in ascending lane order (R243, R376). -/
def Op.request (o : Op) (a : Acc) : List Acc := o.accs.filter fun b => !b.done && a.sameSector b

/-- What reading an access found is taken: its fault, or its value. -/
def State.accTake (s : State) (u g : Nat) (o : Op) (a : Acc) : ReadRes → State
  | .later => s
  | .fault code => s.accFault u g o a code
  | .value v _ => s.accValue u g o a v

/-- A request of a load returns: every access of it, read at one instant (R183, R243). -/
def State.returnLoad (s : State) (u g : Nat) (o : Op) (a : Acc) (poll hit : Bool) : State :=
  let read := fun b => s.readAcc u (coreOf u) o.id ⟨u, g, o.mask⟩ b poll hit
  if !(hit || s.flitRoom (layerOf (coreOf u)) a.loc) then s
  else match read a with
  | .later => s
  | r =>
    let t := match r with
      | .value _ t => match a.loc with
        | .peer _ _ => s.requestSeen u o.id (o.request a) poll
        | _ => t
      | _ => s
    ((o.request a).foldl (fun t b => t.accTake u g o b (read b)) t).flitFor (layerOf (coreOf u)) a.loc

/-- LOAD_RETURN: data of lane `l` of an operation returns, and with it that of the lanes of its request, from L1 when `hit` (R27, R179, R243, R244). -/
def execLoadReturn (u g op l : Nat) (hit : Bool) (s : State) : Host.Outcome State Fault Refusal :=
  .next (match s.unit? u with
    | none => s
    | some x => match (x.opsAt g).find? fun o => o.id == op with
      | none => s
      | some o =>
        if !o.kind.permuteDests.isEmpty then s
        else match o.accs.find? fun a => a.lane == l with
        | none => s
        | some a =>
          let c := coreOf u
          if a.done then s.accDone u g o a
          else match o.kind with
            | .sevict => s.sevictAct u g c ⟨u, g, o.mask⟩ o a
            | .atom _ _ _ _ _ => s
            | .poll _ _ => if (o.request a).any fun b => (s.core c).portBusy b || x.olderClash g o b then s else s.returnLoad u g o a true hit
            | _ => if (o.request a).any fun b => (s.core c).portBusy b || x.olderClash g o b then s else s.returnLoad u g o a false hit)

/-- The access an atomic performs next: the first of its lanes not yet performed (R190). -/
def Op.nextAtom (o : Op) : Option Acc := o.accs.find? fun a => !a.done

/-- Records that a lane's atomic was performed: its old value, or its fault; whether it wrote. -/
def State.atomDone (s : State) (u g : Nat) (o : Op) (a : Acc) (writes : List (Nat × VReg)) (bad : Option TrapCode) (wrote : Bool) : State :=
  s.modGang u g fun x => { x with ops := x.ops.map fun p =>
    if p.id = o.id then
      { p with
        good := p.good || wrote
        accs := p.accs.map fun q => if q.lane = a.lane then { q with done := true, writes := writes, bad := bad } else q }
    else p }

/-- The read-modify-write on a value: the bytes to write, if any. -/
def Op.atomOn (o : Op) (a : Acc) (old : Nat) : Option Nat × List (Nat × VReg) :=
  match o.kind with
  | .atom d op ty x new => (atomWrites op ty old (mget 0 x a.lane).toNat (mget 0 new a.lane).toNat, atomResult d ty old)
  | _ => (none, [])

/-- The site of an atomic can perform it now: what its layer or home still has to apply is applied, and nothing holds the sector (R191, R249, R342); an atomic at
another package's hub leaves in a flit (R363). -/
def State.siteReady (s : State) (y : Nat) (a : Acc) : Bool :=
  match a.loc with
  | .dev pa =>
    let sec := sectorOf pa
    match a.site with
    | .layer => (mfind (s.layer y).copies sec).isSome || (!s.held sec && s.devReady y sec)
    | .home => !(s.layer y).out.any (fun q => q.bytes.any fun p => sectorOf p.1 == sec) && s.devReady y sec && !s.held sec
    | .owner => !s.held sec && s.devReady y sec && s.canSend y pa
    | .root => false
  | _ => true

/-- An atomic reads `old` at its site: `write` performs what it writes, and its lane takes the result. -/
def State.atomApply (s : State) (u g : Nat) (o : Op) (a : Acc) (old : Nat) (write : State → Nat → State) : State :=
  let isCas := match o.kind with
    | .atom _ op _ _ _ => op == 7
    | _ => false
  let r := o.atomOn a old
  let s := s.viewedAll ⟨0, u, o.id, none⟩ a.loc a.size
  let s := match r.1 with
    | some v => write s v
    | none => s
  s.atomDone u g o a r.2 none (isCas && r.1.isSome)

/-- An atomic at its site, which is ready: layer cache, home hub slice, owner's hub, or a peer scratchpad (R191, R192). -/
def State.atomPerform (s : State) (u g c : Nat) (o : Op) (a : Acc) : State :=
  let y := layerOf c
  let w : Who := ⟨u, g, laneBit a.lane⟩
  match a.loc with
  | .peer k off =>
    if s.spadPoisoned k off a.size then s.atomDone u g o a [] (some .poisonedData) false
    else s.atomApply u g o a (s.spadRead k off a.size) fun s v => (s.note 0 (2 + k) u none (s.oldSpad k (valueAt off a.size v))).spadWrite k off a.size v
  | .dev pa =>
    let sec := sectorOf pa
    let s := s.modCore c fun k => { k with l1 := merase k.l1 (devKey pa) }
    if !s.backed pa then s.atomDone u g o a [] (some .protection) false
    else match a.site with
    | .layer =>
      let t := (s.layerFetch y sec).getD s
      if t.layerPoisoned y sec then t.atomDone u g o a [] (some .poisonedData) false
      else t.atomApply u g o a (sectorValue (t.layerSector y sec) pa a.size) fun s v => s.layerWrite y w (valueAt pa a.size v) false
    | .home =>
      if s.poisoned pa then s.atomDone u g o a [] (some .poisonedData) false
      else s.atomApply u g o a (s.mem.readNat pa a.size) fun s v => (s.note 0 0 u none (s.oldDev (valueAt pa a.size v))).homeSend y (valueAt pa a.size v) false
    | .owner =>
      if s.poisoned pa then s.atomDone u g o a [] (some .poisonedData) false
      else s.atomApply u g o a (s.mem.readNat pa a.size) fun s v =>
        (((s.note 0 0 u none (s.oldDev (valueAt pa a.size v))).atHome (valueAt pa a.size v) false).1).stampDev y (valueAt pa a.size v)
    | .root => s
  | _ => s

/-- ATOMIC_AT_SITE: the next request of an atomic is performed at its site, named by its first lane, and travels in one flit; no atomic of another word falls
between its lanes (R190 to R192, R376). -/
def execAtomicAtSite (u g op l : Nat) (s : State) : Host.Outcome State Fault Refusal :=
  .next (match s.unit? u with
    | none => s
    | some x => match (x.opsAt g).find? fun o => o.id == op with
      | none => s
      | some o => match o.kind, o.nextAtom with
        | .atom _ _ _ _ _, some a =>
          let c := coreOf u
          let req := o.request a
          if a.lane != l || (req.any fun b => (s.core c).portBusy b || x.olderClash g o b) || !s.siteReady (layerOf c) a then s
          else (req.foldl (fun s b => s.atomPerform u g c o b) s).flitFor (layerOf c) a.loc
        | _, _ => s)

/-- ATOMICOP_COMPLETION: a host-memory atomic completes at the root complex; without `ok`, or marked poisoned, it changed nothing and the lane faults (R193, R319). -/
def execAtomicopCompletion (u g op l : Nat) (ok : Bool) (s : State) : Host.Outcome State Fault Refusal :=
  .next (match s.unit? u with
    | none => s
    | some x => match (x.opsAt g).find? fun o => o.id == op with
      | none => s
      | some o => match o.kind, o.nextAtom with
        | .atom _ _ _ _ _, some a =>
          let c := coreOf u
          match a.loc with
          | .host pa =>
            if a.lane != l || (s.core c).portBusy a || x.olderClash g o a || !s.hostReady (layerOf c) (sectorOf pa) then s
            else if !ok then s.atomDone u g o a [] (some .protection) false
            else if s.linkPoisoned pa then s.atomDone u g o a [] (some .poisonedData) false
            else (s.modCore c fun k => { k with l1 := merase k.l1 (hostKey pa) }).atomApply u g o a (s.hostMem.readNat pa a.size) fun s v =>
              ({ s.note 0 1 u none (s.oldHost (valueAt pa a.size v)) with hostMem := s.hostMem.writeAll (valueAt pa a.size v) } : State).stampHost (layerOf c) (valueAt pa a.size v)
          | _ => s
        | _, _ => s)

/-- Every access a store must not pass has been performed. -/
def Unit.passed (x : Unit) (r : PortReq) : Bool :=
  (x.opsAt r.who.g).all fun o => !r.after.contains o.id || o.accs.all fun a => a.done || !a.meets r

/-- A store of the memory port is performed where its layer sends it: the layer cache, the owner's hub, the root complex, or a peer scratchpad (R240, R244, R250);
one to memory that is lost fails as protection in its lanes (R362). -/
def State.ackStore (s : State) (c : Nat) (r : PortReq) : State :=
  let y := layerOf c
  match r.dest, r.bytes with
  | .dev, p :: _ =>
    if !s.backed p.1 then r.lanes.foldl (fun s l => s.lateFault r.who.u r.who.g (if l.1 = 64 then lanesOf r.who.mask else [l.1]) .protection l.2) s
    else if s.owned p.1 then s.layerWrite y r.who r.bytes r.pm
    else ((((s.note 0 0 r.who.u none (s.oldDev r.bytes)).atHome r.bytes r.pm).1).stampDev y r.bytes).sendFlit y p.1
  | .host, _ => ({ s.note 0 1 r.who.u none (s.oldHost r.bytes) with hostMem := s.hostMem.writeAll r.bytes } : State).stampHost y r.bytes
  | .peer q, _ => r.bytes.foldl (fun s p => s.spadWrite q p.1 1 p.2.toNat) (s.note 0 (2 + q) r.who.u none (s.oldSpad q r.bytes))
  | _, [] => s

/-- STORE_ACKNOWLEDGED: a store of the memory port reaches its place (R240, R244, R250). -/
def execStoreAcknowledged (c k : Nat) (s : State) : Host.Outcome State Fault Refusal :=
  let port := (s.core c).port
  .next (match port[k]? with
    | none => s
    | some r =>
      let first := (port.take k).all fun q => q.dest != r.dest || !sharesByte q.bytes r.bytes
      let free := match s.unit? r.who.u with
        | some x => x.passed r
        | none => true
      let held := match r.dest, r.bytes with
        | .dev, p :: _ => s.backed p.1 && !s.owned p.1 && (s.heldBytes r.bytes || !s.canSend (layerOf c) p.1)
        | _, _ => false
      if !first || !free || held then s
      else (s.modCore c fun q => { q with port := q.port.erase r }).ackStore c r)

/-- WRITE_AT_HOME: the `k`-th write that layer `y` sent is performed at its home and forwarded (R246, R247, R249). -/
def execWriteAtHome (y k : Nat) (s : State) : Host.Outcome State Fault Refusal :=
  let out := (s.layer y).out
  .next (match out[k]? with
    | none => s
    | some w =>
      if (out.take k).any (fun q => sharesByte q.bytes w.bytes) || s.heldBytes w.bytes then s
      else (s.modLayer y fun l => { l with out := l.out.erase w }).homeWrite y w.bytes w.pm w.stamp)

/-- FORWARDED_WRITE_APPLY: a layer applies a forwarded write once it has applied every write its stamp names (R249). -/
def execForwardedWriteApply (y k : Nat) (s : State) : Host.Outcome State Fault Refusal :=
  let l := s.layer y
  .next (match l.inq[k]? with
    | none => s
    | some f =>
      if (l.inq.take k).any (fun q => sharesByte q.bytes f.bytes) || !clockReady f.src f.stamp l.clock then s
      else s.modLayer y fun l =>
        { l with
          inq := l.inq.erase f
          clock := clockJoin l.clock f.stamp
          copies := match f.bytes with
            | p :: _ => mmodify l.copies (sectorOf p.1) (sectorWith · (sectorOf p.1) f.bytes)
            | [] => l.copies })

/-- REMOTE_WRITE: a write from another package or presented device, once every layer's copy is invalidated (R250). -/
def execRemoteWrite (pa : Nat) (bytes : List (BitVec 8)) (s : State) : Host.Outcome State Fault Refusal :=
  .next (if ((List.range bytes.length).all fun k => s.owned (pa + k)) && !s.heldBytes (bytesAt pa bytes) then (s.remoteWrite (bytesAt pa bytes) false).stampAll (bytesAt pa bytes) else s)

end Sys2Proof.Machine
end

