-- ==== Sys2Proof/Machine/Scalar.lean ====
section
/-! DEFINITION. Scalar arithmetic and long immediates (R128 to R130, R60): SALU, SALUI, LDI, LDIH. -/

namespace Sys2Proof.Machine

/-- A scalar word of two sources, acting once for the stream (R128, R129). -/
def State.scalar2 (s : State) (d a b : BitVec 6) (f : DWord → DWord → DWord) : Host.Outcome State Fault Refusal :=
  s.issue (s.scalarWord [d.toNat, a.toNat, b.toNat]) fun _ t => t.setX d.toNat (f (s.X a.toNat) (s.X b.toNat))

/-- A scalar word of one source. -/
def State.scalar1 (s : State) (d a : BitVec 6) (f : DWord → DWord) : Host.Outcome State Fault Refusal :=
  s.issue (s.scalarWord [d.toNat, a.toNat]) fun _ t => t.setX d.toNat (f (s.X a.toNat))

/-- A word that writes a mask register as a scalar (R12, R129); gang stream only. -/
def State.maskOp (s : State) (regs : List Nat) (d : BitVec 6) (f : Gang → DWord) : Host.Outcome State Fault Refusal :=
  s.issue (s.gangWord [] regs) fun _ t =>
    match s.hereGang with
    | some x => t.modHere (·.setM d.toNat (f x))
    | none => t

/-- Bits 127 to 64 of the signed product. -/
def mulhiSigned (x y : DWord) : DWord := BitVec.ofInt 64 (x.toInt * y.toInt / 2 ^ 64)

/-- Bits 127 to 64 of the unsigned product. -/
def mulhiUnsigned (x y : DWord) : DWord := BitVec.ofNat 64 (x.toNat * y.toNat / 2 ^ 64)

/-- A shift count modulo 64. -/
def shiftCount (x : DWord) : Nat := x.toNat % 64

/-- Zero bits above the highest set bit; 64 of zero. -/
def clz64 (x : DWord) : DWord := BitVec.ofNat 64 (if x = 0 then 64 else 63 - Nat.log2 x.toNat)

/-- The number of set bits. -/
def popc64 (x : DWord) : DWord := BitVec.ofNat 64 (popcount x)

/-- ADD (R129). -/
def execAdd (d a b : BitVec 6) (s : State) : Host.Outcome State Fault Refusal :=
  s.scalar2 d a b fun x y => x + y

/-- SUB (R129). -/
def execSub (d a b : BitVec 6) (s : State) : Host.Outcome State Fault Refusal :=
  s.scalar2 d a b fun x y => x - y

/-- MUL: the low 64 bits (R129). -/
def execMul (d a b : BitVec 6) (s : State) : Host.Outcome State Fault Refusal :=
  s.scalar2 d a b fun x y => x * y

/-- MULHI.I64 (R129). -/
def execMulhiI64 (d a b : BitVec 6) (s : State) : Host.Outcome State Fault Refusal :=
  s.scalar2 d a b fun x y => mulhiSigned x y

/-- MULHI.N64 (R129). -/
def execMulhiN64 (d a b : BitVec 6) (s : State) : Host.Outcome State Fault Refusal :=
  s.scalar2 d a b fun x y => mulhiUnsigned x y

/-- AND (R129). -/
def execAnd (d a b : BitVec 6) (s : State) : Host.Outcome State Fault Refusal :=
  s.scalar2 d a b fun x y => x &&& y

/-- OR (R129). -/
def execOr (d a b : BitVec 6) (s : State) : Host.Outcome State Fault Refusal :=
  s.scalar2 d a b fun x y => x ||| y

/-- XOR (R129). -/
def execXor (d a b : BitVec 6) (s : State) : Host.Outcome State Fault Refusal :=
  s.scalar2 d a b fun x y => x ^^^ y

/-- SHL (R129). -/
def execShl (d a b : BitVec 6) (s : State) : Host.Outcome State Fault Refusal :=
  s.scalar2 d a b fun x y => x <<< shiftCount y

/-- SHR, zero filling (R129). -/
def execShr (d a b : BitVec 6) (s : State) : Host.Outcome State Fault Refusal :=
  s.scalar2 d a b fun x y => x >>> shiftCount y

/-- SAR, sign filling (R129). -/
def execSar (d a b : BitVec 6) (s : State) : Host.Outcome State Fault Refusal :=
  s.scalar2 d a b fun x y => x.sshiftRight (shiftCount y)

/-- MIN.I64 (R129). -/
def execMinI64 (d a b : BitVec 6) (s : State) : Host.Outcome State Fault Refusal :=
  s.scalar2 d a b fun x y => if x.slt y then x else y

/-- MIN.N64 (R129). -/
def execMinN64 (d a b : BitVec 6) (s : State) : Host.Outcome State Fault Refusal :=
  s.scalar2 d a b fun x y => if x < y then x else y

/-- MAX.I64 (R129). -/
def execMaxI64 (d a b : BitVec 6) (s : State) : Host.Outcome State Fault Refusal :=
  s.scalar2 d a b fun x y => if x.slt y then y else x

/-- MAX.N64 (R129). -/
def execMaxN64 (d a b : BitVec 6) (s : State) : Host.Outcome State Fault Refusal :=
  s.scalar2 d a b fun x y => if x < y then y else x

/-- SEQ (R129). -/
def execSeq (d a b : BitVec 6) (s : State) : Host.Outcome State Fault Refusal :=
  s.scalar2 d a b fun x y => bool64 (x == y)

/-- SLT.I64 (R129). -/
def execSltI64 (d a b : BitVec 6) (s : State) : Host.Outcome State Fault Refusal :=
  s.scalar2 d a b fun x y => bool64 (x.slt y)

/-- SLT.N64 (R129). -/
def execSltN64 (d a b : BitVec 6) (s : State) : Host.Outcome State Fault Refusal :=
  s.scalar2 d a b fun x y => bool64 (x.ult y)

/-- MOV (R129). -/
def execMov (d a : BitVec 6) (s : State) : Host.Outcome State Fault Refusal :=
  s.scalar1 d a fun x => x

/-- POPC (R129). -/
def execPopc (d a : BitVec 6) (s : State) : Host.Outcome State Fault Refusal :=
  s.scalar1 d a fun x => popc64 x

/-- CLZ (R129). -/
def execClz (d a : BitVec 6) (s : State) : Host.Outcome State Fault Refusal :=
  s.scalar1 d a fun x => clz64 x

/-- MTOS: the whole mask register (R129). -/
def execMtos (d a : BitVec 6) (s : State) : Host.Outcome State Fault Refusal :=
  s.issue (s.gangWord [] [d.toNat]) fun _ t =>
    match s.hereGang with
    | some x => t.modHere (·.setS d.toNat (x.M a.toNat))
    | none => t

/-- STOM: bits at and above the creation width are discarded (R11, R129). -/
def execStom (d a : BitVec 6) (s : State) : Host.Outcome State Fault Refusal :=
  s.maskOp [a.toNat] d fun x => x.S a.toNat

/-- MAND (R129). -/
def execMand (d a b : BitVec 6) (s : State) : Host.Outcome State Fault Refusal :=
  s.maskOp [] d fun x => x.M a.toNat &&& x.M b.toNat

/-- MOR (R129). -/
def execMor (d a b : BitVec 6) (s : State) : Host.Outcome State Fault Refusal :=
  s.maskOp [] d fun x => x.M a.toNat ||| x.M b.toNat

/-- MXOR (R129). -/
def execMxor (d a b : BitVec 6) (s : State) : Host.Outcome State Fault Refusal :=
  s.maskOp [] d fun x => x.M a.toNat ^^^ x.M b.toNat

/-- MNOT (R129). -/
def execMnot (d a : BitVec 6) (s : State) : Host.Outcome State Fault Refusal :=
  s.maskOp [] d fun x => ~~~x.M a.toNat

/-- ADD with an immediate (R130). -/
def execAddi (d a : BitVec 6) (imm : BitVec 10) (s : State) : Host.Outcome State Fault Refusal :=
  s.scalar1 d a fun x => x + imm64 imm

/-- AND with an immediate (R130). -/
def execAndi (d a : BitVec 6) (imm : BitVec 10) (s : State) : Host.Outcome State Fault Refusal :=
  s.scalar1 d a fun x => x &&& imm64 imm

/-- OR with an immediate (R130). -/
def execOri (d a : BitVec 6) (imm : BitVec 10) (s : State) : Host.Outcome State Fault Refusal :=
  s.scalar1 d a fun x => x ||| imm64 imm

/-- XOR with an immediate (R130). -/
def execXori (d a : BitVec 6) (imm : BitVec 10) (s : State) : Host.Outcome State Fault Refusal :=
  s.scalar1 d a fun x => x ^^^ imm64 imm

/-- SEQ with an immediate (R130). -/
def execSeqi (d a : BitVec 6) (imm : BitVec 10) (s : State) : Host.Outcome State Fault Refusal :=
  s.scalar1 d a fun x => bool64 (x == imm64 imm)

/-- SLT.I64 with an immediate (R130). -/
def execSltiI64 (d a : BitVec 6) (imm : BitVec 10) (s : State) : Host.Outcome State Fault Refusal :=
  s.scalar1 d a fun x => bool64 (x.slt (imm64 imm))

/-- SLT.N64 with an immediate (R130). -/
def execSltiN64 (d a : BitVec 6) (imm : BitVec 10) (s : State) : Host.Outcome State Fault Refusal :=
  s.scalar1 d a fun x => bool64 (x.ult (imm64 imm))

/-- SHL by an immediate count (R130). -/
def execShli (d a n : BitVec 6) (s : State) : Host.Outcome State Fault Refusal :=
  s.scalar1 d a fun x => x <<< n.toNat

/-- SHR by an immediate count (R130). -/
def execShri (d a n : BitVec 6) (s : State) : Host.Outcome State Fault Refusal :=
  s.scalar1 d a fun x => x >>> n.toNat

/-- SAR by an immediate count (R130). -/
def execSari (d a n : BitVec 6) (s : State) : Host.Outcome State Fault Refusal :=
  s.scalar1 d a fun x => x.sshiftRight n.toNat

/-- LDI: the immediate, sign-extended, shifted by 16 times `k` (R60). -/
def execLdi (d : BitVec 6) (k : BitVec 2) (imm : BitVec 16) (s : State) : Host.Outcome State Fault Refusal :=
  s.issue (s.scalarWord [d.toNat]) fun _ t => t.setX d.toNat (imm.signExtend 64 <<< (16 * k.toNat))

/-- LDIH: replaces one 16-bit field of the register (R60). -/
def execLdih (d : BitVec 6) (k : BitVec 2) (imm : BitVec 16) (s : State) : Host.Outcome State Fault Refusal :=
  s.issue (s.scalarWord [d.toNat]) fun _ t =>
    t.setX d.toNat ((s.X d.toNat &&& ~~~((0xFFFF#64) <<< (16 * k.toNat))) ||| (imm.setWidth 64 <<< (16 * k.toNat)))

end Sys2Proof.Machine
end

