-- ==== Sys2Proof/Machine/Sreg.lean ====
section
/-! DEFINITION. Special-register access (R30 to R32, R151, R152): SRD, SWR. -/

namespace Sys2Proof.Machine

/-- Special registers of the gang stream only (R30). -/
def srGangOnly (n : Nat) : Bool := n ≤ 4 || (6 ≤ n && n ≤ 0x0B) || (0x10 ≤ n && n ≤ 0x13)

/-- Special registers of the lead stream only (R30). -/
def srLeadOnly (n : Nat) : Bool := n == 0x14 || n == 0x15

/-- A special register that one value describes, of the gang stream (R30). `e` is the entry that reads it. -/
def State.gangSr (s : State) (u k e : Nat) (g : Gang) (n : Nat) : DWord :=
  let p := g.entry e
  let inTrap := fun (x : DWord) => if e = 4 then x else 0
  match n with
  | 0x02 => BitVec.ofNat 64 (popcount s.cur.mask)
  | 0x03 => s.cur.mask
  | 0x04 => BitVec.ofNat 64 g.width
  | 0x06 => p.fpctl.setWidth 64
  | 0x07 => p.fpflags.setWidth 64
  | 0x08 => BitVec.ofNat 64 (g.vmcnt p)
  | 0x09 => BitVec.ofNat 64 (g.spcnt p)
  | 0x0A => BitVec.ofNat 64 (g.depthAt.getD g.spill.length)
  | 0x0B => BitVec.ofNat 64 k
  | 0x0C => BitVec.ofNat 64 (slotOf u)
  | 0x10 => inTrap (g.tcode.setWidth 64)
  | 0x11 => inTrap (BitVec.ofNat 64 (4 * g.tip.toNat + g.twd))
  | 0x12 => inTrap g.tmask
  | _ => 0

/-- A special register both streams read (R30), and the lead's own. -/
def State.commonSr (s : State) (u : Nat) (x : Unit) (n : Nat) : Option DWord :=
  let c := coreOf u
  match n with
  | 0x05 => some (BitVec.ofNat 64 Config.laneMax)
  | 0x0C => some (BitVec.ofNat 64 (slotOf u))
  | 0x0D => some (BitVec.ofNat 64 (coreId c))
  | 0x0E => some (BitVec.ofNat 64 (layerOf c))
  | 0x0F => some (s.core c).cycle
  | 0x14 => some (BitVec.ofNat 64 x.lead.lmcnt)
  | 0x15 => some (BitVec.ofNat 64 x.ngang)
  | _ => none

/-- What SRD writes in lane `l` for a lane-held register (R32, R61, R151). -/
def Gang.laneSr (g : Gang) (mk : DWord) (e n d l : Nat) : List (Nat × VReg) :=
  match n with
  | 0x00 => [(d, ⟨BitVec.ofNat 32 l, .n32⟩)]
  | 0x01 => [(d, ⟨BitVec.ofNat 32 (rankOf mk l), .n32⟩)]
  | _ =>
    let a := if e = 4 then mget 0 g.taddr l else 0
    [(d, ⟨a.setWidth 32, .raw⟩), (d + 1, ⟨a.extractLsb' 32 32, .raw⟩)]

/-- The registers SRD writes for a lane-held register. -/
def laneSrDests (n d : Nat) : List Nat := if n = 0x13 then [d, d + 1] else [d]

/-- SRD (R151). -/
def execSrd (d : BitVec 6) (num : BitVec 8) (s : State) : Host.Outcome State Fault Refusal :=
  let n := num.toNat
  match s.cur.stream, s.here, s.hereGang with
  | .split u k e, some (_, x), some g =>
    if srLeadOnly n then s.issue s.undefined fun _ t => t
    else if n ≤ 1 || n == 0x13 then
      let ds := laneSrDests n d.toNat
      s.issue ((s.gangWord ds []).andThen (s.permuteFree ds)) fun mk t =>
        t.modHere fun y => (lanesOf mk).foldl (fun y l => y.writeLane l (g.laneSr mk e n d.toNat l)) y
    else s.issue (s.gangWord [] [d.toNat]) fun _ t => t.setX d.toNat ((s.commonSr u x n).getD (s.gangSr u k e g n))
  | .lead u, some (_, x), _ =>
    if srGangOnly n then s.issue s.undefined fun _ t => t
    else s.issue (s.leadWord [d.toNat]) fun _ t => t.setX d.toNat ((s.commonSr u x n).getD 0)
  | _, _, _ => s.issue s.undefined fun _ t => t

/-- SWR: `fpctl` bits 2 to 0, `fpflags` bits 5 to 0; the flags of words chained with it are ORed in after it (R152). -/
def execSwr (d : BitVec 6) (num : BitVec 8) (s : State) : Host.Outcome State Fault Refusal :=
  s.issue (s.gangWord [] [d.toNat]) fun _ t =>
    let x := (s.X d.toNat).setWidth 8
    t.modEntryHere fun p =>
      if num = 0x06 then { p with fpctl := x &&& fpctlWritable }
      else { p with fpflags := (x &&& flagsWritable) ||| t.cur.flags }

end Sys2Proof.Machine
end

