-- ==== Sys2Proof/Machine/Vcmp.lean ====
section
/-! DEFINITION. Compare and select (R160, R161). -/

namespace Sys2Proof.Machine

/-- The condition codes (R160). -/
def condition (cc : BitVec 4) (o : Ordering4) : Bool :=
  match cc.toNat with
  | 0 => o.eq
  | 1 => o.un || !o.eq
  | 2 => o.lt
  | 3 => o.lt || o.eq
  | 4 => !o.un && !o.lt && !o.eq
  | 5 => !o.un && !o.lt
  | 6 => o.un
  | _ => !o.un

/-- The tags a comparison accepts (R160). -/
def cmpTags (ty : BitVec 3) : List Tag :=
  match ty.toNat with
  | 0 => [.f32]
  | 1 => [.f64]
  | _ => intTags

/-- The comparison of one lane (R160) and its flags. -/
def Gang.compare (g : Gang) (ty : BitVec 3) (ftz : Bool) (a b l : Nat) : Ordering4 × FpFlags :=
  match ty.toNat with
  | 0 => (fpCompare fmtF32 ftz (g.V a l).toNat (g.V b l).toNat, snanFlags fmtF32 [(g.V a l).toNat, (g.V b l).toNat])
  | 1 => (fpCompare fmtF64 ftz (g.V64 a l).toNat (g.V64 b l).toNat, snanFlags fmtF64 [(g.V64 a l).toNat, (g.V64 b l).toNat])
  | 2 => (⟨(g.V a l).slt (g.V b l), g.V a l == g.V b l, false⟩, 0)
  | _ => (⟨(g.V a l).ult (g.V b l), g.V a l == g.V b l, false⟩, 0)

/-- VCMP: writes the mask bits of the active lanes only (R12, R160). -/
def execVcmp (ty : BitVec 3) (cc md : BitVec 4) (a b : BitVec 7) (s : State) : Host.Outcome State Fault Refusal :=
  s.issue ((s.gangWord [a.toNat, b.toNat] []).andThen (s.needTags [(a.toNat, cmpTags ty), (b.toNat, cmpTags ty)]))
    fun mk t =>
      match s.hereGang with
      | some x =>
        let r := fun l => x.compare ty s.fpEnv.ftz a.toNat b.toNat l
        let bits := maskOf ((lanesOf mk).filter fun l => condition cc (r l).1)
        (t.modHere (·.setMBits md.toNat mk bits)).raiseFlags ((lanesOf mk).foldl (fun f l => f ||| (r l).2) 0)
      | none => t

/-- VSEL: bits and tag of `a` where the mask bit is set, of `b` elsewhere (R161). -/
def execVsel (d a b : BitVec 7) (mk : BitVec 4) (s : State) : Host.Outcome State Fault Refusal :=
  s.lanewise [d.toNat] [(a.toNat, anyTag), (b.toNat, anyTag)] [] fun g l =>
    ([(d.toNat, if (g.M mk.toNat).getLsbD l then g.VR a.toNat l else g.VR b.toNat l)], 0)

end Sys2Proof.Machine
end

