-- ==== Sys2Proof/Machine/Sfu.lean ====
section
/-! DEFINITION. The special functions (R165 to R167). VSQRT is exact; for the seven approximated functions the exact cases are exact, and
every other result is a free choice among the F32 values within the stated accuracy of a reference computed in fixed point to 160 bits (assumption 12). -/

namespace Sys2Proof.Machine

/-- The integer square root, bit by bit from 2^`k` down. -/
def isqrtFrom : Nat → Nat → Nat → Nat
  | 0, n, r => if (r + 1) * (r + 1) ≤ n then r + 1 else r
  | k + 1, n, r => if (r + 2 ^ (k + 1)) * (r + 2 ^ (k + 1)) ≤ n then isqrtFrom k n (r + 2 ^ (k + 1)) else isqrtFrom k n r

/-- The integer square root of a number below 2^320. -/
def isqrt (n : Nat) : Nat := isqrtFrom 160 n 0

/-- The square root of `m` times 2^`e`: a mantissa whose last bit says that the root is not exact, and its exponent. -/
def rootOf (m : Nat) (e : Int) : Nat × Int :=
  let k : Nat := if e % 2 = 0 then 200 else 201
  let n := m * 2 ^ k
  let r := isqrt n
  (2 * r + (if r * r = n then 0 else 1), (e - k) / 2 - 1)

/-- VSQRT.F32 (R165): correctly rounded. -/
def fpSqrt (v : FpEnv) (x : Nat) : Rounded :=
  let sn := snanFlags fmtF32 [x]
  match fmtF32.source v.ftz x with
  | .nan => ⟨fmtF32.nan, sn⟩
  | .zero n => ⟨fmtF32.signed n 0, 0⟩
  | .inf true => ⟨fmtF32.nan, flagNv⟩
  | .inf false => ⟨fmtF32.infMag, 0⟩
  | .real true _ _ => ⟨fmtF32.nan, flagNv⟩
  | .real false m e => let r := rootOf m e; round fmtF32 v.mode v.ftz (.real false r.1 r.2)

/-! ### Fixed point with 160 fraction bits -/

/-- One. -/
def fxOne : Nat := 2 ^ 160
/-- The natural logarithm of 2. -/
def fxLn2 : Nat := 1013035739299659071135698605846798551586536899366
/-- Two times pi. -/
def fxTwoPi : Nat := 9182885614096437842769610399486622256908310048836

/-- `m` times 2^`e` in fixed point. -/
def fxOf (m : Nat) (e : Int) : Nat := (scaleTo m e (-160)).1

/-- The Taylor sum of y^n / n! from term `n` on, `t` being that term. -/
def fxExpSum : Nat → Nat → Nat → Nat → Nat
  | 0, _, _, _ => 0
  | k + 1, y, n, t => t + fxExpSum k y (n + 1) (t * y / fxOne / (n + 1))

/-- e^y for y below 1. -/
def fxExp (y : Nat) : Nat := fxExpSum 48 y 0 fxOne

/-- 2^t for t at least 0, as a mantissa and an exponent. -/
def fxExp2 (t : Nat) : Nat × Int := (fxExp (t % fxOne * fxLn2 / fxOne), (t / fxOne : Nat) - 160)

/-- Alternating Taylor sum of y^n / n!, every other term (sine from n = 1, cosine from n = 0). -/
def fxTrigSum : Nat → Nat → Nat → Nat → Bool → Int
  | 0, _, _, _, _ => 0
  | k + 1, y, n, t, neg =>
    (if neg then -(t : Int) else t) + fxTrigSum k y (n + 2) (t * y / fxOne * y / fxOne / ((n + 1) * (n + 2))) !neg

/-- sin y of a reduced y. -/
def fxSin (y : Nat) : Int := fxTrigSum 40 y 1 y false
/-- cos y of a reduced y. -/
def fxCos (y : Nat) : Int := fxTrigSum 40 y 0 fxOne false

/-- The sum of z^n / n! over every other factorial (sinh y / y from n = 1, cosh y from n = 0), z being y squared. -/
def fxHypSum : Nat → Nat → Nat → Nat → Nat
  | 0, _, _, _ => 0
  | k + 1, z, n, t => t + fxHypSum k z (n + 2) (t * z / fxOne / ((n + 1) * (n + 2)))

/-- tanh y / y of a y below 1. -/
def fxTanhRatio (y : Nat) : Nat :=
  let z := y * y / fxOne
  fxHypSum 30 z 1 fxOne * fxOne / fxHypSum 30 z 0 fxOne

/-- The binary digits of log2 of y, y from 1 to below 2 with 200 fraction bits, by repeated squaring. -/
def fxLog2Digits : Nat → Nat → Nat
  | 0, _ => 0
  | k + 1, y =>
    let z := y * y / 2 ^ 200
    if 2 ^ 201 ≤ z then 2 ^ k + fxLog2Digits k (z / 2) else fxLog2Digits k z

/-- log2 of `m` times 2^`e`, with 184 fraction bits. -/
def fxLog2 (m : Nat) (e : Int) : Int :=
  let k := Nat.log2 m
  (e + k) * 2 ^ 184 + fxLog2Digits 184 (m * 2 ^ 200 / 2 ^ k)

/-! ### Results within an accuracy -/

/-- The place of an F32 encoding in numerical order; both zeros are 0. -/
def f32Index (x : Nat) : Int := if fmtF32.sign x then -((x % 2 ^ 31 : Nat) : Int) else x

/-- The F32 encoding at a place; a zero takes the sign `neg`. -/
def f32AtIndex (neg : Bool) (i : Int) : Nat :=
  if i = 0 then fmtF32.signed neg 0 else fmtF32.signed (decide (i < 0)) i.natAbs

/-- An F32 result within `b` times 2^`be` of plus or minus `m` times 2^`e`: the free choice `pick` among them (R165). -/
def within (ftz : Bool) (pick : Nat) (neg : Bool) (m : Nat) (e : Int) (b : Nat) (be : Int) : Nat :=
  let q := min e be
  let c := mant neg m e q
  let d := mant false b be q
  let lo := f32Index (round fmtF32 2 false (exactOfInt (c - d) q false)).bits
  let hi := f32Index (round fmtF32 3 false (exactOfInt (c + d) q true)).bits
  let hi := min hi (fmtF32.infMag - 1)
  let lo := max lo (-((fmtF32.infMag - 1 : Nat) : Int))
  let y := f32AtIndex neg (lo + ((pick % ((hi - lo).toNat + 1) : Nat) : Int))
  if ftz && fmtF32.isSubnormal y then fmtF32.signed (fmtF32.sign y) 0 else y

/-- The exponent of an ulp of `m` times 2^`e` rounded to F32 (R165). -/
def ulpExp (m : Nat) (e : Int) : Int := (max (fmtF32.exp (round fmtF32 0 false (.real false m e)).bits) 1 : Nat) - 150

/-- A result within `k` ulp of the exact value; beyond F32 max it is ∞, below the smallest subnormal a zero (R165). -/
def withinUlp (ftz : Bool) (pick k : Nat) (neg : Bool) (m : Nat) (e : Int) : Nat :=
  let top := e + Nat.log2 m
  if 128 ≤ top then fmtF32.signed neg fmtF32.infMag
  else if top < -149 then fmtF32.signed neg 0
  else within ftz pick neg m e k (ulpExp m e)

/-- An exact result, flushed under `ftz` (R165). -/
def exactF32 (ftz : Bool) (x : Exact) : Nat :=
  let y := (round fmtF32 0 false x).bits
  if ftz && fmtF32.isSubnormal y then fmtF32.signed (fmtF32.sign y) 0 else y

/-! ### The references (assumption 12) -/

/-- 1/x of a real: a mantissa and an exponent. -/
def rcpRef (m : Nat) (e : Int) : Nat × Int := (2 ^ 200 / m, -e - 200)

/-- 1/√x of a positive real. -/
def rsqRef (m : Nat) (e : Int) : Nat × Int :=
  let k : Nat := if e % 2 = 0 then 300 else 301
  (isqrt (2 ^ k / m), (-e - k) / 2)

/-- 2^x. -/
def exp2Ref (neg : Bool) (m : Nat) (e : Int) : Nat × Int :=
  let t := fxOf m e
  if neg then ((fxExp2 (256 * fxOne - t)).1, (fxExp2 (256 * fxOne - t)).2 - 256) else fxExp2 t

/-- The argument reduced modulo two pi (R167). -/
def reduced (m : Nat) (e : Int) : Nat := fxOf m e % fxTwoPi

/-- sin x, signed, in units of 2^-160. -/
def sinRef (neg : Bool) (m : Nat) (e : Int) : Int := if neg then -fxSin (reduced m e) else fxSin (reduced m e)

/-- cos x, signed, in units of 2^-161: below 1, as x is not zero. -/
def cosRef (m : Nat) (e : Int) : Int := 2 * fxCos (reduced m e) - 1

/-- tanh x of a positive real below 9: below x, and below 1. -/
def tanhRef (m : Nat) (e : Int) : Nat × Int :=
  if e + Nat.log2 m < 0 then (m * (2 * fxTanhRatio (fxOf m e) - 1), e - 161)
  else
    let r := fxExp2 (2 * fxOf m e * fxOne / fxLn2)
    let x := (scaleTo r.1 r.2 (-160)).1
    ((x - fxOne) * fxOne / (x + fxOne), -160)

/-! ### The seven functions of a real -/

/-- Trailing zero bits are divided out: an odd mantissa and its exponent. -/
def oddPart : Nat → Nat → Int → Nat × Int
  | 0, m, e => (m, e)
  | k + 1, m, e => if m % 2 = 0 then oddPart k (m / 2) (e + 1) else (m, e)

/-- VRCP.F32 of a real (R165). -/
def rcpReal (ftz : Bool) (pick : Nat) (neg : Bool) (m : Nat) (e : Int) : Nat :=
  let o := oddPart 32 m e
  if o.1 = 1 ∧ -126 ≤ -o.2 ∧ -o.2 ≤ 127 then exactF32 ftz (.real neg 1 (-o.2))
  else withinUlp ftz pick 1 neg (rcpRef m e).1 (rcpRef m e).2

/-- VRSQ.F32 of a positive real (R165). -/
def rsqReal (ftz : Bool) (pick m : Nat) (e : Int) : Nat :=
  let o := oddPart 32 m e
  if o.1 = 1 ∧ o.2 % 2 = 0 then exactF32 ftz (.real false 1 (-(o.2 / 2)))
  else withinUlp ftz pick 1 false (rsqRef m e).1 (rsqRef m e).2

/-- VEXP2.F32 of a real (R165). -/
def exp2Real (ftz : Bool) (pick : Nat) (neg : Bool) (m : Nat) (e : Int) : Nat :=
  let big := realLt false 1 7 false m e || decide (mant false m e (min e 0) = 2 ^ (7 - min e 0).toNat)
  let o := oddPart 32 m e
  if !neg && big then fmtF32.infMag
  else if neg && realLt false 149 0 false m e then 0
  else if 0 ≤ o.2 then
    let n : Int := o.1 * 2 ^ o.2.toNat
    exactF32 ftz (.real false 1 (if neg then -n else n))
  else withinUlp ftz pick 2 false (exp2Ref neg m e).1 (exp2Ref neg m e).2

/-- VLOG2.F32 of a positive real (R165). -/
def log2Real (ftz : Bool) (pick m : Nat) (e : Int) : Nat :=
  let o := oddPart 32 m e
  if o.1 = 1 then exactF32 ftz (exactOfInt o.2 0 false)
  else
    let y := fxLog2 m e
    if y.natAbs ≤ 2 ^ 184 then within ftz pick (decide (y < 0)) y.natAbs (-184) 1 (-22)
    else withinUlp ftz pick 2 (decide (y < 0)) y.natAbs (-184)

/-- Magnitude at least 2^18 (R167). -/
def farArg (m : Nat) (e : Int) : Bool := decide (18 ≤ e + Nat.log2 m)

/-- VSIN.F32 of a real below 2^18 (R165). -/
def sinReal (ftz : Bool) (pick : Nat) (neg : Bool) (m : Nat) (e : Int) : Nat :=
  if e + Nat.log2 m < -12 then exactF32 ftz (.real neg m e)
  else within ftz pick (decide (sinRef neg m e < 0)) (sinRef neg m e).natAbs (-160) 1 (-22)

/-- VCOS.F32 of a real below 2^18 (R165). -/
def cosReal (ftz : Bool) (pick m : Nat) (e : Int) : Nat :=
  within ftz pick (decide (cosRef m e < 0)) (cosRef m e).natAbs (-161) 1 (-22)

/-- VTANH.F32 of a real (R165). -/
def tanhReal (ftz : Bool) (pick : Nat) (neg : Bool) (m : Nat) (e : Int) : Nat :=
  if !realLt false m e false 9 0 then fmtF32.signed neg 0x3F800000
  else withinUlp ftz pick 2 neg (tanhRef m e).1 (tanhRef m e).2

/-- The seven approximated functions, by sub-opcode (R165, R166). -/
def sfu (fn : Nat) (ftz : Bool) (pick : Nat) (x : Nat) : Rounded :=
  let one := 0x3F800000
  let inf := fmtF32.infMag
  match fn, fmtF32.source ftz x with
  | _, .nan => ⟨fmtF32.nan, snanFlags fmtF32 [x]⟩
  | 0, .zero n => ⟨fmtF32.signed n inf, flagDz⟩
  | 0, .inf n => ⟨fmtF32.signed n 0, 0⟩
  | 0, .real n m e => ⟨rcpReal ftz pick n m e, 0⟩
  | 1, .zero n => ⟨fmtF32.signed n inf, flagDz⟩
  | 1, .inf false => ⟨0, 0⟩
  | 1, .real false m e => ⟨rsqReal ftz pick m e, 0⟩
  | 3, .zero _ => ⟨one, 0⟩
  | 3, .inf n => ⟨if n then 0 else inf, 0⟩
  | 3, .real n m e => ⟨exp2Real ftz pick n m e, 0⟩
  | 4, .zero _ => ⟨fmtF32.signed true inf, flagDz⟩
  | 4, .inf false => ⟨inf, 0⟩
  | 4, .real false m e => ⟨log2Real ftz pick m e, 0⟩
  | 5, .zero n => ⟨fmtF32.signed n 0, 0⟩
  | 5, .real n m e => if farArg m e then ⟨fmtF32.nan, flagRg⟩ else ⟨sinReal ftz pick n m e, 0⟩
  | 6, .zero _ => ⟨one, 0⟩
  | 6, .real _ m e => if farArg m e then ⟨fmtF32.nan, flagRg⟩ else ⟨cosReal ftz pick m e, 0⟩
  | 7, .zero n => ⟨fmtF32.signed n 0, 0⟩
  | 7, .inf n => ⟨fmtF32.signed n one, 0⟩
  | 7, .real n m e => ⟨tanhReal ftz pick n m e, 0⟩
  | _, _ => ⟨fmtF32.nan, flagNv⟩

end Sys2Proof.Machine
end

