-- ==== Sys2Proof/Machine/Vsfu.lean ====
section
/-! DEFINITION. The special-function words (R165 to R167): VSFU. -/

namespace Sys2Proof.Machine

/-- A VSFU word. -/
def State.vsfu (s : State) (d a : BitVec 7) (f : Nat → Rounded) : Host.Outcome State Fault Refusal :=
  s.lanewise [d.toNat] [(a.toNat, [Tag.f32])] [] fun g l =>
    let y := f (g.V a.toNat l).toNat
    ([(d.toNat, ⟨BitVec.ofNat 32 y.bits, .f32⟩)], y.flags)

/-- An approximated function with the device's choice of result (assumption 12). -/
def State.approximated (s : State) (fn : Nat) (x : Nat) : Rounded :=
  sfu fn s.fpEnv.ftz (Config.sfuPick fn (BitVec.ofNat 32 x)) x

/-- VRCP.F32 (R165). -/
def execVrcpF32 (d a : BitVec 7) (s : State) : Host.Outcome State Fault Refusal := s.vsfu d a (s.approximated 0)

/-- VRSQ.F32 (R165). -/
def execVrsqF32 (d a : BitVec 7) (s : State) : Host.Outcome State Fault Refusal := s.vsfu d a (s.approximated 1)

/-- VSQRT.F32 (R165). -/
def execVsqrtF32 (d a : BitVec 7) (s : State) : Host.Outcome State Fault Refusal := s.vsfu d a (fpSqrt s.fpEnv)

/-- VEXP2.F32 (R165). -/
def execVexp2F32 (d a : BitVec 7) (s : State) : Host.Outcome State Fault Refusal := s.vsfu d a (s.approximated 3)

/-- VLOG2.F32 (R165). -/
def execVlog2F32 (d a : BitVec 7) (s : State) : Host.Outcome State Fault Refusal := s.vsfu d a (s.approximated 4)

/-- VSIN.F32 (R165, R167). -/
def execVsinF32 (d a : BitVec 7) (s : State) : Host.Outcome State Fault Refusal := s.vsfu d a (s.approximated 5)

/-- VCOS.F32 (R165, R167). -/
def execVcosF32 (d a : BitVec 7) (s : State) : Host.Outcome State Fault Refusal := s.vsfu d a (s.approximated 6)

/-- VTANH.F32 (R165). -/
def execVtanhF32 (d a : BitVec 7) (s : State) : Host.Outcome State Fault Refusal := s.vsfu d a (s.approximated 7)

end Sys2Proof.Machine
end

