-- ==== Sys2Proof/Machine/Dispatch.lean ====
section
/-! DEFINITION. The meaning of every instruction. -/

namespace Sys2Proof.Machine

/-- One arm for each row of the operation table. -/
def exec (i : Instr) (s : State) : Host.Outcome State Fault Refusal :=
  match i with
  | .nop => Sys2Proof.Machine.execNop s
  | .exit => Sys2Proof.Machine.execExit s
  | .gbar => Sys2Proof.Machine.execGbar s
  | .ubar => Sys2Proof.Machine.execUbar s
  | .wait vm sp => Sys2Proof.Machine.execWait vm sp s
  | .trap code => Sys2Proof.Machine.execTrap code s
  | .bkpt tag => Sys2Proof.Machine.execBkpt tag s
  | .rett => Sys2Proof.Machine.execRett s
  | .cancelGraph h => Sys2Proof.Machine.execCancelGraph h s
  | .cancelPhase h => Sys2Proof.Machine.execCancelPhase h s
  | .cancelJob h => Sys2Proof.Machine.execCancelJob h s
  | .ctxsv h => Sys2Proof.Machine.execCtxsv h s
  | .br disp => Sys2Proof.Machine.execBr disp s
  | .brZ c disp => Sys2Proof.Machine.execBrZ c disp s
  | .brNz c disp => Sys2Proof.Machine.execBrNz c disp s
  | .brd m disp => Sys2Proof.Machine.execBrd m disp s
  | .brdN m disp => Sys2Proof.Machine.execBrdN m disp s
  | .call link disp => Sys2Proof.Machine.execCall link disp s
  | .ret link => Sys2Proof.Machine.execRet link s
  | .spawn c disp => Sys2Proof.Machine.execSpawn c disp s
  | .add d a b => Sys2Proof.Machine.execAdd d a b s
  | .sub d a b => Sys2Proof.Machine.execSub d a b s
  | .mul d a b => Sys2Proof.Machine.execMul d a b s
  | .mulhiI64 d a b => Sys2Proof.Machine.execMulhiI64 d a b s
  | .mulhiN64 d a b => Sys2Proof.Machine.execMulhiN64 d a b s
  | .and d a b => Sys2Proof.Machine.execAnd d a b s
  | .or d a b => Sys2Proof.Machine.execOr d a b s
  | .xor d a b => Sys2Proof.Machine.execXor d a b s
  | .shl d a b => Sys2Proof.Machine.execShl d a b s
  | .shr d a b => Sys2Proof.Machine.execShr d a b s
  | .sar d a b => Sys2Proof.Machine.execSar d a b s
  | .minI64 d a b => Sys2Proof.Machine.execMinI64 d a b s
  | .minN64 d a b => Sys2Proof.Machine.execMinN64 d a b s
  | .maxI64 d a b => Sys2Proof.Machine.execMaxI64 d a b s
  | .maxN64 d a b => Sys2Proof.Machine.execMaxN64 d a b s
  | .seq d a b => Sys2Proof.Machine.execSeq d a b s
  | .sltI64 d a b => Sys2Proof.Machine.execSltI64 d a b s
  | .sltN64 d a b => Sys2Proof.Machine.execSltN64 d a b s
  | .mov d a => Sys2Proof.Machine.execMov d a s
  | .popc d a => Sys2Proof.Machine.execPopc d a s
  | .clz d a => Sys2Proof.Machine.execClz d a s
  | .mtos d a => Sys2Proof.Machine.execMtos d a s
  | .stom d a => Sys2Proof.Machine.execStom d a s
  | .mand d a b => Sys2Proof.Machine.execMand d a b s
  | .mor d a b => Sys2Proof.Machine.execMor d a b s
  | .mxor d a b => Sys2Proof.Machine.execMxor d a b s
  | .mnot d a => Sys2Proof.Machine.execMnot d a s
  | .addi d a imm => Sys2Proof.Machine.execAddi d a imm s
  | .andi d a imm => Sys2Proof.Machine.execAndi d a imm s
  | .ori d a imm => Sys2Proof.Machine.execOri d a imm s
  | .xori d a imm => Sys2Proof.Machine.execXori d a imm s
  | .shli d a n => Sys2Proof.Machine.execShli d a n s
  | .shri d a n => Sys2Proof.Machine.execShri d a n s
  | .sari d a n => Sys2Proof.Machine.execSari d a n s
  | .seqi d a imm => Sys2Proof.Machine.execSeqi d a imm s
  | .sltiI64 d a imm => Sys2Proof.Machine.execSltiI64 d a imm s
  | .sltiN64 d a imm => Sys2Proof.Machine.execSltiN64 d a imm s
  | .ldi d k imm => Sys2Proof.Machine.execLdi d k imm s
  | .ldih d k imm => Sys2Proof.Machine.execLdih d k imm s
  | .srd d num => Sys2Proof.Machine.execSrd d num s
  | .swr d num => Sys2Proof.Machine.execSwr d num s
  | .sldB64 d a imm => Sys2Proof.Machine.execSldB64 d a imm s
  | .sldN32 d a imm => Sys2Proof.Machine.execSldN32 d a imm s
  | .sldI32 d a imm => Sys2Proof.Machine.execSldI32 d a imm s
  | .sstB64 d a imm => Sys2Proof.Machine.execSstB64 d a imm s
  | .sstB32 d a imm => Sys2Proof.Machine.execSstB32 d a imm s
  | .dsld d a imm => Sys2Proof.Machine.execDsld d a imm s
  | .dsst d a imm => Sys2Proof.Machine.execDsst d a imm s
  | .sldsB64 d a imm => Sys2Proof.Machine.execSldsB64 d a imm s
  | .sstsB64 d a imm => Sys2Proof.Machine.execSstsB64 d a imm s
  | .vaddI32 d a b => Sys2Proof.Machine.execVaddI32 d a b s
  | .vaddN32 d a b => Sys2Proof.Machine.execVaddN32 d a b s
  | .vsubI32 d a b => Sys2Proof.Machine.execVsubI32 d a b s
  | .vsubN32 d a b => Sys2Proof.Machine.execVsubN32 d a b s
  | .vmulI32 d a b => Sys2Proof.Machine.execVmulI32 d a b s
  | .vmulN32 d a b => Sys2Proof.Machine.execVmulN32 d a b s
  | .vmulhiI32 d a b => Sys2Proof.Machine.execVmulhiI32 d a b s
  | .vmulhiN32 d a b => Sys2Proof.Machine.execVmulhiN32 d a b s
  | .vaddsI32 d a b => Sys2Proof.Machine.execVaddsI32 d a b s
  | .vaddsN32 d a b => Sys2Proof.Machine.execVaddsN32 d a b s
  | .vsubsI32 d a b => Sys2Proof.Machine.execVsubsI32 d a b s
  | .vsubsN32 d a b => Sys2Proof.Machine.execVsubsN32 d a b s
  | .vminI32 d a b => Sys2Proof.Machine.execVminI32 d a b s
  | .vminN32 d a b => Sys2Proof.Machine.execVminN32 d a b s
  | .vmaxI32 d a b => Sys2Proof.Machine.execVmaxI32 d a b s
  | .vmaxN32 d a b => Sys2Proof.Machine.execVmaxN32 d a b s
  | .vandB32 d a b => Sys2Proof.Machine.execVandB32 d a b s
  | .vorB32 d a b => Sys2Proof.Machine.execVorB32 d a b s
  | .vxorB32 d a b => Sys2Proof.Machine.execVxorB32 d a b s
  | .vnotB32 d a => Sys2Proof.Machine.execVnotB32 d a s
  | .vshlB32 d a b => Sys2Proof.Machine.execVshlB32 d a b s
  | .vshrN32 d a b => Sys2Proof.Machine.execVshrN32 d a b s
  | .vshrI32 d a b => Sys2Proof.Machine.execVshrI32 d a b s
  | .vpopcB32 d a => Sys2Proof.Machine.execVpopcB32 d a s
  | .vclzB32 d a => Sys2Proof.Machine.execVclzB32 d a s
  | .vaddF32 d a b => Sys2Proof.Machine.execVaddF32 d a b s
  | .vsubF32 d a b => Sys2Proof.Machine.execVsubF32 d a b s
  | .vmulF32 d a b => Sys2Proof.Machine.execVmulF32 d a b s
  | .vminF32 d a b => Sys2Proof.Machine.execVminF32 d a b s
  | .vmaxF32 d a b => Sys2Proof.Machine.execVmaxF32 d a b s
  | .vfmaF32 d a b => Sys2Proof.Machine.execVfmaF32 d a b s
  | .vfmsF32 d a b => Sys2Proof.Machine.execVfmsF32 d a b s
  | .vfnmaF32 d a b => Sys2Proof.Machine.execVfnmaF32 d a b s
  | .vfnmsF32 d a b => Sys2Proof.Machine.execVfnmsF32 d a b s
  | .vabsF32 d a => Sys2Proof.Machine.execVabsF32 d a s
  | .vnegF32 d a => Sys2Proof.Machine.execVnegF32 d a s
  | .vaddF64 d a b => Sys2Proof.Machine.execVaddF64 d a b s
  | .vsubF64 d a b => Sys2Proof.Machine.execVsubF64 d a b s
  | .vmulF64 d a b => Sys2Proof.Machine.execVmulF64 d a b s
  | .vminF64 d a b => Sys2Proof.Machine.execVminF64 d a b s
  | .vmaxF64 d a b => Sys2Proof.Machine.execVmaxF64 d a b s
  | .vfmaF64 d a b => Sys2Proof.Machine.execVfmaF64 d a b s
  | .vfmsF64 d a b => Sys2Proof.Machine.execVfmsF64 d a b s
  | .vfnmaF64 d a b => Sys2Proof.Machine.execVfnmaF64 d a b s
  | .vfnmsF64 d a b => Sys2Proof.Machine.execVfnmsF64 d a b s
  | .vabsF64 d a => Sys2Proof.Machine.execVabsF64 d a s
  | .vnegF64 d a => Sys2Proof.Machine.execVnegF64 d a s
  | .vaddBf16 d a b => Sys2Proof.Machine.execVaddBf16 d a b s
  | .vsubBf16 d a b => Sys2Proof.Machine.execVsubBf16 d a b s
  | .vmulBf16 d a b => Sys2Proof.Machine.execVmulBf16 d a b s
  | .vminBf16 d a b => Sys2Proof.Machine.execVminBf16 d a b s
  | .vmaxBf16 d a b => Sys2Proof.Machine.execVmaxBf16 d a b s
  | .vfmaBf16 d a b => Sys2Proof.Machine.execVfmaBf16 d a b s
  | .vfmsBf16 d a b => Sys2Proof.Machine.execVfmsBf16 d a b s
  | .vfnmaBf16 d a b => Sys2Proof.Machine.execVfnmaBf16 d a b s
  | .vfnmsBf16 d a b => Sys2Proof.Machine.execVfnmsBf16 d a b s
  | .vabsBf16 d a => Sys2Proof.Machine.execVabsBf16 d a s
  | .vnegBf16 d a => Sys2Proof.Machine.execVnegBf16 d a s
  | .vaddF16 d a b => Sys2Proof.Machine.execVaddF16 d a b s
  | .vsubF16 d a b => Sys2Proof.Machine.execVsubF16 d a b s
  | .vmulF16 d a b => Sys2Proof.Machine.execVmulF16 d a b s
  | .vminF16 d a b => Sys2Proof.Machine.execVminF16 d a b s
  | .vmaxF16 d a b => Sys2Proof.Machine.execVmaxF16 d a b s
  | .vfmaF16 d a b => Sys2Proof.Machine.execVfmaF16 d a b s
  | .vfmsF16 d a b => Sys2Proof.Machine.execVfmsF16 d a b s
  | .vfnmaF16 d a b => Sys2Proof.Machine.execVfnmaF16 d a b s
  | .vfnmsF16 d a b => Sys2Proof.Machine.execVfnmsF16 d a b s
  | .vabsF16 d a => Sys2Proof.Machine.execVabsF16 d a s
  | .vnegF16 d a => Sys2Proof.Machine.execVnegF16 d a s
  | .vcmp ty cc md a b => Sys2Proof.Machine.execVcmp ty cc md a b s
  | .vsel d a b mk => Sys2Proof.Machine.execVsel d a b mk s
  | .vcvt d a code => Sys2Proof.Machine.execVcvt d a code s
  | .vqnt d a b => Sys2Proof.Machine.execVqnt d a b s
  | .vcvtMov d a => Sys2Proof.Machine.execVcvtMov d a s
  | .retag d a tag => Sys2Proof.Machine.execRetag d a tag s
  | .vmovs d a tag => Sys2Proof.Machine.execVmovs d a tag s
  | .vrcpF32 d a => Sys2Proof.Machine.execVrcpF32 d a s
  | .vrsqF32 d a => Sys2Proof.Machine.execVrsqF32 d a s
  | .vsqrtF32 d a => Sys2Proof.Machine.execVsqrtF32 d a s
  | .vexp2F32 d a => Sys2Proof.Machine.execVexp2F32 d a s
  | .vlog2F32 d a => Sys2Proof.Machine.execVlog2F32 d a s
  | .vsinF32 d a => Sys2Proof.Machine.execVsinF32 d a s
  | .vcosF32 d a => Sys2Proof.Machine.execVcosF32 d a s
  | .vtanhF32 d a => Sys2Proof.Machine.execVtanhF32 d a s
  | .shflIdx d a b => Sys2Proof.Machine.execShflIdx d a b s
  | .shflUp d a n => Sys2Proof.Machine.execShflUp d a n s
  | .shflDn d a n => Sys2Proof.Machine.execShflDn d a n s
  | .shflXor d a n => Sys2Proof.Machine.execShflXor d a n s
  | .shflBc d a n => Sys2Proof.Machine.execShflBc d a n s
  | .voteAny d a => Sys2Proof.Machine.execVoteAny d a s
  | .voteAll d a => Sys2Proof.Machine.execVoteAll d a s
  | .voteBal d a => Sys2Proof.Machine.execVoteBal d a s
  | .redl d a code => Sys2Proof.Machine.execRedl d a code s
  | .vpop d ch => Sys2Proof.Machine.execVpop d ch s
  | .vld ty d a b x => Sys2Proof.Machine.execVld ty d a b x s
  | .vst ty d a b x => Sys2Proof.Machine.execVst ty d a b x s
  | .vlds ty d a b x => Sys2Proof.Machine.execVlds ty d a b x s
  | .vsts ty d a b x => Sys2Proof.Machine.execVsts ty d a b x s
  | .vldpN32 d a b => Sys2Proof.Machine.execVldpN32 d a b s
  | .sevict a => Sys2Proof.Machine.execSevict a s
  | .vldtB8 d a => Sys2Proof.Machine.execVldtB8 d a s
  | .vldtB16 d a => Sys2Proof.Machine.execVldtB16 d a s
  | .vldtB32 d a => Sys2Proof.Machine.execVldtB32 d a s
  | .atomAdd ty lvl d a sp => Sys2Proof.Machine.execAtomAdd ty lvl d a sp s
  | .atomMin ty lvl d a sp => Sys2Proof.Machine.execAtomMin ty lvl d a sp s
  | .atomMax ty lvl d a sp => Sys2Proof.Machine.execAtomMax ty lvl d a sp s
  | .atomAnd ty lvl d a sp => Sys2Proof.Machine.execAtomAnd ty lvl d a sp s
  | .atomOr ty lvl d a sp => Sys2Proof.Machine.execAtomOr ty lvl d a sp s
  | .atomXor ty lvl d a sp => Sys2Proof.Machine.execAtomXor ty lvl d a sp s
  | .atomXchg ty lvl d a sp => Sys2Proof.Machine.execAtomXchg ty lvl d a sp s
  | .atomCas ty lvl d a sp => Sys2Proof.Machine.execAtomCas ty lvl d a sp s
  | .fenceAcq lvl => Sys2Proof.Machine.execFenceAcq lvl s
  | .fenceRel lvl => Sys2Proof.Machine.execFenceRel lvl s
  | .fenceAr lvl => Sys2Proof.Machine.execFenceAr lvl s
  | .xfence p q => Sys2Proof.Machine.execXfence p q s
  | .lvlq d lvl f => Sys2Proof.Machine.execLvlq d lvl f s
  | .boinit obj v => Sys2Proof.Machine.execBoinit obj v s
  | .boexpect obj v => Sys2Proof.Machine.execBoexpect obj v s
  | .boarrive obj v => Sys2Proof.Machine.execBoarrive obj v s
  | .bowait obj v => Sys2Proof.Machine.execBowait obj v s
  | .send a ch => Sys2Proof.Machine.execSend a ch s
  | .recv d ch => Sys2Proof.Machine.execRecv d ch s
  | .chwp d ch => Sys2Proof.Machine.execChwp d ch s
  | .dqpush a => Sys2Proof.Machine.execDqpush a s
  | .dqpop d => Sys2Proof.Machine.execDqpop d s
  | .trec a space slot => Sys2Proof.Machine.execTrec a space slot s
  | .mldw a b arr slot => Sys2Proof.Machine.execMldw a b arr slot s
  | .mswap => Sys2Proof.Machine.execMswap s
  | .mma a b tile arr slot => Sys2Proof.Machine.execMma a b tile arr slot s
  | .mdrain a b c tile arr slot => Sys2Proof.Machine.execMdrain a b c tile arr slot s
  | .tcopy a b c dst src => Sys2Proof.Machine.execTcopy a b c dst src s
  | .strm a b c slot => Sys2Proof.Machine.execStrm a b c slot s
  | .nmc a b c => Sys2Proof.Machine.execNmc a b c s
  | .dread a b c => Sys2Proof.Machine.execDread a b c s
  | .dappend a b c => Sys2Proof.Machine.execDappend a b c s
  | .splitRaise u g e => Sys2Proof.Machine.execSplitRaise u g e s
  | .gangContextFree u g => Sys2Proof.Machine.execGangContextFree u g s
  | .gangBarrierComplete u g => Sys2Proof.Machine.execGangBarrierComplete u g s
  | .unitBarrierComplete u => Sys2Proof.Machine.execUnitBarrierComplete u s
  | .unitEnd u => Sys2Proof.Machine.execUnitEnd u s
  | .loadReturn u g op l hit => Sys2Proof.Machine.execLoadReturn u g op l hit s
  | .permuteComplete u g op => Sys2Proof.Machine.execPermuteComplete u g op s
  | .writeAtHome y k => Sys2Proof.Machine.execWriteAtHome y k s
  | .forwardedWriteApply y k => Sys2Proof.Machine.execForwardedWriteApply y k s
  | .remoteWrite pa bytes => Sys2Proof.Machine.execRemoteWrite pa bytes s
  | .atomicAtSite u g op l => Sys2Proof.Machine.execAtomicAtSite u g op l s
  | .atomicopCompletion u g op l ok => Sys2Proof.Machine.execAtomicopCompletion u g op l ok s
  | .seamClaimRequest c sidx blk => Sys2Proof.Machine.execSeamClaimRequest c sidx blk s
  | .seamRecall c saddr => Sys2Proof.Machine.execSeamRecall c saddr s
  | .recallComplete saddr => Sys2Proof.Machine.execRecallComplete saddr s
  | .claimRelease c saddr => Sys2Proof.Machine.execClaimRelease c saddr s
  | .seamBlockFill c sidx blk => Sys2Proof.Machine.execSeamBlockFill c sidx blk s
  | .dressingCacheEviction c sidx blk => Sys2Proof.Machine.execDressingCacheEviction c sidx blk s
  | .seamWritebackAck c saddr => Sys2Proof.Machine.execSeamWritebackAck c saddr s
  | .firstTouchService u va => Sys2Proof.Machine.execFirstTouchService u va s
  | .tileCommandStart u k => Sys2Proof.Machine.execTileCommandStart u k s
  | .tileCommandComplete u k => Sys2Proof.Machine.execTileCommandComplete u k s
  | .engineFault u k => Sys2Proof.Machine.execEngineFault u k s
  | .tcopyElementWrite u k e => Sys2Proof.Machine.execTcopyElementWrite u k e s
  | .streamSectorFetch u k => Sys2Proof.Machine.execStreamSectorFetch u k s
  | .nmcStart k => Sys2Proof.Machine.execNmcStart k s
  | .nmcSubcommandComplete k sub badY badX => Sys2Proof.Machine.execNmcSubcommandComplete k sub badY badX s
  | .deepPageFetchComplete k page ok => Sys2Proof.Machine.execDeepPageFetchComplete k page ok s
  | .dappendExecute k => Sys2Proof.Machine.execDappendExecute k s
  | .dappendDurable k => Sys2Proof.Machine.execDappendDurable k s
  | .preemption u area => Sys2Proof.Machine.execPreemption u area s
  | .sqTail door v => Sys2Proof.Machine.execSqTail door v s
  | .sqBase q v => Sys2Proof.Machine.execSqBase q v s
  | .sqSize q v => Sys2Proof.Machine.execSqSize q v s
  | .sqEnable q v => Sys2Proof.Machine.execSqEnable q v s
  | .sqDisable q v => Sys2Proof.Machine.execSqDisable q v s
  | .ctxDesc v => Sys2Proof.Machine.execCtxDesc v s
  | .xltInvPage v => Sys2Proof.Machine.execXltInvPage v s
  | .xltInvAll v => Sys2Proof.Machine.execXltInvAll v s
  | .xltInvComplete => Sys2Proof.Machine.execXltInvComplete s
  | .migReqHbm v => Sys2Proof.Machine.execMigReqHbm v s
  | .migReqLpddr v => Sys2Proof.Machine.execMigReqLpddr v s
  | .migrationLineMove line => Sys2Proof.Machine.execMigrationLineMove line s
  | .sltBindDispatch slot v pend spbase tlbbase tlbsets => Sys2Proof.Machine.execSltBindDispatch slot v pend spbase tlbbase tlbsets s
  | .sltBindRestore slot v => Sys2Proof.Machine.execSltBindRestore slot v s
  | .qpoolLim slot cls v => Sys2Proof.Machine.execQpoolLim slot cls v s
  | .fsplit v => Sys2Proof.Machine.execFsplit v s
  | .frBase v => Sys2Proof.Machine.execFrBase v s
  | .frSize v => Sys2Proof.Machine.execFrSize v s
  | .frAckVerdict0 seq => Sys2Proof.Machine.execFrAckVerdict0 seq s
  | .frAckVerdict1 seq => Sys2Proof.Machine.execFrAckVerdict1 seq s
  | .dlogTrim v => Sys2Proof.Machine.execDlogTrim v s
  | .dlogCtl v => Sys2Proof.Machine.execDlogCtl v s
  | .compactionComplete phys => Sys2Proof.Machine.execCompactionComplete phys s
  | .hbmPwrcfg v => Sys2Proof.Machine.execHbmPwrcfg v s
  | .pwrCtl v => Sys2Proof.Machine.execPwrCtl v s
  | .registerWrite at_ v => Sys2Proof.Machine.execRegisterWrite at_ v s
  | .powerMeasurement watts near5 near10 => Sys2Proof.Machine.execPowerMeasurement watts near5 near10 s
  | .powerDownEntry p => Sys2Proof.Machine.execPowerDownEntry p s
  | .selfRefreshEntry p => Sys2Proof.Machine.execSelfRefreshEntry p s
  | .pseudoChannelWake p => Sys2Proof.Machine.execPseudoChannelWake p s
  | .pseudoChannelExitComplete p => Sys2Proof.Machine.execPseudoChannelExitComplete p s
  | .jobAccept q => Sys2Proof.Machine.execJobAccept q s
  | .nodeStart j k => Sys2Proof.Machine.execNodeStart j k s
  | .waitNodePoll j k => Sys2Proof.Machine.execWaitNodePoll j k s
  | .nodeFinish j k => Sys2Proof.Machine.execNodeFinish j k s
  | .packageReset => Sys2Proof.Machine.execPackageReset s
  | .linkTrainingTimeout link => Sys2Proof.Machine.execLinkTrainingTimeout link s
  | .linkAuthentication link whyA whyB => Sys2Proof.Machine.execLinkAuthentication link whyA whyB s
  | .surveyMessage die origin => Sys2Proof.Machine.execSurveyMessage die origin s
  | .surveyCollect => Sys2Proof.Machine.execSurveyCollect s
  | .podSurvey n peers => Sys2Proof.Machine.execPodSurvey n peers s
  | .linkLoss link => Sys2Proof.Machine.execLinkLoss link s
  | .vexlisDataFlit p seq ack ph intact => Sys2Proof.Machine.execVexlisDataFlit p seq ack ph intact s
  | .vexlisAckFlit p ack => Sys2Proof.Machine.execVexlisAckFlit p ack s
  | .vexlisReplayRequest p seq => Sys2Proof.Machine.execVexlisReplayRequest p seq s
  | .vexlisKeyRetire p seq ph => Sys2Proof.Machine.execVexlisKeyRetire p seq ph s
  | .vexlisIdleFlit p ack => Sys2Proof.Machine.execVexlisIdleFlit p ack s
  | .keyRollover p => Sys2Proof.Machine.execKeyRollover p s
  | .wavelengthLockLoss p w => Sys2Proof.Machine.execWavelengthLockLoss p w s
  | .wavelengthRetry p w locked => Sys2Proof.Machine.execWavelengthRetry p w locked s
  | .hostAtomicop kind pa bytes x y => Sys2Proof.Machine.execHostAtomicop kind pa bytes x y s
  | .hostBar2Write pa bytes => Sys2Proof.Machine.execHostBar2Write pa bytes s
  | .singleBitError cls die detail => Sys2Proof.Machine.execSingleBitError cls die detail s
  | .doubleBitError kind loc off detail => Sys2Proof.Machine.execDoubleBitError kind loc off detail s
  | .hbmRowSparing what spare => Sys2Proof.Machine.execHbmRowSparing what spare s
  | .carrierPowerLoss => Sys2Proof.Machine.execCarrierPowerLoss s
  | .packageRemoval pkg => Sys2Proof.Machine.execPackageRemoval pkg s
  | .storeAcknowledged c k => Sys2Proof.Machine.execStoreAcknowledged c k s
  | .dreadStart k => Sys2Proof.Machine.execDreadStart k s
  | .frHead v => Sys2Proof.Machine.execFrHead v s
  | .recoveryImageLoad ok => Sys2Proof.Machine.execRecoveryImageLoad ok s

end Sys2Proof.Machine
end

