-- ==== Sys2Proof/Machine/Step.lean ====
section
/-! DEFINITION. The step. -/

namespace Sys2Proof.Machine

/-- One step: a part of a cycle, a move of the environment, or the drawing of further moves (assumption 1). -/
def step (s : State) : Host.Outcome State Fault Refusal := s.advanceWith exec

/-- `s` with the instruction of a table word placed where the next step fetches and runs it (assumption 15). -/
def State.withFetchWord (s : State) (nbits w : Nat) : State :=
  s.place (bytesOfWord (BitVec.ofNat 32 (w % 2 ^ nbits)) ++ List.replicate 8 0) (placeStream (decodeTableWord nbits w))

end Sys2Proof.Machine
end

