-- ==== Sys2Proof/Safety.lean ====
section
/-! DEFINITION. The notions in which claims are stated: where a word stands, what a completed word leaves, the memories in canonical form. -/

namespace Sys2Proof.Machine

/-! ### Where a word stands -/

/-- Split `e` (0 to 3, or the trap entry 4) of gang `g` (now `y`) of resident unit `u` (now `x`) is about to issue a word with its lanes;
the word's checks have not been made yet. -/
structure State.AtSplit (s : State) (u g e : Nat) (x : Unit) (y : Gang) : Prop where
  stream : s.cur.stream = .split u g e
  unit : s.unit? u = some x
  gang : mfind x.gangs g = some y
  lanes : s.cur.mask = (y.entry e).mask
  some_lane : (y.entry e).mask ≠ 0
  first : s.cur.commit = false

/-- The lead of resident unit `u` (now `x`) is about to issue a word; the word's checks have not been made yet. -/
structure State.AtLead (s : State) (u : Nat) (x : Unit) : Prop where
  stream : s.cur.stream = .lead u
  unit : s.unit? u = some x
  one : s.cur.mask = 1
  first : s.cur.commit = false

/-- Register `n` has no uncorrectable error in a lane of `mk` (R318, R372). -/
def Gang.Good (y : Gang) (mk : DWord) (n : Nat) : Prop := ∀ l, mk.getLsbD l = true → 64 * n + l ∉ y.badRegs

/-- Register `n` holds in each lane of `mk` a value the word accepts: one of `tags`, or RAW (R18, R19), and no error; an F64 source is a pair. -/
def Gang.Tagged (y : Gang) (mk : DWord) (n : Nat) (tags : List Tag) : Prop :=
  (∀ l, mk.getLsbD l = true → y.tag n l = .raw ∨ y.tag n l ∈ tags) ∧ y.Good mk n ∧ (tags = [.f64] → y.Good mk (n + 1))

/-- No outstanding permute of these lanes writes one of the registers (R169). -/
def Gang.NoPermute (y : Gang) (mk : DWord) (dst : List Nat) : Prop :=
  ∀ o ∈ y.ops, o.mask &&& mk = 0 ∨ ∀ r ∈ o.kind.permuteDests, r ∉ dst

/-! ### What a completed word leaves -/

/-- A split after its word: it stands at the next place, with no idle cycles and not raised (R26, R42). -/
def Split.moved (p : Split) (c : Cursor) : Split := { p.awake with ip := c.nip, wd := c.nwd, idle := 0, raised := false }

/-- A lead after its word. -/
def Lead.moved (l : Lead) (c : Cursor) : Lead := { l with lip := c.nip, lwd := c.nwd, state := .running }

/-- The machine after a word of a split, when nothing but its gang has changed: every other field of the state, every other unit, and every other field of the
unit are as before. `fl`: the FP flags the word set. -/
def State.withGang (s : State) (u g : Nat) (x : Unit) (z : Gang) (fl : FpFlags := 0) : State :=
  { s with units := mput s.units u { x with gangs := mput x.gangs g z }, cur := { s.cur with verdict := .ok, flags := s.cur.flags ||| fl } }

/-- The machine after a word, when nothing but the unit has changed. -/
def State.withUnit (s : State) (u : Nat) (x : Unit) : State :=
  { s with units := mput s.units u x, cur := { s.cur with verdict := .ok } }

/-- A gang after a word of split `e`: only registers and that split's own place and flags have changed. -/
structure GangMoved (s : State) (e : Nat) (y z : Gang) (fl : FpFlags := 0) : Prop where
  frame : z = { y with regs := z.regs, split := z.split }
  entry : z.entry e = { (y.entry e).moved s.cur with fpflags := (y.entry e).fpflags ||| fl }
  others : ∀ k, k ≠ e → z.entry k = y.entry k

/-- The word `i` of a split completes and its only effect is the register contents `r` of its gang. -/
def SplitDone (i : Instr) (s : State) (u g e : Nat) (x : Unit) (y : Gang) (r : GangRegs) : Prop :=
  ∃ z, exec i s = .next (s.withGang u g x z) ∧ GangMoved s e y z ∧ z.regs = r

/-- The word `i` of the lead completes and its only effect is that the lead context is `l` (before it moves to the next place). -/
def LeadDone (i : Instr) (s : State) (u : Nat) (x : Unit) (l : Lead) : Prop :=
  exec i s = .next (s.withUnit u { x with lead := l.moved s.cur })

/-- The word `i` of a split completes, the split going to word 0 of packet `ip`; its only other effect is the register contents `r`. -/
def SplitJumps (i : Instr) (s : State) (u g e : Nat) (x : Unit) (y : Gang) (ip : Word) (r : GangRegs) : Prop :=
  ∃ z, exec i s = .next ((s.jump ip).withGang u g x z) ∧ GangMoved (s.jump ip) e y z ∧ z.regs = r

/-- The word `i` of the lead completes, the lead going to word 0 of packet `ip`; its only other effect is the lead context `l`. -/
def LeadJumps (i : Instr) (s : State) (u : Nat) (x : Unit) (ip : Word) (l : Lead) : Prop :=
  exec i s = .next ((s.jump ip).withUnit u { x with lead := l.moved (s.jump ip).cur })

/-- The word `i` completes: it has the effect `f`, and its stream moves to the next place. -/
def Completes (i : Instr) (s : State) (f : State → State) : Prop := exec i s = .next (f (s.answered .ok)).advance

/-- The word waits: its stream stands at it, waiting, and nothing else has changed (R22, R144). -/
def Waits (i : Instr) (s : State) : Prop := exec i s = .next s.blocked

/-- Vector registers after a word: register `n` of an active lane `l` holds `val n l` where that names a value; all others are as before. -/
def LanesWritten (mk : DWord) (old new : GangRegs) (val : Nat → Nat → Option VReg) : Prop :=
  new.s = old.s ∧ new.m = old.m ∧
    ∀ n l, l < 64 → mget {} new.v (64 * n + l) = if mk.getLsbD l then (val n l).getD (mget {} old.v (64 * n + l)) else mget {} old.v (64 * n + l)

/-- The registers in error after a word wrote `val` in the lanes of `mk`: a register written holds a value again (R372). -/
def Gang.mended (y : Gang) (mk : DWord) (val : Nat → Nat → Option VReg) : List Nat :=
  y.badRegs.filter fun k => !(mk.getLsbD (k % 64) && (val (k / 64) (k % 64)).isSome)

/-- FP flags of all the active lanes together (R152). -/
def flagsOver (mk : DWord) (f : Nat → FpFlags) : FpFlags := (lanesOf mk).foldl (fun b l => b ||| f l) 0

/-- The vector word `i` of a split completes: in each active lane it writes `val` and sets the flags `fl`; nothing else changes. -/
def VectorDone (i : Instr) (s : State) (u g e : Nat) (x : Unit) (y : Gang) (val : Nat → Nat → Option VReg) (fl : Nat → FpFlags := fun _ => 0) : Prop :=
  ∃ z, exec i s = .next (s.withGang u g x z (flagsOver s.cur.mask fl)) ∧ GangMoved s e { y with badRegs := y.mended s.cur.mask val } z (flagsOver s.cur.mask fl) ∧
    LanesWritten s.cur.mask y.regs z.regs val

/-- One register gets a value. -/
def oneReg (d : Nat) (v : Nat → VReg) : Nat → Nat → Option VReg := fun n l => if n = d then some (v l) else none

/-- An even pair gets a 64-bit value: F64 in the even register, RAW in the odd one (R14). -/
def pairRegs (d : Nat) (v : Nat → Nat) : Nat → Nat → Option VReg := fun n l =>
  if n = d then some ⟨BitVec.ofNat 32 (v l), .f64⟩ else if n = d + 1 then some ⟨BitVec.ofNat 32 (v l / 2 ^ 32), .raw⟩ else none

/-- A word of split `e` has left operation `o`, of counter `cls`, outstanding: its results come later (R27). Registers are as before. -/
structure OpIssued (s : State) (e : Nat) (y z : Gang) (o : Op) (cls : Cls) (fl : FpFlags := 0) : Prop where
  frame : z = { y with ops := retire (y.ops ++ [o]), split := z.split }
  entry : z.entry e = { (y.entry e).moved s.cur with
    fpflags := (y.entry e).fpflags ||| fl
    vm := if cls = .vm then ((y.entry e).vm.filter fun n => y.ops.any (·.id == n)) ++ [s.nextId] else (y.entry e).vm
    sp := if cls = .vm then (y.entry e).sp else ((y.entry e).sp.filter fun n => y.ops.any (·.id == n)) ++ [s.nextId] }
  others : ∀ k, k ≠ e → z.entry k = y.entry k
  op : o.id = s.nextId ∧ o.cls = cls ∧ o.mask = s.cur.mask ∧ o.lanes = s.cur.mask

/-- The machine after a word that left an operation outstanding. -/
def State.withOp (s : State) (u g : Nat) (x : Unit) (z : Gang) (fl : FpFlags := 0) : State :=
  { s.withGang u g x z fl with nextId := s.nextId + 1 }

/-- The word `i` of the split traps: every lane in `fs` enters the trap entry, or waits for it (R313), and the word has no other effect. -/
def Traps (i : Instr) (s : State) (fs : List LaneFault) : Prop := exec i s = .next ((s.answered (.trap fs)).takeTrap fs)

/-- Gang `z` is gang `y` after `Trap` for the faults `fs` of split `e`, one fault a lane, with the trap entry free (R313, R312). -/
structure TrapTaken (s : State) (e : Nat) (y z : Gang) (fs : List LaneFault) : Prop where
  frame : z = { y with
    split := z.split
    tcode := z.tcode
    tip := s.cur.ip
    twd := s.cur.wd
    tmask := z.tmask
    taddr := z.taddr
    late := y.late.filter fun f => !z.tmask.getLsbD f.lane }
  code : ∀ f ∈ fs, (∀ k ∈ fs, f.lane ≤ k.lane) → z.tcode.toNat = f.code.code
  lanes : ∀ l, z.tmask.getLsbD l = ((y.entry e).mask.getLsbD l && fs.any fun f => f.lane == l)
  addr : ∀ l, mget 0 z.taddr l = match fs.find? fun f => f.lane == l with
    | some f => f.addr
    | none => mget 0 y.taddr l
  handler : z.entry 4 = {
    mask := z.tmask
    ip := s.ctx.thip
    wd := 0
    state := .trap
    vm := y.gvm
    sp := y.gsp
    fpctl := (y.entry e).fpctl
    fpflags := (y.entry e).fpflags }
  rest : z.entry e = if (y.entry e).mask &&& ~~~z.tmask = 0 then {} else { (y.entry e).awake with mask := (y.entry e).mask &&& ~~~z.tmask }
  others : ∀ k, k ≠ e → k ≠ 4 → z.entry k = y.entry k

/-! ### Memory -/

/-- Device memory, host memory and Miryen's own are in canonical form: addresses strictly rising, nothing listed that equals what an unlisted address reads as. -/
def State.memOk (s : State) : Prop := s.mem.wf = true ∧ s.hostMem.wf = true ∧ s.firm.wf = true

/-- No byte of device memory, of host memory or of a scratchpad differs. -/
def SameBytes (s t : State) : Prop :=
  (∀ a, t.mem.read a = s.mem.read a) ∧ (∀ a, t.hostMem.read a = s.hostMem.read a) ∧
    ∀ c off, mget 0 (t.core c).spad off = mget 0 (s.core c).spad off

end Sys2Proof.Machine
end

