-- ==== Sys2Proof/Certificates/Slice0/Obligations.lean ====
section
/-! DEFINITION. The statements for the provers. Each docstring names the rules of spec/ it formalises, or the log entry where a clause is the model's choice. -/

namespace Sys2Proof.Machine

/-! ### Scalar words: the table of R129, R130 and R60 -/

/-- Zero bits above the highest set bit, 64 of zero (R129). -/
def leadingZeros (w : Nat) (x : Nat) : Nat := ((List.range w).reverse.takeWhile fun k => !x.testBit k).length

/-- The number of set bits of the low `w` (R129). -/
def setBits (w : Nat) (x : Nat) : Nat := (List.range w).countP fun k => x.testBit k

/-- A comparison writes 1 when true and 0 when false (R129). -/
def truth (p : Prop) [Decidable p] : DWord := if p then 1 else 0

/-- A scalar word of two sources: destination, sources, effect (R129). -/
def scalarTwo : Instr → Option (BitVec 6 × BitVec 6 × BitVec 6 × (DWord → DWord → DWord))
  | .add d a b => some (d, a, b, fun x y => BitVec.ofNat 64 (x.toNat + y.toNat))
  | .sub d a b => some (d, a, b, fun x y => BitVec.ofInt 64 ((x.toNat : Int) - y.toNat))
  | .mul d a b => some (d, a, b, fun x y => BitVec.ofNat 64 (x.toNat * y.toNat))
  | .mulhiI64 d a b => some (d, a, b, fun x y => (x.signExtend 128 * y.signExtend 128).extractLsb' 64 64)
  | .mulhiN64 d a b => some (d, a, b, fun x y => (x.setWidth 128 * y.setWidth 128).extractLsb' 64 64)
  | .and d a b => some (d, a, b, fun x y => x &&& y)
  | .or d a b => some (d, a, b, fun x y => x ||| y)
  | .xor d a b => some (d, a, b, fun x y => x ^^^ y)
  | .shl d a b => some (d, a, b, fun x y => BitVec.ofNat 64 (x.toNat * 2 ^ (y.toNat % 64)))
  | .shr d a b => some (d, a, b, fun x y => BitVec.ofNat 64 (x.toNat / 2 ^ (y.toNat % 64)))
  | .sar d a b => some (d, a, b, fun x y => BitVec.ofInt 64 (x.toInt / 2 ^ (y.toNat % 64)))
  | .minI64 d a b => some (d, a, b, fun x y => if x.toInt ≤ y.toInt then x else y)
  | .minN64 d a b => some (d, a, b, fun x y => if x.toNat ≤ y.toNat then x else y)
  | .maxI64 d a b => some (d, a, b, fun x y => if x.toInt ≤ y.toInt then y else x)
  | .maxN64 d a b => some (d, a, b, fun x y => if x.toNat ≤ y.toNat then y else x)
  | .seq d a b => some (d, a, b, fun x y => truth (x = y))
  | .sltI64 d a b => some (d, a, b, fun x y => truth (x.toInt < y.toInt))
  | .sltN64 d a b => some (d, a, b, fun x y => truth (x.toNat < y.toNat))
  | _ => none

/-- A scalar word of one source, with its immediate (R129, R130); LDIH reads its destination, LDI a register it does not use (R60). -/
def scalarOne : Instr → Option (BitVec 6 × BitVec 6 × (DWord → DWord))
  | .mov d a => some (d, a, fun x => x)
  | .popc d a => some (d, a, fun x => BitVec.ofNat 64 (setBits 64 x.toNat))
  | .clz d a => some (d, a, fun x => BitVec.ofNat 64 (leadingZeros 64 x.toNat))
  | .addi d a n => some (d, a, fun x => BitVec.ofInt 64 (x.toNat + n.toInt))
  | .andi d a n => some (d, a, fun x => x &&& n.signExtend 64)
  | .ori d a n => some (d, a, fun x => x ||| n.signExtend 64)
  | .xori d a n => some (d, a, fun x => x ^^^ n.signExtend 64)
  | .shli d a n => some (d, a, fun x => BitVec.ofNat 64 (x.toNat * 2 ^ n.toNat))
  | .shri d a n => some (d, a, fun x => BitVec.ofNat 64 (x.toNat / 2 ^ n.toNat))
  | .sari d a n => some (d, a, fun x => BitVec.ofInt 64 (x.toInt / 2 ^ n.toNat))
  | .seqi d a n => some (d, a, fun x => truth (x = n.signExtend 64))
  | .sltiI64 d a n => some (d, a, fun x => truth (x.toInt < n.toInt))
  | .sltiN64 d a n => some (d, a, fun x => truth (x.toNat < (n.signExtend 64).toNat))
  | .ldi d k n => some (d, d, fun _ => BitVec.ofInt 64 (n.toInt * 2 ^ (16 * k.toNat)))
  | .ldih d k n => some (d, d, fun x => BitVec.ofNat 64
      (x.toNat % 2 ^ (16 * k.toNat) + n.toNat * 2 ^ (16 * k.toNat) + x.toNat / 2 ^ (16 * k.toNat + 16) * 2 ^ (16 * k.toNat + 16)))
  | _ => none

/-- Word `i` writes `d` with `f` of the registers `a` and `b`: in a gang, where the registers are below the declared count, and in the lead, where they are below 32.
Nothing else of the machine changes but the stream's place; `setH` discards a write of h0, `H` reads it as zero (R9). -/
def ScalarTwoDone (i : Instr) (d a b : BitVec 6) (f : DWord → DWord → DWord) : Prop :=
  (∀ s u g e x y, s.AtSplit u g e x y → d.toNat < x.kte.sregs → a.toNat < x.kte.sregs → b.toNat < x.kte.sregs →
    SplitDone i s u g e x y { y.regs with s := mset 0 y.regs.s d.toNat (f (y.S a.toNat) (y.S b.toNat)) }) ∧
  (∀ s u x, s.AtLead u x → d.toNat < 32 → a.toNat < 32 → b.toNat < 32 →
    LeadDone i s u x (x.lead.setH d.toNat (f (x.lead.H a.toNat) (x.lead.H b.toNat))))

/-- The same of a word with one source register. -/
def ScalarOneDone (i : Instr) (d a : BitVec 6) (f : DWord → DWord) : Prop :=
  (∀ s u g e x y, s.AtSplit u g e x y → d.toNat < x.kte.sregs → a.toNat < x.kte.sregs →
    SplitDone i s u g e x y { y.regs with s := mset 0 y.regs.s d.toNat (f (y.S a.toNat)) }) ∧
  (∀ s u x, s.AtLead u x → d.toNat < 32 → a.toNat < 32 → LeadDone i s u x (x.lead.setH d.toNat (f (x.lead.H a.toNat))))

end Sys2Proof.Machine

open Sys2Proof Sys2Proof.Machine

/-- R129: a SALU word of two sources writes `d` with the table's result, in a gang and in the lead. -/
def Sys2Proof.Machine.ScalarTwoSources : Prop := ∀ (i : Instr) (d a b : BitVec 6) (f : DWord → DWord → DWord), scalarTwo i = some (d, a, b, f) → ScalarTwoDone i d a b f

/-- R129, R130, R60: a scalar word of one source or an immediate writes `d` with the table's result, in a gang and in the lead. -/
def Sys2Proof.Machine.ScalarOneSource : Prop := ∀ (i : Instr) (d a : BitVec 6) (f : DWord → DWord), scalarOne i = some (d, a, f) → ScalarOneDone i d a f

/-- R129, R130, R60: a scalar word writes its destination with the result of the tables, in a gang and in the lead, and changes nothing else. -/
def Obligations.ScalarArithmetic : Prop := ScalarTwoSources ∧ ScalarOneSource
namespace Sys2Proof.Machine

/-! ### Vector words -/

/-- What a vector word does in its active lanes: the registers it writes, its vector sources with the tags they accept, its scalar sources,
the register values it leaves and the flags it sets in a lane. -/
structure VectorRow where
  dst : List Nat
  srcs : List (Nat × List Tag)
  ss : List Nat := []
  val : State → Gang → Nat → Nat → Option VReg
  fl : State → Gang → Nat → FpFlags := fun _ _ _ => 0

/-- The word completes with the row's effect and no other, where its registers are declared, its sources carry accepted tags, and no outstanding
permute writes a destination (R153, R154, R156, R169). -/
def VectorRow.Done (r : VectorRow) (i : Instr) : Prop :=
  ∀ s u g e x y, s.AtSplit u g e x y → (∀ n ∈ r.dst, n < x.kte.vregs) → (∀ p ∈ r.srcs, p.1 < x.kte.vregs) → (∀ n ∈ r.ss, n < x.kte.sregs) →
    y.NoPermute s.cur.mask r.dst → (∀ p ∈ r.srcs, y.Tagged s.cur.mask p.1 p.2) → VectorDone i s u g e x y (r.val s y) (r.fl s y)

/-- I32 and N32. -/
def integerTags : List Tag := [.i32, .n32]

/-- A word of two sources and one destination that sets no flag. -/
def rowTwo (d a b : BitVec 7) (ta tb : List Tag) (tag : Tag) (f : Word → Word → Word) : VectorRow where
  dst := [d.toNat]
  srcs := [(a.toNat, ta), (b.toNat, tb)]
  val _ y := oneReg d.toNat fun l => ⟨f (y.V a.toNat l) (y.V b.toNat l), tag⟩

/-- A word of one source and one destination that sets no flag. -/
def rowOne (d a : BitVec 7) (ta : List Tag) (tag : Tag) (f : Word → Word) : VectorRow where
  dst := [d.toNat]
  srcs := [(a.toNat, ta)]
  val _ y := oneReg d.toNat fun l => ⟨f (y.V a.toNat l), tag⟩

/-- Saturation to the signed and unsigned 32-bit range (R93). -/
def saturateI (x : Int) : Word := BitVec.ofInt 32 (if x < -2147483648 then -2147483648 else if 2147483647 < x then 2147483647 else x)
def saturateN (x : Int) : Word := BitVec.ofInt 32 (if x < 0 then 0 else if 4294967295 < x then 4294967295 else x)

/-- The table of R157. -/
def vintRow : Instr → Option VectorRow
  | .vaddI32 d a b => some (rowTwo d a b integerTags integerTags .i32 fun x y => BitVec.ofNat 32 (x.toNat + y.toNat))
  | .vaddN32 d a b => some (rowTwo d a b integerTags integerTags .n32 fun x y => BitVec.ofNat 32 (x.toNat + y.toNat))
  | .vsubI32 d a b => some (rowTwo d a b integerTags integerTags .i32 fun x y => BitVec.ofInt 32 (x.toInt - y.toInt))
  | .vsubN32 d a b => some (rowTwo d a b integerTags integerTags .n32 fun x y => BitVec.ofInt 32 ((x.toNat : Int) - y.toNat))
  | .vmulI32 d a b => some (rowTwo d a b integerTags integerTags .i32 fun x y => BitVec.ofNat 32 (x.toNat * y.toNat))
  | .vmulN32 d a b => some (rowTwo d a b integerTags integerTags .n32 fun x y => BitVec.ofNat 32 (x.toNat * y.toNat))
  | .vmulhiI32 d a b => some (rowTwo d a b integerTags integerTags .i32 fun x y => (x.signExtend 64 * y.signExtend 64).extractLsb' 32 32)
  | .vmulhiN32 d a b => some (rowTwo d a b integerTags integerTags .n32 fun x y => (x.setWidth 64 * y.setWidth 64).extractLsb' 32 32)
  | .vaddsI32 d a b => some (rowTwo d a b integerTags integerTags .i32 fun x y => saturateI (x.toInt + y.toInt))
  | .vaddsN32 d a b => some (rowTwo d a b integerTags integerTags .n32 fun x y => saturateN ((x.toNat : Int) + y.toNat))
  | .vsubsI32 d a b => some (rowTwo d a b integerTags integerTags .i32 fun x y => saturateI (x.toInt - y.toInt))
  | .vsubsN32 d a b => some (rowTwo d a b integerTags integerTags .n32 fun x y => saturateN ((x.toNat : Int) - y.toNat))
  | .vminI32 d a b => some (rowTwo d a b integerTags integerTags .i32 fun x y => if x.toInt ≤ y.toInt then x else y)
  | .vminN32 d a b => some (rowTwo d a b integerTags integerTags .n32 fun x y => if x.toNat ≤ y.toNat then x else y)
  | .vmaxI32 d a b => some (rowTwo d a b integerTags integerTags .i32 fun x y => if x.toInt ≤ y.toInt then y else x)
  | .vmaxN32 d a b => some (rowTwo d a b integerTags integerTags .n32 fun x y => if x.toNat ≤ y.toNat then y else x)
  | .vandB32 d a b => some (rowTwo d a b anyTag anyTag .raw fun x y => x &&& y)
  | .vorB32 d a b => some (rowTwo d a b anyTag anyTag .raw fun x y => x ||| y)
  | .vxorB32 d a b => some (rowTwo d a b anyTag anyTag .raw fun x y => x ^^^ y)
  | .vnotB32 d a => some (rowOne d a anyTag .raw fun x => ~~~x)
  | .vshlB32 d a b => some (rowTwo d a b anyTag integerTags .raw fun x y => BitVec.ofNat 32 (x.toNat * 2 ^ (y.toNat % 32)))
  | .vshrN32 d a b => some (rowTwo d a b integerTags integerTags .n32 fun x y => BitVec.ofNat 32 (x.toNat / 2 ^ (y.toNat % 32)))
  | .vshrI32 d a b => some (rowTwo d a b integerTags integerTags .i32 fun x y => BitVec.ofInt 32 (x.toInt / 2 ^ (y.toNat % 32)))
  | .vpopcB32 d a => some (rowOne d a anyTag .n32 fun x => BitVec.ofNat 32 (setBits 32 x.toNat))
  | .vclzB32 d a => some (rowOne d a anyTag .n32 fun x => BitVec.ofNat 32 (leadingZeros 32 x.toNat))
  | _ => none

/-! ### Floating point (R158, R159) -/

/-- `Round(x, fmt, Mode())` of an exact result, with the flags of R83 and of the operation. -/
def roundedResult (f : Fmt) (v : FpEnv) (srcs : List Nat) (x : Exact × FpFlags) : Rounded :=
  ⟨(round f v.mode v.ftz x.1).bits, (round f v.mode v.ftz x.1).flags ||| x.2 ||| snanFlags f srcs⟩

/-- A number below another, −0 below +0 (R158). -/
def numberBelow (f : Fmt) (a b : Nat) : Bool :=
  exactLt (f.value a) (f.value b) || (f.value a == .zero true && f.value b == .zero false)

/-- VMIN and VMAX as R158 sets them out after its table. -/
def minMaxResult (f : Fmt) (max : Bool) (v : FpEnv) (a b : Nat) : Rounded :=
  let read := fun x => if v.ftz && f.isSubnormal x then f.signed (f.sign x) 0 else x
  let x := read a
  let y := read b
  ⟨if f.isNan x then (if f.isNan y then f.nan else y) else if f.isNan y then x else if numberBelow f x y = max then y else x, snanFlags f [a, b]⟩

/-- The fused forms: the product, negated when `np`, plus the addend, negated when `nd`, rounded once (R158). -/
def fusedResult (f : Fmt) (np nd : Bool) (v : FpEnv) (a b d : Nat) : Rounded :=
  let p := exactMul (f.source v.ftz a) (f.source v.ftz b)
  let c := f.source v.ftz d
  let t := exactAdd v.mode (if np then p.1.neg else p.1) (if nd then c.neg else c)
  roundedResult f v [a, b, d] (t.1, p.2 ||| t.2)

/-- The sources of a floating-point word, `d` among them in the fused forms, and its effect on them (the table of R158). -/
def floatOp (f : Fmt) (d a b : BitVec 7) : Nat → List (BitVec 7) × (FpEnv → List Nat → Rounded)
  | 0 => ([a, b], fun v xs => roundedResult f v [xs[0]!, xs[1]!] (exactAdd v.mode (f.source v.ftz xs[0]!) (f.source v.ftz xs[1]!)))
  | 1 => ([a, b], fun v xs => roundedResult f v [xs[0]!, xs[1]!] (exactAdd v.mode (f.source v.ftz xs[0]!) (f.source v.ftz xs[1]!).neg))
  | 2 => ([a, b], fun v xs => roundedResult f v [xs[0]!, xs[1]!] (exactMul (f.source v.ftz xs[0]!) (f.source v.ftz xs[1]!)))
  | 3 => ([a, b], fun v xs => minMaxResult f false v xs[0]! xs[1]!)
  | 4 => ([a, b], fun v xs => minMaxResult f true v xs[0]! xs[1]!)
  | 5 => ([a, b, d], fun v xs => fusedResult f false false v xs[0]! xs[1]! xs[2]!)
  | 6 => ([a, b, d], fun v xs => fusedResult f false true v xs[0]! xs[1]! xs[2]!)
  | 7 => ([a, b, d], fun v xs => fusedResult f true false v xs[0]! xs[1]! xs[2]!)
  | 8 => ([a, b, d], fun v xs => fusedResult f true true v xs[0]! xs[1]! xs[2]!)
  | 9 => ([a], fun _ xs => ⟨xs[0]! % 2 ^ (f.ew + f.fw), 0⟩)
  | _ => ([a], fun _ xs => ⟨xs[0]! ^^^ 2 ^ (f.ew + f.fw), 0⟩)

/-- A VF32 word of sub-opcode `op`. -/
def f32Row (d a b : BitVec 7) (op : Nat) : VectorRow :=
  let p := floatOp fmtF32 d a b op
  let out := fun (s : State) (y : Gang) (l : Nat) => p.2 s.fpEnv (p.1.map fun r => (y.V r.toNat l).toNat)
  { dst := [d.toNat]
    srcs := p.1.map fun r => (r.toNat, [.f32])
    val := fun s y => oneReg d.toNat fun l => ⟨BitVec.ofNat 32 (out s y l).bits, .f32⟩
    fl := fun s y l => (out s y l).flags }

/-- A VF64 word: sources and destination are even pairs. -/
def f64Row (d a b : BitVec 7) (op : Nat) : VectorRow :=
  let p := floatOp fmtF64 d a b op
  let out := fun (s : State) (y : Gang) (l : Nat) => p.2 s.fpEnv (p.1.map fun r => (y.V r.toNat l).toNat + 2 ^ 32 * (y.V (r.toNat + 1) l).toNat)
  { dst := [d.toNat, d.toNat + 1]
    srcs := p.1.map fun r => (r.toNat, [.f64])
    val := fun s y => pairRegs d.toNat fun l => (out s y l).bits
    fl := fun s y l => (out s y l).flags }

/-- A VHALF word: the operation on each element by itself; `ftz` does not act on these formats (R88, R159). -/
def halfRow (f : Fmt) (tag : Tag) (d a b : BitVec 7) (op : Nat) : VectorRow :=
  let p := floatOp f d a b op
  let out := fun (s : State) (y : Gang) (l k : Nat) => p.2 ⟨s.cur.fpctl.setWidth 2, false⟩ (p.1.map fun r => (y.V r.toNat l).toNat / 65536 ^ k % 65536)
  { dst := [d.toNat]
    srcs := p.1.map fun r => (r.toNat, [tag])
    val := fun s y => oneReg d.toNat fun l => ⟨BitVec.ofNat 32 ((out s y l 0).bits + 65536 * (out s y l 1).bits), tag⟩
    fl := fun s y l => (out s y l 0).flags ||| (out s y l 1).flags }

/-- The words of R158 and R159. -/
def floatRow : Instr → Option VectorRow
  | .vaddF32 d a b => some (f32Row d a b 0)
  | .vsubF32 d a b => some (f32Row d a b 1)
  | .vmulF32 d a b => some (f32Row d a b 2)
  | .vminF32 d a b => some (f32Row d a b 3)
  | .vmaxF32 d a b => some (f32Row d a b 4)
  | .vfmaF32 d a b => some (f32Row d a b 5)
  | .vfmsF32 d a b => some (f32Row d a b 6)
  | .vfnmaF32 d a b => some (f32Row d a b 7)
  | .vfnmsF32 d a b => some (f32Row d a b 8)
  | .vabsF32 d a => some (f32Row d a 0 9)
  | .vnegF32 d a => some (f32Row d a 0 10)
  | .vaddF64 d a b => some (f64Row d a b 0)
  | .vsubF64 d a b => some (f64Row d a b 1)
  | .vmulF64 d a b => some (f64Row d a b 2)
  | .vminF64 d a b => some (f64Row d a b 3)
  | .vmaxF64 d a b => some (f64Row d a b 4)
  | .vfmaF64 d a b => some (f64Row d a b 5)
  | .vfmsF64 d a b => some (f64Row d a b 6)
  | .vfnmaF64 d a b => some (f64Row d a b 7)
  | .vfnmsF64 d a b => some (f64Row d a b 8)
  | .vabsF64 d a => some (f64Row d a 0 9)
  | .vnegF64 d a => some (f64Row d a 0 10)
  | .vaddBf16 d a b => some (halfRow fmtBF16 .bf16x2 d a b 0)
  | .vsubBf16 d a b => some (halfRow fmtBF16 .bf16x2 d a b 1)
  | .vmulBf16 d a b => some (halfRow fmtBF16 .bf16x2 d a b 2)
  | .vminBf16 d a b => some (halfRow fmtBF16 .bf16x2 d a b 3)
  | .vmaxBf16 d a b => some (halfRow fmtBF16 .bf16x2 d a b 4)
  | .vfmaBf16 d a b => some (halfRow fmtBF16 .bf16x2 d a b 5)
  | .vfmsBf16 d a b => some (halfRow fmtBF16 .bf16x2 d a b 6)
  | .vfnmaBf16 d a b => some (halfRow fmtBF16 .bf16x2 d a b 7)
  | .vfnmsBf16 d a b => some (halfRow fmtBF16 .bf16x2 d a b 8)
  | .vabsBf16 d a => some (halfRow fmtBF16 .bf16x2 d a 0 9)
  | .vnegBf16 d a => some (halfRow fmtBF16 .bf16x2 d a 0 10)
  | .vaddF16 d a b => some (halfRow fmtF16 .f16x2 d a b 0)
  | .vsubF16 d a b => some (halfRow fmtF16 .f16x2 d a b 1)
  | .vmulF16 d a b => some (halfRow fmtF16 .f16x2 d a b 2)
  | .vminF16 d a b => some (halfRow fmtF16 .f16x2 d a b 3)
  | .vmaxF16 d a b => some (halfRow fmtF16 .f16x2 d a b 4)
  | .vfmaF16 d a b => some (halfRow fmtF16 .f16x2 d a b 5)
  | .vfmsF16 d a b => some (halfRow fmtF16 .f16x2 d a b 6)
  | .vfnmaF16 d a b => some (halfRow fmtF16 .f16x2 d a b 7)
  | .vfnmsF16 d a b => some (halfRow fmtF16 .f16x2 d a b 8)
  | .vabsF16 d a => some (halfRow fmtF16 .f16x2 d a 0 9)
  | .vnegF16 d a => some (halfRow fmtF16 .f16x2 d a 0 10)
  | _ => none

/-! ### Special functions, select, conversions, moves -/

/-- The words of R165: VSQRT correctly rounded, the others with the device's choice within the accuracy (assumption 12). -/
def sfuRow : Instr → Option VectorRow
  | .vrcpF32 d a => some (row d a fun s x => s.approximated 0 x)
  | .vrsqF32 d a => some (row d a fun s x => s.approximated 1 x)
  | .vsqrtF32 d a => some (row d a fun s x => fpSqrt s.fpEnv x)
  | .vexp2F32 d a => some (row d a fun s x => s.approximated 3 x)
  | .vlog2F32 d a => some (row d a fun s x => s.approximated 4 x)
  | .vsinF32 d a => some (row d a fun s x => s.approximated 5 x)
  | .vcosF32 d a => some (row d a fun s x => s.approximated 6 x)
  | .vtanhF32 d a => some (row d a fun s x => s.approximated 7 x)
  | _ => none
where
  row (d a : BitVec 7) (f : State → Nat → Rounded) : VectorRow :=
    { dst := [d.toNat]
      srcs := [(a.toNat, [.f32])]
      val := fun s y => oneReg d.toNat fun l => ⟨BitVec.ofNat 32 (f s (y.V a.toNat l).toNat).bits, .f32⟩
      fl := fun s y l => (f s (y.V a.toNat l).toNat).flags }

/-- The value of VSFU where R166 and R167 give it: function by sub-opcode, source as read. -/
def sfuSpecial : Nat → Exact → Option Rounded
  | 0, .zero n => some ⟨if n then 0xFF800000 else 0x7F800000, flagDz⟩
  | 0, .inf n => some ⟨if n then 0x80000000 else 0, 0⟩
  | 1, .zero n => some ⟨if n then 0xFF800000 else 0x7F800000, flagDz⟩
  | 1, .inf n => some (if n then ⟨0x7FC00000, flagNv⟩ else ⟨0, 0⟩)
  | 1, .real true _ _ => some ⟨0x7FC00000, flagNv⟩
  | 3, .zero _ => some ⟨0x3F800000, 0⟩
  | 3, .inf n => some ⟨if n then 0 else 0x7F800000, 0⟩
  | 4, .zero _ => some ⟨0xFF800000, flagDz⟩
  | 4, .inf n => some (if n then ⟨0x7FC00000, flagNv⟩ else ⟨0x7F800000, 0⟩)
  | 4, .real true _ _ => some ⟨0x7FC00000, flagNv⟩
  | 5, .zero n => some ⟨if n then 0x80000000 else 0, 0⟩
  | 5, .inf _ => some ⟨0x7FC00000, flagNv⟩
  | 5, .real _ m e => if 2 ^ 18 * 2 ^ (-e).toNat ≤ m * 2 ^ e.toNat then some ⟨0x7FC00000, flagRg⟩ else none
  | 6, .zero _ => some ⟨0x3F800000, 0⟩
  | 6, .inf _ => some ⟨0x7FC00000, flagNv⟩
  | 6, .real _ m e => if 2 ^ 18 * 2 ^ (-e).toNat ≤ m * 2 ^ e.toNat then some ⟨0x7FC00000, flagRg⟩ else none
  | 7, .zero n => some ⟨if n then 0x80000000 else 0, 0⟩
  | 7, .inf n => some ⟨if n then 0xBF800000 else 0x3F800000, 0⟩
  | _, _ => none

/-- VSEL, MOV, RETAG and VMOVS (R161, R164). -/
def moveRow : Instr → Option VectorRow
  | .vsel d a b mk => some
    { dst := [d.toNat], srcs := [(a.toNat, anyTag), (b.toNat, anyTag)]
      val := fun _ y => oneReg d.toNat fun l => if (y.M mk.toNat).getLsbD l then y.VR a.toNat l else y.VR b.toNat l }
  | .vcvtMov d a => some { dst := [d.toNat], srcs := [(a.toNat, anyTag)], val := fun _ y => oneReg d.toNat fun l => y.VR a.toNat l }
  | .retag d a tag => some
    { dst := if tag = 2 then [d.toNat, d.toNat + 1] else [d.toNat], srcs := (a.toNat, anyTag) :: if tag = 2 then [(a.toNat + 1, anyTag)] else []
      val := fun _ y => if tag = 2 then pairRegs d.toNat fun l => (y.V a.toNat l).toNat + 2 ^ 32 * (y.V (a.toNat + 1) l).toNat
        else oneReg d.toNat fun l => ⟨y.V a.toNat l, Tag.ofCode tag.toNat⟩ }
  | .vmovs d a tag => some
    { dst := if tag = 2 then [d.toNat, d.toNat + 1] else [d.toNat], srcs := [], ss := [a.toNat]
      val := fun _ y => if tag = 2 then pairRegs d.toNat fun _ => (y.S a.toNat).toNat
        else oneReg d.toNat fun _ => ⟨BitVec.ofNat 32 (y.S a.toNat).toNat, Tag.ofCode tag.toNat⟩ }
  | _ => none

/-- A conversion of R162: how many elements, bits of a source element and of a destination element, tags, and what becomes of one element. -/
structure CvtForm where
  n : Nat
  from' : Nat
  width : Nat
  accepts : Tag
  tag : Tag
  conv : FpEnv → Nat → Rounded

/-- A float to an integer of 32 bits in the range `lo` to `hi` (R94). -/
def cvtInteger (f : Fmt) (mode : Mode) (ftz : Bool) (lo hi : Int) (x : Nat) : Rounded :=
  let r := toInteger mode lo hi (f.source ftz x)
  ⟨(BitVec.ofInt 32 r.1).toNat, r.2 ||| snanFlags f [x]⟩

/-- An integer saturated to `lo` to `hi` in `w` bits. -/
def cvtSaturate (w : Nat) (lo hi : Int) (x : Nat) : Rounded :=
  ⟨(BitVec.ofInt w (max lo (min hi (BitVec.ofNat 32 x).toInt))).toNat, 0⟩

/-- The table of R162, with `ftz` read by the codes it names. -/
def cvtForm : Nat → Option CvtForm
  | 0x00 => some ⟨1, 32, 64, .f32, .f64, fun v => fpConvert fmtF32 fmtF64 v.mode v.ftz false⟩
  | 0x01 => some ⟨1, 64, 32, .f64, .f32, fun v => fpConvert fmtF64 fmtF32 v.mode v.ftz v.ftz⟩
  | 0x02 => some ⟨2, 32, 16, .f32, .bf16x2, fun v => fpConvert fmtF32 fmtBF16 v.mode false false⟩
  | 0x03 => some ⟨2, 32, 16, .f32, .f16x2, fun v => fpConvert fmtF32 fmtF16 v.mode false false⟩
  | 0x04 => some ⟨2, 16, 32, .bf16x2, .f32, fun v => fpConvert fmtBF16 fmtF32 v.mode false false⟩
  | 0x05 => some ⟨2, 16, 32, .f16x2, .f32, fun v => fpConvert fmtF16 fmtF32 v.mode false false⟩
  | 0x06 => some ⟨1, 32, 32, .i32, .f32, fun v x => round fmtF32 v.mode false (exactOfInt (BitVec.ofNat 32 x).toInt 0 false)⟩
  | 0x07 => some ⟨1, 32, 32, .n32, .f32, fun v x => round fmtF32 v.mode false (exactOfInt x 0 false)⟩
  | 0x08 => some ⟨1, 32, 32, .f32, .i32, fun v => cvtInteger fmtF32 v.mode v.ftz (-2147483648) 2147483647⟩
  | 0x09 => some ⟨1, 32, 32, .f32, .n32, fun v => cvtInteger fmtF32 v.mode v.ftz 0 4294967295⟩
  | 0x0A => some ⟨1, 32, 32, .f32, .i32, fun v => cvtInteger fmtF32 1 v.ftz (-2147483648) 2147483647⟩
  | 0x0B => some ⟨1, 32, 32, .f32, .n32, fun v => cvtInteger fmtF32 1 v.ftz 0 4294967295⟩
  | 0x0C => some ⟨1, 32, 64, .i32, .f64, fun v x => round fmtF64 v.mode false (exactOfInt (BitVec.ofNat 32 x).toInt 0 false)⟩
  | 0x0D => some ⟨1, 64, 32, .f64, .i32, fun v => cvtInteger fmtF64 v.mode v.ftz (-2147483648) 2147483647⟩
  | 0x0E => some ⟨4, 32, 8, .i32, .i8x4, fun _ => cvtSaturate 8 (-128) 127⟩
  | 0x0F => some ⟨4, 32, 8, .i32, .n8x4, fun _ => cvtSaturate 8 0 255⟩
  | 0x10 => some ⟨2, 32, 16, .i32, .i16x2, fun _ => cvtSaturate 16 (-32768) 32767⟩
  | 0x11 => some ⟨8, 32, 4, .i32, .i4x8, fun _ => cvtSaturate 4 (-8) 7⟩
  | 0x12 => some ⟨4, 8, 32, .i8x4, .i32, fun _ x => ⟨((BitVec.ofNat 8 x).signExtend 32).toNat, 0⟩⟩
  | 0x13 => some ⟨4, 8, 32, .n8x4, .n32, fun _ x => ⟨x, 0⟩⟩
  | 0x14 => some ⟨2, 16, 32, .i16x2, .i32, fun _ x => ⟨((BitVec.ofNat 16 x).signExtend 32).toNat, 0⟩⟩
  | 0x15 => some ⟨8, 4, 32, .i4x8, .i32, fun _ x => ⟨((BitVec.ofNat 4 x).signExtend 32).toNat, 0⟩⟩
  | _ => none

/-- Element `k` of `w` bits at register `a` of lane `l`: a pair, a register of a group, or a field of one register. -/
def sourceElement (y : Gang) (a w l k : Nat) : Nat :=
  if w = 64 then (y.V a l).toNat + 2 ^ 32 * (y.V (a + 1) l).toNat
  else if w = 32 then (y.V (a + k) l).toNat
  else (y.V a l).toNat / 2 ^ (w * k) % 2 ^ w

/-- Values packed from element 0 up. -/
def packed (w : Nat) : List Nat → Nat
  | [] => 0
  | x :: t => x + 2 ^ w * packed w t

/-- The effect of a conversion. -/
def CvtForm.row (c : CvtForm) (d a : BitVec 7) : VectorRow :=
  let out := fun (s : State) (y : Gang) (l k : Nat) => c.conv s.fpEnv (sourceElement y a.toNat c.from' l k)
  { dst := if c.width = 64 then [d.toNat, d.toNat + 1] else if c.width = 32 then (List.range c.n).map (d.toNat + ·) else [d.toNat]
    srcs := if c.from' = 32 then (List.range c.n).map fun k => (a.toNat + k, [c.accepts]) else [(a.toNat, [c.accepts])]
    val := fun s y =>
      if c.width = 64 then pairRegs d.toNat fun l => (out s y l 0).bits
      else if c.width = 32 then fun n l => if d.toNat ≤ n ∧ n < d.toNat + c.n then some ⟨BitVec.ofNat 32 (out s y l (n - d.toNat)).bits, c.tag⟩ else none
      else oneReg d.toNat fun l => ⟨BitVec.ofNat 32 (packed c.width ((List.range c.n).map fun k => (out s y l k).bits)), c.tag⟩
    fl := fun s y l => (List.range c.n).foldl (fun f k => f ||| (out s y l k).flags) 0 }

/-- One element of VQNT as R163 computes it. -/
def quantisedElement (x sc : Nat) : Nat × FpFlags :=
  match exactMul (fmtF32.value x) (fmtF32.value sc) with
  | (.nan, _) => (0x80, flagNv)
  | (.inf neg, _) => (if neg then 0x81 else 0x7F, flagNv)
  | (.zero _, _) => (0, 0)
  | (.real neg m e, _) =>
    let n : Int := roundTo 0 neg m e 0
    let q := if neg then -n else n
    if 127 < q then (0x7F, flagNv) else if q < -127 then (0x81, flagNv)
    else ((BitVec.ofInt 8 q).toNat, if m * 2 ^ e.toNat % 2 ^ (-e).toNat = 0 then 0 else flagNx)

/-- VQNT. -/
def vqntRow (d a b : BitVec 7) : VectorRow :=
  let out := fun (y : Gang) (l k : Nat) => quantisedElement (y.V (a.toNat + k) l).toNat (y.V b.toNat l).toNat
  { dst := [d.toNat]
    srcs := [(a.toNat, [.f32]), (a.toNat + 1, [.f32]), (a.toNat + 2, [.f32]), (a.toNat + 3, [.f32]), (b.toNat, [.f32])]
    val := fun _ y => oneReg d.toNat fun l => ⟨BitVec.ofNat 32 (packed 8 [(out y l 0).1, (out y l 1).1, (out y l 2).1, (out y l 3).1]), .i8x4⟩
    fl := fun _ y l => (out y l 0).2 ||| (out y l 1).2 ||| (out y l 2).2 ||| (out y l 3).2 }

/-! ### Rounding (R85 to R87) -/

/-- A finite value in units of 2^`q`, `q` at most its exponent; 0 for a zero. -/
def Exact.units (q : Int) : Exact → Int
  | .real n m e => mant n m e q
  | _ => 0

/-- A finite encoding of the format. -/
def Fmt.isFinite (f : Fmt) (z : Nat) : Prop := z < 2 ^ (f.ew + f.fw + 1) ∧ f.exp z ≠ f.emax

/-- Half of the distance bounds every choice: `y` is at least as near to `x` as the finite encoding `z`, and where `z` is as near and is another value, the fraction of `y` is even. -/
def NearestTo (f : Fmt) (q x : Int) (y z : Nat) : Prop :=
  let dy := (x - (f.value y).units q).natAbs
  let dz := (x - (f.value z).units q).natAbs
  dy ≤ dz ∧ (dy = dz → (f.value z).units q ≠ (f.value y).units q → y % 2 = 0)

/-! ### Compare, votes, permutes -/

/-- What a condition code asks (R160). -/
def conditionHolds (cc : Nat) (un lt eq : Bool) : Bool := match cc with
  | 0 => !un && eq
  | 1 => un || !eq
  | 2 => !un && lt
  | 3 => !un && (lt || eq)
  | 4 => !un && !lt && !eq
  | 5 => !un && !lt
  | 6 => un
  | _ => !un

/-- The comparison of VCMP in one lane and its flags: unordered, below, equal (R160). -/
def comparison (s : State) (y : Gang) (ty : BitVec 3) (a b l : Nat) : Bool × Bool × Bool × FpFlags :=
  let float := fun (f : Fmt) (p q : Nat) =>
    let u := f.isNan p || f.isNan q
    let lt := exactLt (f.source s.fpEnv.ftz p) (f.source s.fpEnv.ftz q)
    let gt := exactLt (f.source s.fpEnv.ftz q) (f.source s.fpEnv.ftz p)
    (u, lt, !lt && !gt, snanFlags f [p, q])
  match ty.toNat with
  | 0 => float fmtF32 (y.V a l).toNat (y.V b l).toNat
  | 1 => float fmtF64 ((y.V a l).toNat + 2 ^ 32 * (y.V (a + 1) l).toNat) ((y.V b l).toNat + 2 ^ 32 * (y.V (b + 1) l).toNat)
  | 2 => (false, decide ((y.V a l).toInt < (y.V b l).toInt), y.V a l == y.V b l, 0)
  | _ => (false, decide ((y.V a l).toNat < (y.V b l).toNat), y.V a l == y.V b l, 0)

/-- The outcome of VCMP in a lane. -/
def compareBit (s : State) (y : Gang) (ty : BitVec 3) (cc : BitVec 4) (a b l : Nat) : Bool :=
  let r := comparison s y ty a b l
  conditionHolds cc.toNat r.1 r.2.1 r.2.2.1

/-- The tags a comparison accepts. -/
def compareTags (ty : BitVec 3) : List Tag := if ty = 0 then [.f32] else if ty = 1 then [.f64] else [.i32, .n32]

/-- The number whose bits are given, the lowest first. -/
def fromBits : List Bool → Nat
  | [] => 0
  | b :: t => (if b then 1 else 0) + 2 * fromBits t

/-- A vote: destination, source, and the scalar from the votes in rank order (R171). -/
def voteOf : Instr → Option (BitVec 6 × BitVec 7 × (List Bool → DWord))
  | .voteAny d a => some (d, a, fun v => truth (true ∈ v))
  | .voteAll d a => some (d, a, fun v => truth (false ∉ v))
  | .voteBal d a => some (d, a, fun v => BitVec.ofNat 64 (fromBits v))
  | _ => none

/-- A permute: destinations, sources with their tags, and what lane `l` receives (R169). -/
structure PermuteRow where
  dst : List Nat
  srcs : List (Nat × List Tag)
  writes : State → Gang → Nat → List (Nat × VReg)
  fl : State → Gang → FpFlags := fun _ _ => 0

/-- The permute is issued: it is outstanding with the values it read and is counted in `spcnt`; no register has changed (R27, R169). -/
def PermuteRow.Issued (r : PermuteRow) (i : Instr) : Prop :=
  ∀ s u g e x y, s.AtSplit u g e x y → (∀ n ∈ r.dst, n < x.kte.vregs) → (∀ p ∈ r.srcs, p.1 < x.kte.vregs) → y.NoPermute s.cur.mask r.dst →
    (∀ p ∈ r.srcs, y.Tagged s.cur.mask p.1 p.2) → y.gsp.length < 63 →
    ∃ z o, exec i s = .next (s.withOp u g x z (r.fl s y)) ∧ OpIssued s e y z o .sp (r.fl s y) ∧ o.kind = .permute r.dst ∧
      o.accs.map (fun a => (a.lane, a.writes)) = (lanesOf s.cur.mask).map fun l => (l, r.writes s y l)

/-- What the lane of rank `j` gives: zero tagged RAW where there is none (R170). -/
def rankGives (s : State) (y : Gang) (a : Nat) (j : Option Nat) : VReg := match j.bind fun j => (lanesOf s.cur.mask)[j]? with
  | some l => y.VR a l
  | none => ⟨0, .raw⟩

/-- A SHFL form: the source rank of a lane of rank `k` in a split of width `w`. -/
def shuffleRow (d a : BitVec 7) (srcs : List (Nat × List Tag)) (rank : Gang → Nat → Nat → Nat → Option Nat) : PermuteRow where
  dst := [d.toNat]
  srcs := (a.toNat, anyTag) :: srcs
  writes s y l := [(d.toNat, rankGives s y a.toNat (rank y l (lanesOf s.cur.mask).length ((lanesOf s.cur.mask).countP (· < l))))]

/-- R170. -/
def shflRow : Instr → Option PermuteRow
  | .shflIdx d a b => some (shuffleRow d a [(b.toNat, integerTags)] fun y l w _ => some ((y.V b.toNat l).toNat % w))
  | .shflUp d a n => some (shuffleRow d a [] fun _ _ _ k => if n.toNat ≤ k then some (k - n.toNat) else none)
  | .shflDn d a n => some (shuffleRow d a [] fun _ _ _ k => some (k + n.toNat))
  | .shflXor d a n => some (shuffleRow d a [] fun _ _ _ k => some (k ^^^ n.toNat))
  | .shflBc d a n => some (shuffleRow d a [] fun _ _ w _ => some (n.toNat % w))
  | _ => none

/-- t[k] after the strides below 2^`j` (R173), with the flags of its combines. -/
def strided (f : Nat → Nat → Rounded) (t : List Nat) : Nat → Nat → Rounded
  | 0, k => ⟨t[k]!, 0⟩
  | j + 1, k =>
    let x := strided f t j k
    if k + 2 ^ j < t.length then
      let y := strided f t j (k + 2 ^ j)
      let c := f x.bits y.bits
      ⟨c.bits, c.flags ||| x.flags ||| y.flags⟩
    else x

/-- A reduction code: tags accepted, result tag, whether it works on pairs, `Combine` (the table of R172). -/
def reduction (v : FpEnv) : Nat → Option (List Tag × Tag × Bool × (Nat → Nat → Rounded))
  | 0x00 => some (integerTags, .i32, false, fun x y => ⟨(x + y) % 2 ^ 32, 0⟩)
  | 0x01 => some ([.f32], .f32, false, fun x y => roundedResult fmtF32 v [x, y] (exactAdd v.mode (fmtF32.source v.ftz x) (fmtF32.source v.ftz y)))
  | 0x02 => some ([.f64], .f64, true, fun x y => roundedResult fmtF64 v [x, y] (exactAdd v.mode (fmtF64.source v.ftz x) (fmtF64.source v.ftz y)))
  | 0x03 => some (integerTags, .i32, false, fun x y => ⟨if (BitVec.ofNat 32 x).toInt ≤ (BitVec.ofNat 32 y).toInt then x else y, 0⟩)
  | 0x04 => some (integerTags, .n32, false, fun x y => ⟨if x ≤ y then x else y, 0⟩)
  | 0x05 => some ([.f32], .f32, false, minMaxResult fmtF32 false v)
  | 0x06 => some ([.f64], .f64, true, minMaxResult fmtF64 false v)
  | 0x07 => some (integerTags, .i32, false, fun x y => ⟨if (BitVec.ofNat 32 x).toInt ≤ (BitVec.ofNat 32 y).toInt then y else x, 0⟩)
  | 0x08 => some (integerTags, .n32, false, fun x y => ⟨if x ≤ y then y else x, 0⟩)
  | 0x09 => some ([.f32], .f32, false, minMaxResult fmtF32 true v)
  | 0x0A => some ([.f64], .f64, true, minMaxResult fmtF64 true v)
  | 0x0B => some (anyTag, .raw, false, fun x y => ⟨x &&& y, 0⟩)
  | 0x0C => some (anyTag, .raw, false, fun x y => ⟨x ||| y, 0⟩)
  | 0x0D => some (anyTag, .raw, false, fun x y => ⟨x ^^^ y, 0⟩)
  | _ => none

/-- REDL with tags `acc`, result tag `tag`, pairs when `wide`: every lane receives t[0] of R173; `f` is `Combine` under the split's `fpctl`. -/
def redlRow (d a : BitVec 7) (acc : List Tag) (tag : Tag) (wide : Bool) (f : FpEnv → Nat → Nat → Rounded) : PermuteRow :=
  let t := fun (s : State) (y : Gang) => strided (f s.fpEnv) ((lanesOf s.cur.mask).map fun l =>
    if wide then (y.V a.toNat l).toNat + 2 ^ 32 * (y.V (a.toNat + 1) l).toNat else (y.V a.toNat l).toNat) 6 0
  { dst := if wide then [d.toNat, d.toNat + 1] else [d.toNat]
    srcs := [(a.toNat, acc)]
    writes := fun s y _ =>
      if wide then [(d.toNat, ⟨BitVec.ofNat 32 (t s y).bits, .f64⟩), (d.toNat + 1, ⟨BitVec.ofNat 32 ((t s y).bits / 2 ^ 32), .raw⟩)]
      else [(d.toNat, ⟨BitVec.ofNat 32 (t s y).bits, tag⟩)]
    fl := fun s y => (t s y).flags }

/-- Element `k` of the queue of VPOP; zero tagged RAW beyond its end (R175, R176). -/
def poppedAt (q : List QElem) (k : Nat) : VReg := (q[k]?.map (·.r)).getD ⟨0, .raw⟩

end Sys2Proof.Machine

/-- R157: a VINT word writes the table's result with the table's tag in each active lane, and nothing else. -/
def Obligations.IntegerVectorWords : Prop := ∀ (i : Instr) (r : VectorRow), vintRow i = some r → r.Done i

/-- R158, R159: a VF32, VF64 or VHALF word writes the rounded result and sets its flags. -/
def Obligations.FloatVectorWords : Prop := ∀ (i : Instr) (r : VectorRow), floatRow i = some r → r.Done i

/-- R85, R86: to nearest, `Round` of a real that does not overflow is a nearest finite encoding, the one of even fraction where two are as near. -/
def Sys2Proof.Machine.RoundNearestEven : Prop :=
  ∀ f ∈ [fmtF64, fmtF32, fmtF16, fmtBF16], ∀ (neg : Bool) (m : Nat) (e q : Int), m ≠ 0 → q ≤ e → q ≤ f.emin - f.fw →
    (roundReal f 0 false neg m e).flags &&& flagOf = 0 →
      f.isFinite (roundReal f 0 false neg m e).bits ∧
        ∀ z, f.isFinite z → NearestTo f q (mant neg m e q) (roundReal f 0 false neg m e).bits z

/-- R85, R86: `Round` toward zero, up and down of a real that does not overflow is the finite encoding next to it on the side the mode names. -/
def Sys2Proof.Machine.RoundDirected : Prop :=
  ∀ f ∈ [fmtF64, fmtF32, fmtF16, fmtBF16], ∀ (mode : Mode) (neg : Bool) (m : Nat) (e q : Int), mode ≠ 0 → m ≠ 0 → q ≤ e → q ≤ f.emin - f.fw →
    (roundReal f mode false neg m e).flags &&& flagOf = 0 →
      let x := mant neg m e q
      let y := roundReal f mode false neg m e
      let below := mode = 3 ∨ (mode = 1 ∧ neg = false)
      f.isFinite y.bits ∧ (if below then (f.value y.bits).units q ≤ x else x ≤ (f.value y.bits).units q) ∧
        ∀ z, f.isFinite z → if below then (f.value z).units q ≤ x → (f.value z).units q ≤ (f.value y.bits).units q
          else x ≤ (f.value z).units q → (f.value y.bits).units q ≤ (f.value z).units q

/-- R85, R86: rounding in each of the four modes. -/
def Obligations.Rounding : Prop := RoundNearestEven ∧ RoundDirected

/-- R165: the accuracy of VRCP and VRSQ on the exact value, with `X` the source and `Y` the result in units of 2^-149 and `U` the ulp in those units: |Y X - 2^298| ≤ U |X|, and (Y - U)^2 X ≤ 2^447 ≤ (Y + U)^2 X. A
reciprocal of 2^128 or more is infinite; powers of two whose reciprocal is normal, and powers of four, are exact. -/
def Sys2Proof.Machine.ReciprocalAccuracy : Prop := ∀ (pick : Nat) (x : Word) (neg : Bool) (m : Nat) (e : Int), fmtF32.value x.toNat = .real neg m e →
  let X := mant neg m e (-149)
  let rcp := (sfu 0 false pick x.toNat).bits
  let rsq := (sfu 1 false pick x.toNat).bits
  let Y := fun (y : Nat) => (fmtF32.value y).units (-149)
  let U := fun (r : Nat × Int) => (2 : Int) ^ (ulpExp r.1 r.2 + 149).toNat
  (X.natAbs ≤ 2 ^ 21 → rcp = if neg then 0xFF800000 else 0x7F800000) ∧
  (2 ^ 21 < X.natAbs → fmtF32.isFinite rcp ∧ ((Y rcp * X - 2 ^ 298).natAbs : Int) ≤ U (rcpRef m e) * X.natAbs) ∧
  (∀ k, 23 ≤ k → k ≤ 275 → X.natAbs = 2 ^ k → Y rcp = if neg then -2 ^ (298 - k) else 2 ^ (298 - k)) ∧
  (neg = false → fmtF32.isFinite rsq ∧ (Y rsq - U (rsqRef m e)) ^ 2 * X ≤ 2 ^ 447 ∧ 2 ^ 447 ≤ (Y rsq + U (rsqRef m e)) ^ 2 * X ∧
    ∀ k : Nat, X = 2 ^ (2 * k + 1) → Y rsq = 2 ^ (223 - k))

/-- The F32 encoding `y` is finite and lies within `b` times 2^`be` of plus or minus `m` times 2^`e`. -/
def Sys2Proof.Machine.NearReal (y : Nat) (neg : Bool) (m : Nat) (e : Int) (b : Nat) (be : Int) : Prop :=
  let q := min e (min be (-149))
  fmtF32.isFinite y ∧ ((fmtF32.value y).units q - mant neg m e q).natAbs ≤ b * 2 ^ (be - q).toNat

/-- R165: the accuracy of the other five functions, measured against the references of assumption 12: VEXP2 and VTANH within 2 ulp, VLOG2 within 2 ulp, or 2^-22 where the logarithm is at most 1 in magnitude, VSIN and
VCOS within 2^-22; with the exact cases: 2^x of an integer, the logarithm of a power of two, the sine of a small x, the tanh of a large one; and beyond the range an infinity or a zero. -/
def Sys2Proof.Machine.FunctionAccuracy : Prop := ∀ (pick : Nat) (x : Word) (neg : Bool) (m : Nat) (e : Int), fmtF32.value x.toNat = .real neg m e →
  let X := mant neg m e (-149)
  let f := fun (fn : Nat) => (sfu fn false pick x.toNat).bits
  let Y := fun (y : Nat) => (fmtF32.value y).units (-149)
  let L := fxLog2 m e
  (128 * 2 ^ 149 ≤ X → f 3 = 0x7F800000) ∧ (X < -149 * 2 ^ 149 → f 3 = 0) ∧
  (∀ n : Int, -149 ≤ n → n ≤ 127 → X = n * 2 ^ 149 → Y (f 3) = 2 ^ (n + 149).toNat) ∧
  (-149 * 2 ^ 149 ≤ X → X < 128 * 2 ^ 149 → X % 2 ^ 149 ≠ 0 → NearReal (f 3) false (exp2Ref neg m e).1 (exp2Ref neg m e).2 2 (ulpExp (exp2Ref neg m e).1 (exp2Ref neg m e).2)) ∧
  (neg = false →
    (∀ k : Nat, X = 2 ^ k → Y (f 4) = ((k : Int) - 149) * 2 ^ 149) ∧
    ((∀ k : Nat, X ≠ 2 ^ k) → (L.natAbs ≤ 2 ^ 184 → NearReal (f 4) (decide (L < 0)) L.natAbs (-184) 1 (-22)) ∧
      (2 ^ 184 < L.natAbs → NearReal (f 4) (decide (L < 0)) L.natAbs (-184) 2 (ulpExp L.natAbs (-184))))) ∧
  (X.natAbs < 2 ^ 137 → f 5 = x.toNat) ∧
  (2 ^ 137 ≤ X.natAbs → X.natAbs < 2 ^ 167 → NearReal (f 5) (decide (sinRef neg m e < 0)) (sinRef neg m e).natAbs (-160) 1 (-22)) ∧
  (X.natAbs < 2 ^ 167 → NearReal (f 6) (decide (cosRef m e < 0)) (cosRef m e).natAbs (-161) 1 (-22)) ∧
  (9 * 2 ^ 149 ≤ X.natAbs → f 7 = if neg then 0xBF800000 else 0x3F800000) ∧
  (X.natAbs = 1 → f 7 = if neg then 0x80000000 else 0) ∧
  (1 < X.natAbs → X.natAbs < 9 * 2 ^ 149 → NearReal (f 7) neg (tanhRef m e).1 (tanhRef m e).2 2 (ulpExp (tanhRef m e).1 (tanhRef m e).2))

/-- R88, R165: under `ftz` a subnormal result is a zero of its sign. -/
def Sys2Proof.Machine.ResultsFlushed : Prop := ∀ fn ∈ [0, 1, 3, 4, 5, 6, 7], ∀ (pick : Nat) (x : Word), fmtF32.isSubnormal x.toNat = false →
  let y := (sfu fn false pick x.toNat).bits
  (sfu fn true pick x.toNat).bits = if fmtF32.isSubnormal y then (if fmtF32.sign y then 0x80000000 else 0) else y

/-- R88, R165: a VSFU word writes an F32 result and sets its flags; VSQRT rounds; the seven approximated functions are within the accuracy of the table and exact where it says so. Which result within the accuracy is the
device's choice, and the references for the accuracy of the five transcendental functions are the model's, in fixed point (assumption 12). -/
def Obligations.SpecialFunctionWords : Prop :=
  (∀ (i : Instr) (r : VectorRow), sfuRow i = some r → r.Done i) ∧ ReciprocalAccuracy ∧ FunctionAccuracy ∧ ResultsFlushed

/-- R166, R167: the special values of the approximated functions, whatever the device chooses elsewhere; a NaN gives the canonical NaN. -/
def Obligations.SpecialFunctionValues : Prop :=
  ∀ (fn : Nat) (ftz : Bool) (pick : Nat) (x : Word), fn ∈ [0, 1, 3, 4, 5, 6, 7] →
    (fmtF32.isNan x.toNat = true → sfu fn ftz pick x.toNat = ⟨0x7FC00000, if fmtF32.isSnan x.toNat then flagNv else 0⟩) ∧
      ∀ r, fmtF32.isNan x.toNat = false → sfuSpecial fn (fmtF32.source ftz x.toNat) = some r → sfu fn ftz pick x.toNat = r

/-- R161, R164: VSEL, MOV, RETAG and VMOVS move bits and tags, check no tag and set no flag. -/
def Obligations.MoveWords : Prop := ∀ (i : Instr) (r : VectorRow), moveRow i = some r → r.Done i

/-- R162: VCVT converts element by element as the table gives. -/
def Sys2Proof.Machine.ConversionWords : Prop := ∀ (d a code : BitVec 7) (c : CvtForm), cvtForm code.toNat = some c → (c.row d a).Done (.vcvt d a code)

/-- R163: VQNT quantises the quad. -/
def Sys2Proof.Machine.Quantisation : Prop := ∀ d a b : BitVec 7, (vqntRow d a b).Done (.vqnt d a b)

/-- R162, R163: VCVT and VQNT convert each lane. -/
def Obligations.Conversions : Prop := ConversionWords ∧ Quantisation

/-- R160: VCMP writes the outcome to the mask bits of the active lanes, leaves those of inactive lanes, and sets `nv` only for a signalling NaN. -/
def Obligations.CompareWords : Prop :=
  ∀ (ty : BitVec 3) (cc md : BitVec 4) (a b : BitVec 7) s u g e x y, s.AtSplit u g e x y → a.toNat < x.kte.vregs → b.toNat < x.kte.vregs →
    y.Tagged s.cur.mask a.toNat (compareTags ty) → y.Tagged s.cur.mask b.toNat (compareTags ty) →
      let fl := flagsOver s.cur.mask fun l => (comparison s y ty a.toNat b.toNat l).2.2.2
      ∃ z w, exec (.vcmp ty cc md a b) s = .next (s.withGang u g x z fl) ∧ GangMoved s e y z fl ∧
        z.regs = { y.regs with m := mset 0 y.regs.m md.toNat w } ∧
        ∀ l, l < 64 → w.getLsbD l = (decide (l < y.width) &&
          if s.cur.mask.getLsbD l then compareBit s y ty cc a.toNat b.toNat l else (mget 0 y.regs.m md.toNat).getLsbD l)

/-- R171: VOTE writes one scalar of its gang from the votes of the active lanes in rank order. -/
def Obligations.VoteWords : Prop :=
  ∀ i d a f, voteOf i = some (d, a, f) → ∀ s u g e x y, s.AtSplit u g e x y → d.toNat < x.kte.sregs → a.toNat < x.kte.vregs → y.Good s.cur.mask a.toNat →
    SplitDone i s u g e x y { y.regs with s := mset 0 y.regs.s d.toNat (f ((lanesOf s.cur.mask).map fun l => y.V a.toNat l != 0)) }

/-- R169, R170: a SHFL reads its sources in the ranks of the split that issues it, and is outstanding until it completes. -/
def Obligations.ShuffleWords : Prop := ∀ (i : Instr) (r : PermuteRow), shflRow i = some r → r.Issued i

/-- R169, R172, R173: a REDL combines the values of the ranks in the log-step order, and is outstanding until it completes. -/
def Obligations.ReductionWords : Prop :=
  ∀ (d a code : BitVec 7) acc tag wide (f : FpEnv → Nat → Nat → Rounded), (∀ v, reduction v code.toNat = some (acc, tag, wide, f v)) →
    (redlRow d a acc tag wide f).Issued (.redl d a code)

/-- R27, R169, R170: an outstanding permute writes the lanes it completes next, each its values in order; the lanes left stay outstanding, and the
operation is no longer outstanding once none are left and those before it are not. Which lanes come next is free (assumption 86); some do. -/
def Obligations.PermuteCompletes : Prop :=
  ∀ (s : State) u g x y o, s.unit? u = some x → mfind x.gangs g = some y → o ∈ y.ops → (∀ p ∈ y.ops, p.id = o.id → p = o) → o.kind.permuteDests ≠ [] →
    let now := o.nextLanes
    let z : Gang := { y with
      regs := { y.regs with v := now.foldl (fun v a => if o.mask.getLsbD a.lane then a.writes.foldl (fun v w => mset {} v (64 * w.1 + a.lane) w.2) v else v) y.regs.v }
      badRegs := y.badRegs.filter fun k => !now.any fun a => o.mask.getLsbD a.lane && a.lane == k % 64 && a.writes.any fun w => w.1 == k / 64
      ops := retire (y.ops.map fun p => if p.id = o.id then { p with accs := p.accs.filter fun a => !now.contains a } else p) }
    exec (.permuteComplete u g o.id) s = .next { s with units := mput s.units u { x with gangs := mput x.gangs g z } } ∧
      (o.accs ≠ [] → now ≠ []) ∧ ∀ a ∈ now, a ∈ o.accs

/-- R175, R176: VPOP gives each rank the next element of the queue, or zero tagged RAW where a closed stream has no more, and removes them. -/
def Obligations.PopWords : Prop :=
  ∀ (d ch : BitVec 7) s u g e x y, s.AtSplit u g e x y → d.toNat < x.kte.vregs → ch.toNat < 32 → y.NoPermute s.cur.mask [d.toNat] →
    let key := 16 * g + (ch.toNat - 16)
    let q := (mget {} x.opq key).elems
    let w := (lanesOf s.cur.mask).length
    (x.streamOpen key = true → w ≤ q.length) → (∀ r ∈ q.take w, r.stale = false) → (∀ p ∈ x.badVals, p.1 = 64 + key → w ≤ p.2) →
      ∃ z, exec (.vpop d ch) s = .next (s.withUnit u { x.popBad (64 + key) w with gangs := mput x.gangs g z, opq := mset {} x.opq key { mget {} x.opq key with elems := q.drop w } }) ∧
        let val := oneReg d.toNat fun l => poppedAt q ((lanesOf s.cur.mask).countP (· < l))
        GangMoved s e { y with badRegs := y.mended s.cur.mask val } z ∧ LanesWritten s.cur.mask y.regs z.regs val
namespace Sys2Proof.Machine

/-! ### Mask words, branches, traps -/

/-- A word that writes a mask register: the scalar registers it reads, the mask register, the value (R129). -/
def maskOf? : Instr → Option (List (BitVec 6) × BitVec 6 × (Gang → DWord))
  | .stom d a => some ([a], d, fun y => y.S a.toNat)
  | .mand d a b => some ([], d, fun y => y.M a.toNat &&& y.M b.toNat)
  | .mor d a b => some ([], d, fun y => y.M a.toNat ||| y.M b.toNat)
  | .mxor d a b => some ([], d, fun y => y.M a.toNat ^^^ y.M b.toNat)
  | .mnot d a => some ([], d, fun y => ~~~y.M a.toNat)
  | _ => none

/-- A word that only moves its stream: the registers it names, where it goes (none: to the next word) from the registers and its packet, and the register that
receives the link (R44, R135). -/
structure Flow where
  regs : List (BitVec 6)
  goes : (BitVec 6 → DWord) → Word → Option Word
  link : Option (BitVec 6) := none

/-- The target of a displacement. -/
def flowTarget (ip : Word) (disp : BitVec 16) : Word := BitVec.ofInt 32 (ip.toNat + disp.toInt)

/-- NOP and the branches of R135. -/
def flowOf : Instr → Option Flow
  | .nop => some { regs := [], goes := fun _ _ => none }
  | .br disp => some { regs := [], goes := fun _ ip => some (flowTarget ip disp) }
  | .brZ c disp => some { regs := [c], goes := fun X ip => if X c = 0 then some (flowTarget ip disp) else none }
  | .brNz c disp => some { regs := [c], goes := fun X ip => if X c ≠ 0 then some (flowTarget ip disp) else none }
  | .call c disp => some { regs := [c], goes := fun _ ip => some (flowTarget ip disp), link := some c }
  | .ret c => some { regs := [c], goes := fun X _ => some (BitVec.ofNat 32 (X c).toNat) }
  | _ => none

/-- The link of CALL: the next packet, zero-extended. -/
def flowLink (ip : Word) : DWord := BitVec.ofNat 64 ((ip.toNat + 1) % 2 ^ 32)

/-- The lanes a divergent branch sends to its target, and the displacement (R137). -/
def divergentOf : Instr → Option ((Gang → DWord → DWord) × BitVec 16)
  | .brd m disp => some (fun y mk => mk &&& y.M m.toNat, disp)
  | .brdN m disp => some (fun y mk => mk &&& ~~~y.M m.toNat, disp)
  | _ => none

/-- A special register of the gang stream whose value one number gives, in split `e` of gang `g` (R30, R31). -/
def specialOf (s : State) (u g e : Nat) (y : Gang) : Nat → Option Nat
  | 0x02 => some (lanesOf s.cur.mask).length
  | 0x03 => some s.cur.mask.toNat
  | 0x04 => some y.width
  | 0x05 => some 64
  | 0x06 => some (y.entry e).fpctl.toNat
  | 0x07 => some (y.entry e).fpflags.toNat
  | 0x08 => some (y.vmcnt (y.entry e))
  | 0x09 => some (y.spcnt (y.entry e))
  | 0x0A => some y.spill.length
  | 0x0B => some g
  | 0x0C => some (u % 4)
  | 0x0D => some (u / 4 % 48)
  | 0x0E => some (u / 4 / 48)
  | 0x0F => some (s.core (u / 4)).cycle.toNat
  | 0x10 => some (if e = 4 then y.tcode.toNat else 0)
  | 0x11 => some (if e = 4 then 4 * y.tip.toNat + y.twd else 0)
  | 0x12 => some (if e = 4 then y.tmask.toNat else 0)
  | _ => none

/-- A special register of the lead stream. -/
def specialOfLead (s : State) (u : Nat) (x : Unit) : Nat → Option Nat
  | 0x05 => some 64
  | 0x0C => some (u % 4)
  | 0x0D => some (u / 4 % 48)
  | 0x0E => some (u / 4 / 48)
  | 0x0F => some (s.core (u / 4)).cycle.toNat
  | 0x14 => some x.lead.ops.length
  | 0x15 => some (x.gangs.countP fun p => !p.2.ended)
  | _ => none

/-- What SRD writes for `lane`, `rank` and `taddr` (R32, R151). -/
def laneSpecial (s : State) (y : Gang) (e d : Nat) : Nat → Option (List Nat × (Nat → Nat → Option VReg))
  | 0x00 => some ([d], oneReg d fun l => ⟨BitVec.ofNat 32 l, .n32⟩)
  | 0x01 => some ([d], oneReg d fun l => ⟨BitVec.ofNat 32 ((lanesOf s.cur.mask).countP (· < l)), .n32⟩)
  | 0x13 =>
    let a := fun l => if e = 4 then (mget 0 y.taddr l).toNat else 0
    some ([d, d + 1], fun n l => if n = d then some ⟨BitVec.ofNat 32 (a l), .raw⟩ else if n = d + 1 then some ⟨BitVec.ofNat 32 (a l / 2 ^ 32), .raw⟩ else none)
  | _ => none

/-- The two barrier words: 0 GBAR, 1 UBAR. -/
def barrierOf : Instr → Option (Cursor → Barrier)
  | .gbar => some fun c => .gang c.nip c.nwd c.chained
  | .ubar => some fun c => .unit c.nip c.nwd c.chained
  | _ => none

end Sys2Proof.Machine

/-- R129, R11: STOM, MAND, MOR, MXOR and MNOT write a mask register of the gang; bits at and above the creation width are zero. -/
def Sys2Proof.Machine.MaskWords : Prop :=
  ∀ i rs d f, maskOf? i = some (rs, d, f) → ∀ s u g e x y, s.AtSplit u g e x y → (∀ r ∈ rs, r.toNat < x.kte.sregs) →
    SplitDone i s u g e x y { y.regs with m := mset 0 y.regs.m d.toNat (BitVec.ofNat 64 ((f y).toNat % 2 ^ y.width)) }

/-- R129: MTOS copies the whole mask register, inactive lanes' bits too. -/
def Sys2Proof.Machine.MaskToScalar : Prop :=
  ∀ d a s u g e x y, s.AtSplit u g e x y → d.toNat < x.kte.sregs →
    SplitDone (.mtos d a) s u g e x y { y.regs with s := mset 0 y.regs.s d.toNat (y.M a.toNat) }

/-- R129, R11: the mask words, and MTOS. -/
def Obligations.MaskRegisters : Prop := MaskWords ∧ MaskToScalar

/-- R44, R135: NOP, BR, BR.Z, BR.NZ, CALL and RET move the issuing split, or the lead, and change nothing else but CALL's link register. -/
def Obligations.FlowWords : Prop :=
  ∀ i f, flowOf i = some f →
    (∀ s u g e x y, s.AtSplit u g e x y → (∀ r ∈ f.regs, r.toNat < x.kte.sregs) →
      let r := match f.link with
        | some c => { y.regs with s := mset 0 y.regs.s c.toNat (flowLink s.cur.ip) }
        | none => y.regs
      match f.goes (fun n => y.S n.toNat) s.cur.ip with
      | some ip => SplitJumps i s u g e x y ip r
      | none => SplitDone i s u g e x y r) ∧
    (∀ s u x, s.AtLead u x → (∀ r ∈ f.regs, r.toNat < 32) →
      let l := match f.link with
        | some c => x.lead.setH c.toNat (flowLink s.cur.ip)
        | none => x.lead
      match f.goes (fun n => x.lead.H n.toNat) s.cur.ip with
      | some ip => LeadJumps i s u x ip l
      | none => LeadDone i s u x l)

/-- R137: BRD and BRD.N. All lanes one way: the split goes there. Both ways: the lanes taken go to the lowest free entry, which copies the split; with none free one
part is pushed, the fall-through when the rest of the packet is NOP, else the part taken; with the stack full too every lane takes the divergence-overflow trap. In the lead both
trap as undefined instruction, and in the trap entry too (R315). -/
def Obligations.DivergentBranches : Prop :=
  ∀ i f disp, divergentOf i = some (f, disp) → (∀ s u x, s.AtLead u x → Traps i s [⟨0, .undefinedInstruction, 0⟩]) ∧
    (∀ s u g x y, s.AtSplit u g 4 x y → Traps i s ((lanesOf s.cur.mask).map fun l => ⟨l, .undefinedInstruction, 0⟩)) ∧ ∀ s u g e x y, s.AtSplit u g e x y → e < 4 →
    let tk := f y s.cur.mask
    let ft := s.cur.mask &&& ~~~tk
    let tgt := flowTarget s.cur.ip disp
    let p := y.entry e
    (tk = 0 → SplitDone i s u g e x y y.regs) ∧
    (tk ≠ 0 → ft = 0 → SplitJumps i s u g e x y tgt y.regs) ∧
    (tk ≠ 0 → ft ≠ 0 → ∀ k rest, y.usable = k :: rest →
      ∃ z, exec i s = .next (s.withGang u g x z) ∧ z = { y with split := z.split } ∧ (∀ j, j ≠ e → j ≠ k → z.entry j = y.entry j) ∧
        z.entry k = { p.awake with mask := tk, ip := tgt, wd := 0, idle := 0, raised := false } ∧ z.entry e = { p.moved s.cur with mask := ft }) ∧
    (tk ≠ 0 → ft ≠ 0 → y.usable = [] → y.spill.length < 32 → s.cur.nwd = 0 →
      ∃ z, exec i s = .next ((s.jump tgt).withGang u g x z) ∧
        z = { y with split := z.split, spill := ⟨ft, s.cur.ip + 1, p.fpctl, p.fpflags⟩ :: y.spill } ∧ (∀ j, j ≠ e → z.entry j = y.entry j) ∧
        z.entry e = { p.moved (s.jump tgt).cur with mask := tk }) ∧
    (tk ≠ 0 → ft ≠ 0 → y.usable = [] → y.spill.length < 32 → s.cur.nwd ≠ 0 →
      ∃ z, exec i s = .next (s.withGang u g x z) ∧
        z = { y with split := z.split, spill := ⟨tk, tgt, p.fpctl, p.fpflags⟩ :: y.spill } ∧ (∀ j, j ≠ e → z.entry j = y.entry j) ∧
        z.entry e = { p.moved s.cur with mask := ft }) ∧
    (tk ≠ 0 → ft ≠ 0 → y.usable = [] → 32 ≤ y.spill.length → Traps i s ((lanesOf s.cur.mask).map fun l => ⟨l, .divergenceOverflow, 0⟩))

/-- R313: `Trap` with the trap entry free. The trapping lanes leave their split for the trap entry, which starts at `thip` of the context descriptor; `tcode`, `tip`,
`tmask` and `taddr` are written; nothing else changes. -/
def Sys2Proof.Machine.TrapEntry : Prop :=
  ∀ s u g e x y fs, s.AtSplit u g e x y → e < 4 → y.trapFree = true → fs ≠ [] → (fs.map LaneFault.lane).Nodup → (∀ f ∈ fs, s.cur.mask.getLsbD f.lane = true) →
    ∃ z, s.takeTrap fs = { s with units := mput s.units u { x with gangs := mput x.gangs g z } } ∧ TrapTaken s e y z fs

/-- R313, R316, R317: with the trap entry busy the split waits at the word; a trap in the trap entry ends the unit with fault 17; a lead trap is recorded with its code and
address, and stops the lead. -/
def Sys2Proof.Machine.TrapElsewhere : Prop :=
  ∀ (s : State) fs,
    (∀ u g e x y, s.AtSplit u g e x y → e < 4 → y.trapFree = false → s.takeTrap fs = s.blocked) ∧
    (∀ u g x y, s.AtSplit u g 4 x y → s.takeTrap fs = { s with units := mput s.units u { x with ending := some .nestedTrap } }) ∧
    (∀ u x f, s.AtLead u x → fs = [f] → s.takeTrap fs = { s with units := mput s.units u { x with lead := { x.lead with trapped := some (f.code, f.addr) } } })

/-- R313, R316, R317: what taking a trap saves, and where each stream goes. -/
def Obligations.TakingTraps : Prop := TrapEntry ∧ TrapElsewhere

/-- R232: TRAP takes the software trap with its code as the address of every active lane, `tip` naming the word; BKPT takes the breakpoint trap with its tag where the context
descriptor enables debugging, and otherwise has no effect. -/
def Obligations.TrapWords : Prop :=
  ∀ i val code, (i = .trap val ∧ code = TrapCode.softwareTrap ∨ i = .bkpt val ∧ code = TrapCode.breakpoint) →
    (∀ s u g e x y, s.AtSplit u g e x y →
      (i = .bkpt val ∧ s.ctx.dbg = false → SplitDone i s u g e x y y.regs) ∧
      ((i = .bkpt val → s.ctx.dbg = true) → e < 4 → y.trapFree = true →
        ∃ z, exec i s = .next (s.withGang u g x z) ∧ TrapTaken s e y z ((lanesOf s.cur.mask).map fun l => ⟨l, code, val.setWidth 64⟩)) ∧
      ((i = .bkpt val → s.ctx.dbg = true) → e < 4 → y.trapFree = false → Waits i s) ∧
      ((i = .bkpt val → s.ctx.dbg = true) → e = 4 → exec i s = .next (s.withUnit u { x with ending := some .nestedTrap }))) ∧
    (∀ s u x, s.AtLead u x →
      (i = .bkpt val ∧ s.ctx.dbg = false → LeadDone i s u x x.lead) ∧
      ((i = .bkpt val → s.ctx.dbg = true) → exec i s = .next (s.withUnit u { x with lead :=
        { x.lead with lip := s.cur.ip, lwd := s.cur.wd, trapped := some (code, val.setWidth 64) } })))

/-- R233: RETT frees the trap entry and clears `tcode`, `tip` and `tmask`. Its lanes form a split in the lowest free entry, at the place R233 names, if the spill stack is empty;
otherwise, where that place is a word 0, they are pushed. It waits when neither can be done. -/
def Obligations.ReturnFromTrap : Prop :=
  ∀ s u g x y, s.AtSplit u g 4 x y →
    let p := s.returnPlace u x y
    let t := y.entry 4
    let back : Split := { mask := t.mask, ip := p.1, wd := p.2, state := .ready, vm := y.gvm, sp := y.gsp, fpctl := t.fpctl, fpflags := t.fpflags }
    (∀ k rest, y.spill = [] → y.usable = k :: rest → k < 4 →
      ∃ z, exec .rett s = .next (s.withGang u g x z) ∧ z = { y with split := z.split, tcode := 0, tip := 0, twd := 0, tmask := 0 } ∧
        z.entry 4 = {} ∧ z.entry k = back ∧ ∀ j, j ≠ 4 → j ≠ k → z.entry j = y.entry j) ∧
    ((y.spill ≠ [] ∨ y.usable = []) → p.2 = 0 → y.spill.length < 32 →
      ∃ z, exec .rett s = .next (s.withGang u g x z) ∧ z.entry 4 = {} ∧ (∀ j, j ≠ 4 → z.entry j = y.entry j) ∧
        z = { y with split := z.split, tcode := 0, tip := 0, twd := 0, tmask := 0, spill := ⟨back.mask, p.1, back.fpctl, back.fpflags⟩ :: y.spill }) ∧
    ((y.spill ≠ [] ∨ y.usable = []) → (p.2 ≠ 0 ∨ 32 ≤ y.spill.length) → Waits .rett s)

/-- R231: RETT outside the trap entry, and CTXSV, DSLD and DSST in a lead without the system flag, trap as privilege with no other effect. -/
def Obligations.PrivilegedWords : Prop :=
  (∀ s u g e x y, s.AtSplit u g e x y → e < 4 → Traps .rett s ((lanesOf s.cur.mask).map fun l => ⟨l, .privilege, 0⟩)) ∧
    (∀ s u x (h : BitVec 5) (d a : BitVec 6) (imm : BitVec 10), s.AtLead u x → x.bind.sys = false → d.toNat < 32 → a.toNat < 32 →
      Traps (.ctxsv h) s [⟨0, .privilege, 0⟩] ∧ Traps (.dsld d a imm) s [⟨0, .privilege, 0⟩] ∧ Traps (.dsst d a imm) s [⟨0, .privilege, 0⟩])

/-- R15, R53: a scalar word that names an `s` register at or above the declared count, or an `h` register at or above 32, traps as undefined instruction. -/
def Sys2Proof.Machine.UndeclaredScalar : Prop :=
  ∀ i d a b f, scalarTwo i = some (d, a, b, f) →
    (∀ s u g e x y, s.AtSplit u g e x y → (x.kte.sregs ≤ d.toNat ∨ x.kte.sregs ≤ a.toNat ∨ x.kte.sregs ≤ b.toNat) →
      Traps i s ((lanesOf s.cur.mask).map fun l => ⟨l, .undefinedInstruction, 0⟩)) ∧
    (∀ s u x, s.AtLead u x → (32 ≤ d.toNat ∨ 32 ≤ a.toNat ∨ 32 ≤ b.toNat) → Traps i s [⟨0, .undefinedInstruction, 0⟩])

/-- R15, R153: a vector word that names a `v` register at or above the declared count traps as undefined instruction, in the lead always. -/
def Sys2Proof.Machine.UndeclaredVector : Prop :=
  ∀ i r, (vintRow i = some r ∨ floatRow i = some r ∨ sfuRow i = some r) →
    (∀ s u g e x y, s.AtSplit u g e x y → ((∃ n ∈ r.dst, x.kte.vregs ≤ n) ∨ ∃ p ∈ r.srcs, x.kte.vregs ≤ p.1) →
      Traps i s ((lanesOf s.cur.mask).map fun l => ⟨l, .undefinedInstruction, 0⟩)) ∧
    (∀ s u x, s.AtLead u x → Traps i s [⟨0, .undefinedInstruction, 0⟩])

/-- R15, R53, R153: a word that names a register outside the declared counts is undefined. -/
def Obligations.UndeclaredRegisters : Prop := UndeclaredScalar ∧ UndeclaredVector

/-- R19: where active lanes hold a source tag the operand does not accept, exactly those lanes trap as format-tag, and the word has no other effect in any lane. -/
def Sys2Proof.Machine.WrongTags : Prop :=
  ∀ i r, (vintRow i = some r ∨ floatRow i = some r ∨ sfuRow i = some r) → ∀ s u g e x y, s.AtSplit u g e x y → (∀ n ∈ r.dst, n < x.kte.vregs) →
    (∀ p ∈ r.srcs, p.1 < x.kte.vregs) → y.NoPermute s.cur.mask r.dst →
      let bad := (lanesOf s.cur.mask).filter fun l => r.srcs.any fun p => y.tag p.1 l != .raw && !p.2.contains (y.tag p.1 l)
      bad ≠ [] → Traps i s (bad.map fun l => ⟨l, .formatTag, 0⟩)

/-- R318: where the tags are accepted and active lanes read a register in error, exactly those lanes take poisoned data, and the word has no other effect in any lane.
That the tags are looked at first is the model's choice (assumption 17). -/
def Sys2Proof.Machine.RegistersInError : Prop :=
  ∀ i r, (vintRow i = some r ∨ floatRow i = some r ∨ sfuRow i = some r) → ∀ s u g e x y, s.AtSplit u g e x y → (∀ n ∈ r.dst, n < x.kte.vregs) →
    (∀ p ∈ r.srcs, p.1 < x.kte.vregs) → y.NoPermute s.cur.mask r.dst →
    (∀ p ∈ r.srcs, ∀ l, s.cur.mask.getLsbD l = true → y.tag p.1 l = .raw ∨ y.tag p.1 l ∈ p.2) →
      let reads := r.srcs.flatMap fun p => if p.2 = [.f64] then [p.1, p.1 + 1] else [p.1]
      let bad := (lanesOf s.cur.mask).filter fun l => reads.any fun n => y.badRegs.contains (64 * n + l)
      bad ≠ [] → Traps i s (bad.map fun l => ⟨l, .poisonedData, 0⟩)

/-- R19, R318: the lanes with a source tag that is not accepted, or with a source register in error, trap, and nothing is written in any lane. -/
def Obligations.FormatTags : Prop := WrongTags ∧ RegistersInError

/-- R143, R144: EXIT ends the active lanes of a split: their entry is freed, their outstanding results are discarded, the gang ends when it holds no lane; the lead stops, its
outstanding results are discarded. -/
def Obligations.ExitWords : Prop :=
  (∀ s u g e x y, s.AtSplit u g e x y →
    ∃ z, exec .exit s = .next (s.withUnit u (({ x with gangs := mput x.gangs g z } : Machine.Unit).emptyQueues g)) ∧
      z = { y with split := z.split, ops := y.ops.map fun o => { o with mask := o.mask &&& ~~~s.cur.mask }, late := y.late.filter fun f => !s.cur.mask.getLsbD f.lane, ended := z.ended } ∧
      z.entry e = {} ∧ (∀ k, k ≠ e → z.entry k = y.entry k) ∧
      z.ended = (y.ended || ([0, 1, 2, 3, 4].all fun k => k == e || (y.entry k).mask == 0) && y.spill.isEmpty)) ∧
    (∀ s u x, s.AtLead u x → exec .exit s = .next (s.withUnit u { x with lead :=
      { x.lead.moved s.cur with state := .stopped, late := none, ops := x.lead.ops.map fun o => { o with mask := 0 } } }))

/-- R203: WAIT passes when the counters of its stream are at or below its limits, and waits otherwise; a lead's WAIT has no `sp` limit. -/
def Obligations.WaitWords : Prop :=
  ∀ vm sp : BitVec 6,
    (∀ s u g e x y, s.AtSplit u g e x y → if y.vmcnt (y.entry e) ≤ vm.toNat ∧ y.spcnt (y.entry e) ≤ sp.toNat then SplitDone (.wait vm sp) s u g e x y y.regs else Waits (.wait vm sp) s) ∧
    (∀ s u x, s.AtLead u x → if sp ≠ 0 then Traps (.wait vm sp) s [⟨0, .undefinedInstruction, 0⟩]
      else if x.lead.ops.length ≤ vm.toNat then LeadDone (.wait vm sp) s u x x.lead else Waits (.wait vm sp) s)

/-- R146, R147: GBAR and UBAR make the split wait at the word until the barrier has completed; issued by the trap entry they trap as undefined instruction. -/
def Obligations.BarrierWords : Prop :=
  ∀ i b, barrierOf i = some b → ∀ s u g e x y, s.AtSplit u g e x y →
    (e < 4 → (y.entry e).bar = .passed → SplitDone i s u g e x y y.regs) ∧
    (e < 4 → (y.entry e).bar ≠ .passed → ∃ z, exec i s = .next { s with units := mput s.units u { x with gangs := mput x.gangs g z }, cur := { s.cur with verdict := .wait } } ∧
      z = { y with split := z.split } ∧ (∀ k, k ≠ e → z.entry k = y.entry k) ∧
      z.entry e = { y.entry e with bar := b s.cur, state := if (y.entry e).state = .trap then .trap else .waiting }) ∧
    (e = 4 → Traps i s ((lanesOf s.cur.mask).map fun l => ⟨l, .undefinedInstruction, 0⟩))

/-- R141: SPAWN, its release conditions met: it creates a gang of the issuer's width with eight argument registers in the lowest free number and answers that number, or, with no room,
answers all ones and creates nothing; the split goes on at the next packet. -/
def Sys2Proof.Machine.SpawnAnswers : Prop :=
  ∀ (c : BitVec 6) disp s u g e x y, s.AtSplit u g e x y → e < 4 → c.toNat + 7 < x.kte.sregs → s.released 1 = .ok →
    let args := (List.range 8).map fun k => y.S (c.toNat + k)
    let set := fun v => { y.regs with s := mset 0 y.regs.s c.toNat v }
    (∀ n sl, x.ngang < x.bind.glimit → x.freeGang = some n → s.gangSlices u x.kte.vregs y.width = some sl →
      ∃ z, exec (.spawn c disp) s = .next ((s.jump (s.cur.ip + 1)).withGang u g
          { x with gangs := mput x.gangs n (newGang y.width sl args (flowTarget s.cur.ip disp)) } z) ∧
        GangMoved (s.jump (s.cur.ip + 1)) e y z ∧ z.regs = set (BitVec.ofNat 64 n)) ∧
    ((x.bind.glimit ≤ x.ngang ∨ x.freeGang = none ∨ s.gangSlices u x.kte.vregs y.width = none) →
      SplitJumps (.spawn c disp) s u g e x y (s.cur.ip + 1) (set (-1)))

/-- R141, R315: SPAWN in the lead, in the trap entry, or with argument registers beyond the declared count traps as undefined instruction. -/
def Sys2Proof.Machine.SpawnUndefined : Prop :=
  ∀ (c : BitVec 6) disp,
    (∀ s u x, s.AtLead u x → Traps (.spawn c disp) s [⟨0, .undefinedInstruction, 0⟩]) ∧
    (∀ s u g e x y, s.AtSplit u g e x y → (e = 4 ∨ x.kte.sregs ≤ c.toNat + 7) →
      Traps (.spawn c disp) s ((lanesOf s.cur.mask).map fun l => ⟨l, .undefinedInstruction, 0⟩))

/-- R141, R315: what SPAWN answers, and where it is undefined. -/
def Obligations.SpawnWords : Prop := SpawnAnswers ∧ SpawnUndefined

/-- R30, R31, R151: SRD of a register that one value describes writes `s(d)`, or `h(d)` in the lead, zero-extended; a register its stream may not read traps as undefined instruction. -/
def Sys2Proof.Machine.SpecialReads : Prop :=
  ∀ (d : BitVec 6) (num : BitVec 8),
    (∀ s u g e x y v, s.AtSplit u g e x y → d.toNat < x.kte.sregs → specialOf s u g e y num.toNat = some v →
      SplitDone (.srd d num) s u g e x y { y.regs with s := mset 0 y.regs.s d.toNat (BitVec.ofNat 64 v) }) ∧
    (∀ s u x v, s.AtLead u x → d.toNat < 32 → specialOfLead s u x num.toNat = some v → LeadDone (.srd d num) s u x (x.lead.setH d.toNat (BitVec.ofNat 64 v))) ∧
    (∀ s u g e x y, s.AtSplit u g e x y → num.toNat ∈ [0x14, 0x15] → Traps (.srd d num) s ((lanesOf s.cur.mask).map fun l => ⟨l, .undefinedInstruction, 0⟩)) ∧
    (∀ s u x, s.AtLead u x → num.toNat ∈ [0, 1, 2, 3, 4, 6, 7, 8, 9, 10, 11, 16, 17, 18, 19] → Traps (.srd d num) s [⟨0, .undefinedInstruction, 0⟩])

/-- R32, R151: SRD of `lane`, `rank` and `taddr` writes vector registers of the active lanes, N32 for the first two, a pair of RAW for `taddr`. -/
def Sys2Proof.Machine.SpecialLaneReads : Prop :=
  ∀ (d : BitVec 6) (num : BitVec 8) s u g e x y ds val, s.AtSplit u g e x y → laneSpecial s y e d.toNat num.toNat = some (ds, val) → (∀ n ∈ ds, n < x.kte.vregs) →
    y.NoPermute s.cur.mask ds → VectorDone (.srd d num) s u g e x y val

/-- R152: SWR writes bits 2 to 0 of `fpctl` or bits 5 to 0 of `fpflags` of the issuing split, keeping the flags its chain set; no sibling and no other field changes. -/
def Sys2Proof.Machine.SpecialWrites : Prop :=
  ∀ (d : BitVec 6) (num : BitVec 8) s u g e x y, s.AtSplit u g e x y → d.toNat < x.kte.sregs → num ∈ [(6 : BitVec 8), 7] →
    ∃ z, exec (.swr d num) s = .next (s.withGang u g x z) ∧ z = { y with split := z.split } ∧ (∀ k, k ≠ e → z.entry k = y.entry k) ∧
      z.entry e = if num = 6 then { (y.entry e).moved s.cur with fpctl := BitVec.ofNat 8 ((y.S d.toNat).toNat % 8) }
        else { (y.entry e).moved s.cur with fpflags := BitVec.ofNat 8 ((y.S d.toNat).toNat % 64) ||| s.cur.flags }

/-- R30 to R32, R151, R152: SRD and SWR. -/
def Obligations.SpecialRegisters : Prop := SpecialReads ∧ SpecialLaneReads ∧ SpecialWrites
namespace Sys2Proof.Machine

/-! ### Memory words -/

/-- Address of a lane for VLD, VST, VLDS and VSTS (R177): base plus the lane's offset, zero- or sign-extended. -/
def vectorAddress (y : Gang) (a : BitVec 7) (b : BitVec 6) (sx : BitVec 1) (l : Nat) : DWord :=
  BitVec.ofInt 64 ((y.S b.toNat).toNat + if sx = 1 then (y.V a.toNat l).toInt else ((y.V a.toNat l).toNat : Int))

/-- Bytes of a memory type code (R66). -/
def typeBytes (ty : BitVec 4) : Nat := if ty = 4 then 8 else if ty = 12 ∨ ty = 13 then 1 else if ty = 14 ∨ ty = 15 then 2 else 4

/-- The registers a memory type code names from `d` on. -/
def typeRegs (ty : BitVec 4) (d : BitVec 7) : List Nat := if ty = 4 then [d.toNat, d.toNat + 1] else [d.toNat]

/-- The registers a load of value `v` writes (R66, R182). -/
def loadedRegs (ty : BitVec 4) (d : BitVec 7) (v : Nat) : List (Nat × VReg) :=
  if ty = 4 then [(d.toNat, ⟨BitVec.ofNat 32 v, .f64⟩), (d.toNat + 1, ⟨BitVec.ofNat 32 (v / 2 ^ 32), .raw⟩)]
  else [(d.toNat, ⟨if ty = 12 then (BitVec.ofNat 8 v).signExtend 32 else if ty = 13 then BitVec.ofNat 32 (v % 2 ^ 8)
    else if ty = 14 then (BitVec.ofNat 16 v).signExtend 32 else if ty = 15 then BitVec.ofNat 32 (v % 2 ^ 16) else BitVec.ofNat 32 v, tyTag ty⟩)]

/-- The value lane `l` stores (R182). -/
def storedValue (y : Gang) (ty : BitVec 4) (d : BitVec 7) (l : Nat) : Nat :=
  if ty = 4 then (y.V d.toNat l).toNat + 2 ^ 32 * (y.V (d.toNat + 1) l).toNat else (y.V d.toNat l).toNat % 2 ^ (8 * typeBytes ty)

/-- The little-endian value of `n` bytes of a core's scratchpad (R3). -/
def scratchValue (s : State) (c off : Nat) : Nat → Nat
  | 0 => 0
  | n + 1 => (mget (0 : Byte) (s.core c).spad off).toNat + 256 * scratchValue s c (off + 1) n

/-- Offset `off` of a unit's scratchpad reaches `n` bytes it declares. -/
def Unit.reaches (x : Unit) (off : DWord) (n align : Nat) : Prop := off.toNat % align = 0 ∧ off.toNat + n ≤ x.kte.scratch

/-- An own-scratchpad access of a lane, performed when the word issues (the model's choice, assumption 3): what it read. -/
def scratchAcc (_ : State) (u l size off : Nat) (addr : DWord) (bad : Bool) (writes : List (Nat × VReg)) : Acc :=
  { lane := l, loc := .spad (u / 4) off, size := size, addr := addr, writes := writes, done := true, bad := if bad then some .poisonedData else none }

/-- A scalar load: form (0 B64, 1 N32, 2 I32), size, own scratchpad, fields (R131). -/
def scalarLoadOf : Instr → Option (Nat × Nat × Bool × BitVec 6 × BitVec 6 × BitVec 10)
  | .sldB64 d a imm => some (0, 8, false, d, a, imm)
  | .sldN32 d a imm => some (1, 4, false, d, a, imm)
  | .sldI32 d a imm => some (2, 4, false, d, a, imm)
  | .sldsB64 d a imm => some (0, 8, true, d, a, imm)
  | _ => none

/-- A scalar store: size, own scratchpad, fields (R131). -/
def scalarStoreOf : Instr → Option (Nat × Bool × BitVec 6 × BitVec 6 × BitVec 10)
  | .sstB64 d a imm => some (8, false, d, a, imm)
  | .sstB32 d a imm => some (4, false, d, a, imm)
  | .sstsB64 d a imm => some (8, true, d, a, imm)
  | _ => none

/-- Effective address of a scalar access (R131). -/
def scalarAddress (base : DWord) (imm : BitVec 10) (size : Nat) : DWord := BitVec.ofInt 64 (base.toNat + imm.toInt * size)

/-- The scalar registers of the stream of a word: `x` is its unit; a register field is in range (R15, R53). -/
def State.streamReg (s : State) (x : Unit) (r : BitVec 6) : Prop := match s.cur.stream with
  | .lead _ => r.toNat < 32
  | _ => r.toNat < x.kte.sregs

/-- The word stands in a split or a lead of unit `u`, now `x`; its checks have not been made. -/
def State.AtWord (s : State) (u : Nat) (x : Unit) : Prop := (∃ g e y, s.AtSplit u g e x y) ∨ s.AtLead u x

/-- An atomic: sub-opcode and fields (R190). -/
def atomOf : Instr → Option (Nat × BitVec 2 × BitVec 3 × BitVec 7 × BitVec 7 × BitVec 2)
  | .atomAdd ty lvl d a sp => some (0, ty, lvl, d, a, sp)
  | .atomMin ty lvl d a sp => some (1, ty, lvl, d, a, sp)
  | .atomMax ty lvl d a sp => some (2, ty, lvl, d, a, sp)
  | .atomAnd ty lvl d a sp => some (3, ty, lvl, d, a, sp)
  | .atomOr ty lvl d a sp => some (4, ty, lvl, d, a, sp)
  | .atomXor ty lvl d a sp => some (5, ty, lvl, d, a, sp)
  | .atomXchg ty lvl d a sp => some (6, ty, lvl, d, a, sp)
  | .atomCas ty lvl d a sp => some (7, ty, lvl, d, a, sp)
  | _ => none

/-- The table of R190 on bits of the type's width: what is written, from the old value, the operand (the compare value of CAS) and the new value. -/
def atomTable (w : Nat) (signed : Bool) (old x new : BitVec w) : Nat → Option (BitVec w)
  | 0 => some (old + x)
  | 1 => some (if (if signed then old.toInt ≤ x.toInt else old.toNat ≤ x.toNat) then old else x)
  | 2 => some (if (if signed then old.toInt ≤ x.toInt else old.toNat ≤ x.toNat) then x else old)
  | 3 => some (old &&& x)
  | 4 => some (old ||| x)
  | 5 => some (old ^^^ x)
  | 6 => some x
  | _ => if old = x then some new else none

/-- The registers an atomic reads and those it writes, from `d` on (R190, R194). -/
def atomReads (op : Nat) (ty : BitVec 2) (d : BitVec 7) : List Nat :=
  (List.range ((if ty.toNat ≤ 1 then 1 else 2) * if op = 7 then 2 else 1)).map (d.toNat + ·)
def atomRegs (ty : BitVec 2) (d : BitVec 7) : List Nat := (List.range (if ty.toNat ≤ 1 then 1 else 2)).map (d.toNat + ·)

/-- A lane's operand (the compare value of CAS) and new value (R190, R194). -/
def atomData (y : Gang) (ty : BitVec 2) (d : BitVec 7) (l : Nat) : Nat × Nat :=
  if ty.toNat ≤ 1 then ((y.V d.toNat l).toNat, (y.V (d.toNat + 1) l).toNat)
  else ((y.V d.toNat l).toNat + 2 ^ 32 * (y.V (d.toNat + 1) l).toNat, (y.V (d.toNat + 2) l).toNat + 2 ^ 32 * (y.V (d.toNat + 3) l).toNat)

/-- What the old value of an atomic leaves in registers (R190). -/
def oldRegs (ty : BitVec 2) (d : BitVec 7) (old : Nat) : List (Nat × VReg) :=
  if ty.toNat ≤ 1 then [(d.toNat, ⟨BitVec.ofNat 32 old, if ty = 1 then .i32 else .n32⟩)]
  else [(d.toNat, ⟨BitVec.ofNat 32 old, .raw⟩), (d.toNat + 1, ⟨BitVec.ofNat 32 (old / 2 ^ 32), .raw⟩)]

/-- The accesses of the lanes of an atomic: one of the own scratchpad is performed at once (assumption 3), lane after lane, the others are left to be performed at
their site (R190, R191). An atomic sees every earlier write; what it replaces is remembered for other paths (R266). The last part: some lane wrote at once. -/
def atomicsInOrder (u : Nat) (y : Gang) (op : Nat) (ty : BitVec 2) (lvl : BitVec 3) (d : BitVec 7) (addr : Nat → DWord) (place : Nat → Loc) :
    List Nat → State → State × List Acc × Bool
  | [], s => (s, [], false)
  | l :: t, s =>
    let n := if ty.toNat ≤ 1 then 4 else 8
    match place l with
    | .spad c off =>
      let here : Acc := { lane := l, loc := .spad c off, size := n, addr := addr l, done := true }
      if s.spadPoisoned c off n then
        let r := atomicsInOrder u y op ty lvl d addr place t s
        (r.1, { here with bad := some .poisonedData } :: r.2.1, r.2.2)
      else
        let old := scratchValue s c off n
        let seen := s.viewedAll s.laneReader (.spad c off) n
        match atomWrites op ty old (atomData y ty d l).1 (atomData y ty d l).2 with
        | some v =>
          let r := atomicsInOrder u y op ty lvl d addr place t ((seen.note 0 (2 + c) u none (seen.oldSpad c (valueAt off n v))).spadWrite c off n v)
          (r.1, { here with writes := oldRegs ty d old } :: r.2.1, true)
        | none =>
          let r := atomicsInOrder u y op ty lvl d addr place t seen
          (r.1, { here with writes := oldRegs ty d old } :: r.2.1, r.2.2)
    | p =>
      let r := atomicsInOrder u y op ty lvl d addr place t s
      (r.1, { lane := l, loc := p, size := n, addr := addr l, site := s.atomSite lvl.toNat p } :: r.2.1, r.2.2)

/-- The address of a lane's atomic: 64 bits in the global space, else 32 (R177, R190). -/
def atomAddress (y : Gang) (a : BitVec 7) (sp : BitVec 2) (l : Nat) : DWord :=
  BitVec.ofNat 64 ((y.V a.toNat l).toNat + if sp = 0 then 2 ^ 32 * (y.V (a.toNat + 1) l).toNat else 0)

/-- A fence: whether it acquires, whether it releases, its level field (R195). -/
def fenceOf : Instr → Option (Bool × Bool × BitVec 3)
  | .fenceAcq lvl => some (true, false, lvl)
  | .fenceRel lvl => some (false, true, lvl)
  | .fenceAr lvl => some (true, true, lvl)
  | _ => none

/-- The level a level field names on the presented device: a layer that the chart reports the same as its chiplet is the chiplet (R264), and a level above the
device's widest is the pod (R37). -/
def levelOf (s : State) (lvl : BitVec 3) : Nat :=
  let l := if lvl = 2 ∧ s.oneLayer = true then 3 else lvl.toNat
  if (match s.ctx.pmode with | 1 => 5 | 2 => 4 | _ => 3) < l ∧ l < 6 then 6 else l

/-- A word that changes a barrier object: register of the object, register of the operand, whether it releases, the new object from the old one and the operand (R201). -/
def objectOf : Instr → Option (BitVec 6 × BitVec 6 × Bool × (BarObj → Nat → BarObj))
  | .boinit o v => some (o, v, false, fun b n => { b with xarr := n % 2 ^ 16, aarr := 0, xbytes := 0, abytes := 0, phase := 0 })
  | .boexpect o v => some (o, v, false, fun b n => ({ b with xbytes := (b.xbytes + n % 2 ^ 32) % 2 ^ 32 } : BarObj).complete)
  | .boarrive o v => some (o, v, true, fun b n =>
      ({ b with aarr := (b.aarr + n % 2 ^ 16) % 2 ^ 16, abytes := (b.abytes + n / 2 ^ 16 % 2 ^ 32) % 2 ^ 32 } : BarObj).complete)
  | _ => none

/-! ### Engine words -/

/-- What acceptance of an engine word leaves in the unit: the command, and the state of the array the next checks use. -/
structure EngineRow where
  cmd : Cmd
  imx : IssueMx → IssueMx := id

/-- The unit holds its core's matrix grant (R34). -/
def holdsGrant (s : State) (u : Nat) : Prop := (s.core (u / 4)).grant = some (u % 4)

/-- A barrier object a command with A = 1 arrives at lies, aligned, in the declared scratchpad (R207). -/
def arrives (s : State) (x : Unit) (arr : BitVec 1) (b : BitVec 5) : Prop := arr = 1 → x.reaches (s.X b.toNat) 16 16

/-- The object of the arrival. -/
def arrivalAt (s : State) (arr : BitVec 1) (b : BitVec 5) : Option Nat := if arr = 1 then some (s.X b.toNat).toNat else none

/-- When an engine word issues normally, but for room in its queue, and what it leaves (R213 to R227). -/
def engineRow (s : State) (u : Nat) (x : Unit) : Instr → Option (Prop × EngineRow)
  | .mldw a b arr slot => do
    let r ← x.slot slot.toNat
    return (holdsGrant s u ∧ recCls r = 0 ∧ matrixBox r = true ∧ weightOk (s.degraded (u / 4)) (recCode r) = true ∧ arrives s x arr b,
      { cmd := { id := s.nextId, op := .mldw, recs := [BitVec.ofNat 512 r], a := s.X a.toNat, obj := arrivalAt s arr b },
        imx := fun m => { m with shadow := if recCode r ≤ 1 then .i8x4 else .i4x8, shadowCode := recCode r } })
  | .mswap => some (holdsGrant s u, { cmd := { id := s.nextId, op := .mswap }, imx := fun m =>
      { m with active := m.shadow, shadow := m.active, activeCode := m.shadowCode, shadowCode := m.activeCode } })
  | .mma a b tile arr slot => do
    let r ← x.slot slot.toNat
    let n := (x.imx.tile tile.toNat).2
    return (holdsGrant s u ∧ recCls r = 0 ∧ matrixBox r = true ∧ x.imx.active ≠ .raw ∧ mmaOk (s.degraded (u / 4)) (recCode r) x.imx.activeCode n = true ∧ n < 16 ∧
        arrives s x arr b,
      { cmd := { id := s.nextId, op := .mma tile.toNat, recs := [BitVec.ofNat 512 r], a := s.X a.toNat, obj := arrivalAt s arr b },
        imx := fun m => { m with tiles := m.tiles.set tile.toNat (.rt, n + 1) } })
  | .mdrain a b c tile arr slot => do
    let r ← x.slot slot.toNat
    let off := s.X c.toNat
    let v := scratchValue s (u / 4) (x.bind.spbase + off.toNat) 16
    let add := v / 2 ^ 64 % 2 = 1
    let ar := if add then x.slot (v / 2 ^ 65 % 8) else none
    return (holdsGrant s u ∧ drainRec r = true ∧ x.reaches off 1040 16 ∧ s.spadPoisoned (u / 4) (x.bind.spbase + off.toNat) 16 = false ∧ v / 2 ^ 68 = 0 ∧
        (add → ∃ q, ar = some q ∧ drainRec q = true) ∧ arrives s x arr b,
      { cmd := { id := s.nextId, op := .mdrain tile.toNat, recs := BitVec.ofNat 512 r :: (if add then [BitVec.ofNat 512 (ar.getD 0)] else []), a := s.X a.toNat,
                 c := off, info := BitVec.ofNat 64 v, obj := arrivalAt s arr b },
        imx := fun m => { m with tiles := m.tiles.set tile.toNat (.rt, 0) } })
  | .tcopy a b c dst src => do
    let sr ← x.slot src.toNat
    let dr ← x.slot dst.toNat
    return (copyRecs sr dr = true ∧ x.ctrlCheck .tcopy (s.X c.toNat) = .ok,
      { cmd := { id := s.nextId, op := .tcopy, recs := [BitVec.ofNat 512 sr, BitVec.ofNat 512 dr], a := s.X a.toNat, b := s.X b.toNat, c := s.X c.toNat,
                 obj := ctrlObj (s.X c.toNat) } })
  | .strm a b c slot => do
    let r ← x.slot slot.toNat
    let g := (s.X b.toNat).toNat
    return (recCls r = 1 ∧ recCode r = 2 ∧ recSeam r = false ∧ recSpace r = 0 ∧ g < 32 ∧ x.ctrlCheck .strm (s.X c.toNat) = .ok,
      { cmd := { id := s.nextId, op := .strm, recs := [BitVec.ofNat 512 r], a := s.X a.toNat, b := s.X b.toNat, c := s.X c.toNat, obj := ctrlObj (s.X c.toNat),
                 info := BitVec.ofNat 64 (16 * g + ((s.X c.toNat).toNat % 64 - 16)) } })
  | .nmc a b c => some (hub .nmc a b c)
  | .dread a b c => some (hub .dread a b c)
  | .dappend a b c => some (hub .dappend a b c)
  | _ => none
where
  hub (op : CmdOp) (a b c : BitVec 5) : Prop × EngineRow :=
    (x.ctrlCheck op (s.X c.toNat) = .ok ∧ (s.X a.toNat).toNat % 32 = 0 ∧ (s.X b.toNat).toNat % 32 = 0,
      { cmd := { id := s.nextId, op := op, a := s.X a.toNat, b := s.X b.toNat, c := s.X c.toNat, obj := ctrlObj (s.X c.toNat) } })

/-- A CANCEL word: the part of the issuing job that a handle of phase `p` and graph `g` names (R234). -/
def cancelOf : Instr → Option (BitVec 5 × (Nat → Nat → Part))
  | .cancelGraph h => some (h, .graph)
  | .cancelPhase h => some (h, fun p _ => .phase p)
  | .cancelJob h => some (h, fun _ _ => .job)
  | _ => none

end Sys2Proof.Machine

/-- R42, R44: a stream that has issued a word stands after it; nothing else changes. -/
def Sys2Proof.Machine.StreamsAdvance : Prop :=
  (∀ (s : State) u g e x y, s.cur.stream = .split u g e → s.unit? u = some x → mfind x.gangs g = some y → (y.entry e).mask ≠ 0 →
    ∃ z, s.advance = { s with units := mput s.units u { x with gangs := mput x.gangs g z } } ∧ GangMoved s e y z ∧ z.regs = y.regs) ∧
  (∀ (s : State) u x, s.cur.stream = .lead u → s.unit? u = some x → s.advance = { s with units := mput s.units u { x with lead := x.lead.moved s.cur } })

/-- R27, R133: an operation whose result comes later is counted for its split, with its gang totals, or in `lmcnt`; counts are kept in order of issue. -/
def Sys2Proof.Machine.OperationsCounted : Prop :=
  ∀ (s : State) cls kind mk accs,
    (∀ u g e x y, s.AtSplit u g e x y → mk = s.cur.mask →
      let p := y.entry e
      let older := (if cls = .vm then p.vm else p.sp).filter fun n => y.ops.any (·.id == n)
      let o : Op := { id := s.nextId, cls := cls, kind := kind, mask := mk, accs := accs, after := older, lanes := mk }
      ∃ z, s.addOp cls kind mk accs = { s with units := mput s.units u { x with gangs := mput x.gangs g z }, nextId := s.nextId + 1 } ∧
        z = { y with ops := retire (y.ops ++ [o]), split := z.split } ∧ (∀ k, k ≠ e → z.entry k = y.entry k) ∧
        z.entry e = if cls = .vm then { p with vm := older ++ [s.nextId] } else { p with sp := older ++ [s.nextId] }) ∧
    (∀ u x, s.AtLead u x →
      let o : Op := { id := s.nextId, cls := .lm, kind := kind, mask := mk, accs := accs, after := x.lead.ops.map (·.id), lanes := mk }
      s.addOp cls kind mk accs = { s with units := mput s.units u { x with lead := { x.lead with ops := x.lead.ops ++ [o] } }, nextId := s.nextId + 1 })

/-- R27, R42, R44, R133: a stream after its word, and the count of an operation whose result comes later. -/
def Obligations.StreamsAndCounts : Prop := StreamsAdvance ∧ OperationsCounted

/-- R177, R178, R182, R188: where every active lane's checks pass, VLD and VLDP leave one counted operation with one access a lane, at the lane's address; no byte of memory, no register
and nothing else changes but cached translations; what the lanes read through the window of their own scratchpad is noted (R258). The lanes' address registers hold no error and
are not tagged MASK: that every other tag is taken is the model's reading of R18 (assumption 36). -/
def Obligations.VectorLoads : Prop :=
  ∀ (d a b : BitVec 7) s u g e x y (place : Nat → Loc) (pm : Nat → Bool), s.AtSplit u g e x y → d.toNat < x.kte.vregs → a.toNat < x.kte.vregs →
    y.Tagged s.cur.mask a.toNat addressTags → y.gvm.length < 63 →
    (∀ (ty : BitVec 4) (r : BitVec 6) (sx : BitVec 1), r.toNat < x.kte.sregs → y.NoPermute s.cur.mask (typeRegs ty d) →
      (∀ l, s.cur.mask.getLsbD l = true → s.globalPlace u x (vectorAddress y a r sx l) ⟨typeBytes ty, .load, seamType ty⟩ = .at (place l) (pm l)) →
      Completes (.vld ty d a r sx) s fun t => (t.addRead .vm (.load d.toNat ty) s.cur.mask
        ((lanesOf s.cur.mask).map fun l => s.loadAcc d.toNat ty l (vectorAddress y a r sx l) (place l))).laneTlbFill u
          ((lanesOf s.cur.mask).map (vectorAddress y a r sx))) ∧
    (let addr := fun l => BitVec.ofNat 64 ((y.V a.toNat l).toNat + 2 ^ 32 * (y.V (a.toNat + 1) l).toNat)
     b.toNat < x.kte.vregs → y.Good s.cur.mask (a.toNat + 1) → y.Good s.cur.mask b.toNat → y.NoPermute s.cur.mask [d.toNat] →
      (∀ l, s.cur.mask.getLsbD l = true → s.globalPlace u x (addr l) ⟨4, .poll, false⟩ = .at (place l) (pm l)) →
      ∃ cmp, (∀ l, s.cur.mask.getLsbD l = true → mget 0 cmp l = y.V b.toNat l) ∧
        Completes (.vldpN32 d a b) s fun t => (t.addRead .vm (.poll d.toNat cmp) s.cur.mask
          ((lanesOf s.cur.mask).map fun l => s.loadAcc d.toNat 3 l (addr l) (place l) true)).laneTlbFill u ((lanesOf s.cur.mask).map addr))

/-- R178, R181 to R183, R243: where every active lane's checks pass, VST sends each lane's value to the lane's address, higher lanes over lower; no byte of device or host memory changes yet, and
of scratchpads only bytes at an address a lane stores to. That address registers of every tag but MASK are taken is the model's reading of R18 (assumption 36). -/
def Obligations.VectorStores : Prop :=
  ∀ (ty : BitVec 4) (d a : BitVec 7) (r : BitVec 6) (sx : BitVec 1) s u g e x y (place : Nat → Loc) (pm : Nat → Bool), s.AtSplit u g e x y →
    d.toNat < x.kte.vregs → a.toNat < x.kte.vregs → r.toNat < x.kte.sregs → y.Tagged s.cur.mask d.toNat (tyAccepts ty) → y.Tagged s.cur.mask a.toNat addressTags →
    (∀ l, s.cur.mask.getLsbD l = true → s.globalPlace u x (vectorAddress y a r sx l) ⟨typeBytes ty, .store, seamType ty⟩ = .at (place l) (pm l)) →
      let stores := (lanesOf s.cur.mask).map fun l => (⟨place l, typeBytes ty, storedValue y ty d l, pm l, vectorAddress y a r sx l, some l⟩ : LaneStore)
      (Completes (.vst ty d a r sx) s fun t => (t.storeAll ⟨u, g, s.cur.mask⟩ x stores).laneTlbFill u ((lanesOf s.cur.mask).map (vectorAddress y a r sx))) ∧
      ∀ t, exec (.vst ty d a r sx) s = .next t → t.mem = s.mem ∧ t.hostMem = s.hostMem ∧
        ∀ c k, (∀ l off, s.cur.mask.getLsbD l = true → place l = .spad c off → k < off ∨ off + typeBytes ty ≤ k) → mget 0 (t.core c).spad k = mget 0 (s.core c).spad k

/-- R181, R183, R240, R244: stores to device memory enter the core's memory port as one request a sector, holding the bytes of the lanes, higher lanes over lower, and wait for older accesses of their
stream to those bytes; they go to the bytes' home from there. Each request's sector leaves the core's L1; nothing else of the core changes, its scratchpad, TLB and dressing cache among it. -/
def Obligations.StoresEnterThePort : Prop :=
  ∀ (s : State) (w : Who) (x : Machine.Unit) (l : List LaneStore) (addr : LaneStore → Nat), (∀ t ∈ l, t.loc = .dev (addr t)) →
    let bytes := l.foldl (fun m t => ((List.range t.size).foldl (fun m k => mput m (addr t + k) (BitVec.ofNat 8 (t.value / 256 ^ k))) m)) []
    let q := s.storeAll w x l
    (∃ new, q.core (w.u / 4) = { s.core (w.u / 4) with
        port := (s.core (w.u / 4)).port ++ new
        l1 := (s.core (w.u / 4)).l1.filter fun p => !bytes.any fun b => p.1 == 2 * (b.1 / 32) } ∧ new.flatMap (·.bytes) = bytes ∧
      (∀ r ∈ new, r.who = w ∧ r.dest = .dev ∧ r.bytes ≠ [] ∧ (∃ sec, ∀ p ∈ r.bytes, p.1 / 32 = sec) ∧
        ∀ o ∈ x.opsAt w.g, (w.g = 32 ∨ o.lanes &&& w.mask ≠ 0) → (∃ a ∈ o.accs, a.done = false ∧ a.meets r = true) → o.id ∈ r.after)) ∧
    (∀ c, c ≠ w.u / 4 → q.core c = s.core c) ∧ q = { s with cores := q.cores, nextId := q.nextId }

/-- R185, R187: VLDS and VLDT read the unit's own scratchpad and are counted in `spcnt`; a VLDT lane receives a column of its block of 16 columns. No byte changes. The read
happens at issue, the model's choice (assumption 3); a VLDS address register of any tag but MASK is taken (assumption 36). -/
def Sys2Proof.Machine.ScratchReads : Prop :=
  ∀ (d a : BitVec 7) s u g e x y, s.AtSplit u g e x y → d.toNat < x.kte.vregs → a.toNat < x.kte.vregs → y.gsp.length < 63 →
    let c := u / 4
    let seen := fun off n => s.spadView s.laneReader c off n
    (∀ (ty : BitVec 4) (r : BitVec 6) (sx : BitVec 1), r.toNat < x.kte.sregs → y.NoPermute s.cur.mask (typeRegs ty d) → y.Tagged s.cur.mask a.toNat addressTags →
      (∀ l, s.cur.mask.getLsbD l = true → x.reaches (vectorAddress y a r sx l) (typeBytes ty) (typeBytes ty)) →
      Completes (.vlds ty d a r sx) s fun t => t.addRead .sp .captured s.cur.mask ((lanesOf s.cur.mask).map fun l =>
        let off := x.bind.spbase + (vectorAddress y a r sx l).toNat
        scratchAcc s u l (typeBytes ty) off (vectorAddress y a r sx l) (s.spadPoisoned c off (typeBytes ty)) (loadedRegs ty d (seen off (typeBytes ty))))) ∧
    (∀ i n size, (i = .vldtB8 d a ∧ n = 1 ∧ size = 1 ∨ i = .vldtB16 d a ∧ n = 2 ∧ size = 2 ∨ i = .vldtB32 d a ∧ n = 4 ∧ size = 4) →
      y.NoPermute s.cur.mask ((List.range n).map (d.toNat + ·)) → y.Good s.cur.mask a.toNat →
      let rank := fun l => (lanesOf s.cur.mask).countP (· < l)
      let base := fun l => (y.V a.toNat ((lanesOf s.cur.mask).getD (rank l / 16 * 16) 0)).toNat
      let at' := fun l r => x.bind.spbase + base l + (16 * r + rank l % 16) * size
      (∀ l, s.cur.mask.getLsbD l = true → x.reaches (BitVec.ofNat 64 (base l)) (64 * size) 16) →
      Completes i s fun t => (t.addOp .sp .captured s.cur.mask ((lanesOf s.cur.mask).map fun l =>
        let elem := fun r => seen (at' l r) size
        let word := fun k => if size = 1 then elem 0 + 2 ^ 8 * elem 1 + 2 ^ 16 * elem 2 + 2 ^ 24 * elem 3
          else if size = 2 then elem (2 * k) + 2 ^ 16 * elem (2 * k + 1) else elem k
        scratchAcc s u l size (x.bind.spbase + base l) (BitVec.ofNat 64 (base l)) ((List.range 4).any fun r => s.spadPoisoned c (at' l r) size)
          ((List.range n).map fun k => (d.toNat + k, ⟨BitVec.ofNat 32 (word k), .raw⟩)))).viewedAt s.laneReader
            ((lanesOf s.cur.mask).flatMap fun l => (List.range 4).map fun r => (.spad c (at' l r), size)))

/-- R266: a lane's read of its scratchpad returns the bytes that stand there, unless another path has written them and no fence to the lane path lies between; then it may
return what stood there before. -/
def Sys2Proof.Machine.ScratchViews : Prop :=
  ∀ (s : State) (c off n : Nat), s.pasts s.laneReader (2 + c) off n = [] → s.spadView s.laneReader c off n = scratchValue s c off n

/-- R185, R187, R266: loads of the own scratchpad, and what they return. -/
def Obligations.ScratchLoads : Prop := ScratchReads ∧ ScratchViews

/-- R183, R185: VSTS writes the unit's own scratchpad, higher lanes over lower; no other byte of any memory changes, and no register; the bytes it replaces are remembered, since an
engine may still read them (R266). It writes at issue, the model's choice (assumption 3); an address register of any tag but MASK is taken (assumption 36). -/
def Obligations.ScratchStores : Prop :=
  ∀ (ty : BitVec 4) (d a : BitVec 7) (r : BitVec 6) (sx : BitVec 1) s u g e x y, s.AtSplit u g e x y → d.toNat < x.kte.vregs → a.toNat < x.kte.vregs →
    r.toNat < x.kte.sregs → y.Tagged s.cur.mask d.toNat (tyAccepts ty) → y.Tagged s.cur.mask a.toNat addressTags →
    (∀ l, s.cur.mask.getLsbD l = true → x.reaches (vectorAddress y a r sx l) (typeBytes ty) (typeBytes ty)) →
      let at' := fun l => x.bind.spbase + (vectorAddress y a r sx l).toNat
      ∃ t z, exec (.vsts ty d a r sx) s = .next t ∧ t = { s.withGang u g x z with cores := t.cores, past := t.past, nextId := t.nextId } ∧ GangMoved s e y z ∧ z.regs = y.regs ∧
        (∀ c, t.core c = { s.core c with spad := (t.core c).spad, spadBad := (t.core c).spadBad }) ∧
        (∀ c, c ≠ u / 4 → t.core c = s.core c) ∧
        (∀ k, mget 0 (t.core (u / 4)).spad k = match (lanesOf s.cur.mask).reverse.find? fun l => decide (at' l ≤ k ∧ k < at' l + typeBytes ty) with
          | some l => BitVec.ofNat 8 (storedValue y ty d l / 256 ^ (k - at' l))
          | none => mget 0 (s.core (u / 4)).spad k) ∧
        ∃ p ∈ t.past, p.path = 0 ∧ p.space = 2 + u / 4 ∧ ∀ k, mfind p.bytes k =
          if (lanesOf s.cur.mask).any fun l => decide (at' l ≤ k ∧ k < at' l + typeBytes ty) then some (mget 0 (s.core (u / 4)).spad k) else none

/-- R131 to R133: a scalar load makes one access at base plus scaled immediate, for the whole split or the lead, and is counted. One of the own scratchpad reads it at issue, the
model's choice (assumption 3). -/
def Obligations.ScalarLoads : Prop :=
  ∀ i form size scratch d a imm, scalarLoadOf i = some (form, size, scratch, d, a, imm) → ∀ s u x loc pm, s.AtWord u x → s.streamReg x d → s.streamReg x a →
    let ea := scalarAddress (s.X a.toNat) imm size
    let cls : Cls := match s.cur.stream with
      | .lead _ => .lm
      | _ => if scratch then .sp else .vm
    let own := fun c off => { scratchAcc s u 64 size off ea (s.spadPoisoned c off size) [] with
      loc := .spad c off, scalar := some (scalarValue form (s.spadView s.laneReader c off size)) }
    s.countRoom cls = .ok →
    (scratch = false → s.globalPlace u x ea ⟨size, .load, form != 0⟩ = .at loc pm →
      Completes i s fun t => (t.addRead cls (.scalar d.toNat form) s.cur.mask
        [match loc with
          | .spad c off => own c off
          | _ => { lane := 64, loc := loc, size := size, addr := ea }]).laneTlbFill u [ea]) ∧
    (scratch = true → x.reaches ea size size →
      Completes i s fun t => t.addRead cls (.scalar d.toNat form) s.cur.mask [own (u / 4) (x.bind.spbase + ea.toNat)])

/-- R131, R243: a scalar store sends the low bytes of its register to base plus scaled immediate; device and host memory are unchanged until the store reaches its home. One of the own
scratchpad is performed at issue, the model's choice (assumption 3), and changes no other byte. -/
def Obligations.ScalarStores : Prop :=
  ∀ i size scratch d a imm, scalarStoreOf i = some (size, scratch, d, a, imm) → ∀ s u x loc pm, s.AtWord u x → s.streamReg x d → s.streamReg x a →
    let ea := scalarAddress (s.X a.toNat) imm size
    let v := (s.X d.toNat).toNat % 2 ^ (8 * size)
    let off := x.bind.spbase + ea.toNat
    (scratch = false → s.globalPlace u x ea ⟨size, .store, size == 4⟩ = .at loc pm →
      (Completes i s fun t => (t.storeAll s.who x [⟨loc, size, v, pm, ea, none⟩]).laneTlbFill u [ea]) ∧
        ∀ t, exec i s = .next t → t.mem = s.mem ∧ t.hostMem = s.hostMem) ∧
    (scratch = true → x.reaches ea size size →
      (Completes i s fun t => t.storeAll s.who x [⟨.spad (u / 4) off, size, v, false, ea, none⟩]) ∧ ∀ t, exec i s = .next t → t.mem = s.mem ∧ t.hostMem = s.hostMem ∧
        (∀ k, k < size → mget 0 (t.core (u / 4)).spad (off + k) = BitVec.ofNat 8 (v / 256 ^ k)) ∧
        ∀ c k, (c ≠ u / 4 ∨ k < off ∨ off + size ≤ k) → mget 0 (t.core c).spad k = mget 0 (s.core c).spad k)

/-- R190, R191: an ATOM whose lanes' checks pass leaves one counted operation with one access a lane, to be performed at its site; accesses of the own scratchpad are performed
at issue, in lane order, the model's choice (assumption 3). The words of R190 take address registers of any tag. -/
def Obligations.AtomicWords : Prop :=
  ∀ i op ty lvl d a sp, atomOf i = some (op, ty, lvl, d, a, sp) → ∀ s u g e x y (place : Nat → Loc) (pm : Nat → Bool), s.AtSplit u g e x y →
    a.toNat < x.kte.vregs → (∀ n ∈ atomReads op ty d, n < x.kte.vregs) → y.NoPermute s.cur.mask (atomRegs ty d) →
    (if sp = 1 then y.gsp.length < 63 else y.gvm.length < 63) → (∀ n ∈ atomReads op ty d, y.Good s.cur.mask n ∧ (ty.toNat ≤ 1 → y.Tagged s.cur.mask n integerTags)) →
    y.Good s.cur.mask a.toNat → (sp = 0 → y.Good s.cur.mask (a.toNat + 1)) →
    (∀ l, s.cur.mask.getLsbD l = true → s.atomPlace u x op ty sp (atomAddress y a sp l) = .at (place l) (pm l)) →
      ∃ ops new,
        (∀ l, s.cur.mask.getLsbD l = true → mget 0 ops l = BitVec.ofNat 64 (atomData y ty d l).1 ∧ (op = 7 → mget 0 new l = BitVec.ofNat 64 (atomData y ty d l).2)) ∧
        Completes i s fun t =>
          let r := atomicsInOrder u y op ty lvl d (atomAddress y a sp) place (lanesOf s.cur.mask) t
          let q := r.1.addOp (if sp = 1 then .sp else .vm) (.atom d.toNat op ty ops new) s.cur.mask r.2.1
          let q := if op = 7 ∧ r.2.2 then q.modGang u g fun z => { z with ops := z.ops.map fun o => if o.id = r.1.nextId then { o with good := true } else o } else q
          if sp = 0 then q.laneTlbFill u ((lanesOf s.cur.mask).map (atomAddress y a sp)) else q

/-- R190, R194: what an atomic writes, by operation and type; a failed compare writes nothing. -/
def Obligations.AtomicValues : Prop :=
  ∀ (op : Nat) (ty : BitVec 2) (old x new : DWord), op < 8 →
    (ty.toNat ≤ 1 → ∀ o a n : Word, old = o.setWidth 64 → x = a.setWidth 64 → new = n.setWidth 64 →
      atomWrites op ty old.toNat x.toNat new.toNat = (atomTable 32 (ty == 1) o a n op).map BitVec.toNat) ∧
    (2 ≤ ty.toNat → atomWrites op ty old.toNat x.toNat new.toNat = (atomTable 64 (ty == 3) old x new op).map BitVec.toNat)

/-- R198: a SEVICT whose lanes' addresses translate leaves one counted operation, with one access for each block its lanes name. That an address pair of any tag but MASK is taken is
the model's reading of R18 (assumption 36). -/
def Obligations.SeamEviction : Prop :=
  ∀ (a : BitVec 7) s u g e x y, s.AtSplit u g e x y → a.toNat < x.kte.vregs → y.Tagged s.cur.mask a.toNat addressTags →
    y.Good s.cur.mask (a.toNat + 1) → y.gvm.length < 63 →
    let addr := fun l => BitVec.ofNat 64 ((y.V a.toNat l).toNat + 2 ^ 32 * (y.V (a.toNat + 1) l).toNat)
    (∀ l, s.cur.mask.getLsbD l = true → (addr l).toNat % 4 = 0 ∧ (s.inPeerRegion (addr l) = true ∨ ∃ leaf, s.laneXlate u (addr l) = .leaf leaf)) →
      ∃ accs, (Completes (.sevict a) s fun t => (t.addOp .vm .sevict s.cur.mask accs).laneTlbFill u ((lanesOf s.cur.mask).map addr)) ∧
        (accs.map Acc.loc).Nodup ∧
        ∀ q, q ∈ accs.map Acc.loc ↔ ∃ l, s.cur.mask.getLsbD l = true ∧ s.inPeerRegion (addr l) = false ∧ s.sevictBlock u (addr l) = some q

/-- R195, R37, R264: a fence whose conditions hold issues: those of an acquire are that its stream's loads have returned, a release also waits for its stores and the core's blocks.
An acquire of layer scope or wider drops the core's L1 copies and the clean blocks of its dressing cache; a FENCE.REL of layer scope drops L1 and the blocks that are read copies (R259, assumption 87). What an acquire's
stream has seen from then on: `Adoption`. -/
def Sys2Proof.Machine.Fences : Prop :=
  ∀ i acq rel lvl, fenceOf i = some (acq, rel, lvl) → ∀ s u x, s.AtWord u x →
    let l := levelOf s lvl
    (s.loadsReturned = true → (rel = true → s.released l = .ok) → Completes i s fun t => if acq then (t.acquire (u / 4) l).adopt u l else t.relDrop (u / 4) l) ∧
    (s.loadsReturned = false → rel = false → Waits i s) ∧
    (rel = true → s.released l = .wait → exec i s = .next (if l = 0 then s.answered .wait else (s.answered .wait).encodeDirty (u / 4)).blocked)

/-- R195, R245, R259: what a fence discards at level `l`. -/
def Sys2Proof.Machine.FenceEffects : Prop :=
  ∀ (t : State) (c l : Nat),
    (l < 2 → t.acquire c l = t) ∧ (l ≠ 2 → t.relDrop c l = t) ∧ (t.acquire c l).mem = t.mem ∧ (t.relDrop c l).mem = t.mem ∧
    (2 ≤ l → ((t.acquire c l).core c).l1 = [] ∧ ((t.acquire c l).core c).dress = (t.core c).dress.filter (·.dirty)) ∧
    (l = 2 → ((t.relDrop c l).core c).l1 = [] ∧ ((t.relDrop c l).core c).dress = (t.core c).dress.filter fun b => b.dirty || b.claimed)

/-- R256, R258: after an acquire at level `l` a lane read of the unit returns no value that was replaced by a write which lane reads of a unit in the same instance of the level had
seen, or which such a unit made (assumption 85). -/
def Sys2Proof.Machine.Adoption : Prop :=
  ∀ (t : State) (u l id space a n : Nat), t.nextId ≤ id →
    ∀ y ∈ (t.adopt u l).pasts ⟨0, u, id, none⟩ space a n, ∃ x ∈ t.past, y.id = x.id ∧ y.bytes = x.bytes ∧ x.shown 0 (sameInstance l u) = false

/-- R197, R267: XFENCE issues when its first path is done, whatever its second path; accesses of its unit on that path then see every write of the first path, of a word or of a command
whose end is observed (assumption 26), and every write the first path has seen. For the lane and near
paths it also acquires at layer scope, for the stream path the unit's operand queues are read again. Else it is held at the word. R199: LVLQ reads a field of the level chart. -/
def Sys2Proof.Machine.CrossFences : Prop :=
  ∀ s u x, s.AtWord u x →
    (∀ p q : BitVec 3, s.pathDone p.toNat = true →
      Completes (.xfence p q) s fun t =>
        let t := t.pathFence u p.toNat q.toNat t.unobserved
        if q = 0 ∨ q = 3 then t.acquire (u / 4) 2 else if q = 2 then t.refetch u (fun _ => true) else t) ∧
    (∀ p q : BitVec 3, s.pathDone p.toNat = false →
      exec (.xfence p q) s = .next (if p.toNat ≤ 1 then (s.answered .hold).encodeDirty (u / 4) else s.answered .hold).interlocked) ∧
    (∀ (d : BitVec 6) (lvl : BitVec 3) (f : BitVec 4), s.streamReg x d →
      Completes (.lvlq d lvl f) s fun t => t.setX d.toNat (BitVec.ofNat 64 (s.levelField (some (u / 4 / 48)) lvl.toNat f.toNat)))

/-- R197, R266, R267: after XFENCE from path `p` to path `q` of unit `u`, no access of the unit on `q` that begins later, and no command on `q` that starts later and so fetches ahead only
from its start on (R331), returns what a write replaced that was shown on path `p`: made on it, or seen by its reads, by a unit of the core for the lane path (R267) and by the unit itself for
an engine's. Left out are the writes of a command that stands without a copy channel, whose end nobody has observed (assumption 26). The numbers of what is remembered lie
below the next. What the fence leaves of the memory of replaced values is the same values. -/
def Sys2Proof.Machine.PathFences : Prop :=
  ∀ (t : State) (u p q : Nat) (open' : Nat → Bool) (r : Reader) (space a n : Nat), r.path = q → r.unit = u → t.nextId ≤ r.id → (∀ k ∈ r.since, t.nextId ≤ k) →
    (∀ x ∈ t.past, x.id < t.nextId) →
    (∀ y ∈ (t.pathFence u p q open').pasts r space a n, ∃ x ∈ t.past, y.id = x.id ∧ y.bytes = x.bytes ∧
      ¬ (x.shown p (fun v => if p = 0 then v / 4 == u / 4 else v == u) = true ∧ x.cmd.any open' = false)) ∧
    (t.pathFence u p q open').past.map (fun y => (y.id, y.space, y.bytes)) = t.past.map (fun y => (y.id, y.space, y.bytes))

/-- R195, R197, R199: fences, XFENCE and LVLQ. -/
def Obligations.FenceWords : Prop := Fences ∧ FenceEffects ∧ Adoption ∧ CrossFences ∧ PathFences

/-- R200, R201: BOINIT, BOEXPECT and BOARRIVE change the 16 bytes of a barrier object at once; BOWAIT passes when the object's phase differs from bit 0 of its operand, and waits otherwise. -/
def Obligations.BarrierObjects : Prop :=
  ∀ s u x, s.AtWord u x → ∀ o v : BitVec 6, s.streamReg x o → s.streamReg x v → x.reaches (s.X o.toNat) 16 16 →
    let c := u / 4
    let off := x.bind.spbase + (s.X o.toNat).toNat
    s.spadPoisoned c off 16 = false →
    (∀ i rel f, objectOf i = some (o, v, rel, f) → (rel = true → s.released 1 = .ok) →
      Completes i s fun t => t.spadWrite c off 16 (f (barObj (t.spadRead c off 16)) (s.X v.toNat).toNat).value) ∧
    (s.phaseBefore c off ≠ (s.X v.toNat).toNat % 2 → Completes (.bowait o v) s id) ∧
    (s.phaseBefore c off = (s.X v.toNat).toNat % 2 → Waits (.bowait o v) s)

/-- R149, R229, R230: SEND appends to the routed unit's port queue, or is discarded for a unit of the launch that has ended; RECV takes the oldest value; DQPUSH and DQPOP serve the decision queue; CHWP reads a
channel. A queue that cannot serve the word makes it wait. -/
def Obligations.Channels : Prop :=
  ∀ s u x, s.AtWord u x → ∀ r ch : BitVec 6, s.streamReg x r → ch.toNat < 49 →
    let p := ch.toNat - 32
    (∀ k q, s.sendTo u x p = .port k q → s.released (levelOf s 2) = .ok →
      Completes (.send r ch) s fun t => t.modUnit k fun y => { y with ports := mset [] y.ports q (mget [] y.ports q ++ [s.X r.toNat]) }) ∧
    (s.sendTo u x p = .discard → s.released (levelOf s 2) = .ok → Completes (.send r ch) s id) ∧
    (s.sendTo u x p = .wait → s.released (levelOf s 2) = .ok → exec (.send r ch) s = .next ((s.answered .wait).encodeDirty (u / 4)).blocked) ∧
    (s.sendTo u x p = .noRoute → Traps (.send r ch) s (s.allLanes .channelUnavailable)) ∧
    (∀ v q, mget [] x.ports p = v :: q → x.badFirst (1 + p) 1 = false →
      Completes (.recv r ch) s fun t => ((t.modUnit u fun y => { y.popBad (1 + p) 1 with ports := mset [] y.ports p q }).setX r.toNat v).acquire (u / 4) (levelOf s 2) |>.adopt u (levelOf s 2)) ∧
    (mget [] x.ports p = [] → Waits (.recv r ch) s) ∧
    (s.AtLead u x → s.released 1 = .ok → s.queueRoom (u / 4) x.dq.length x.dq.length 1 x.qlim.decision = true →
      Completes (.dqpush r) s fun t => t.modUnit u fun y => { y with dq := y.dq ++ [s.X r.toNat] }) ∧
    (¬ s.AtLead u x → ∀ v q, x.dq = v :: q → x.badFirst 0 1 = false → Completes (.dqpop r) s fun t => (t.modUnit u fun y => { y.popBad 0 1 with dq := q }).setX r.toNat v) ∧
    (¬ s.AtLead u x → x.dq = [] → x.badFirst 0 1 = false → if x.lead.state = .stopped then Completes (.dqpop r) s fun t => t.setX r.toNat (BitVec.ofNat 64 (2 ^ 64 - 1)) else Waits (.dqpop r) s) ∧
    (ch.toNat < 16 → Completes (.chwp r ch) s fun t => t.setX r.toNat
      (BitVec.ofNat 64 ((mget {} x.chans ch.toNat).ptr % 2 ^ 63 + if (mget {} x.chans ch.toNat).stopped then 2 ^ 63 else 0))) ∧
    (32 ≤ ch.toNat → Completes (.chwp r ch) s fun t => t.setX r.toNat (BitVec.ofNat 64 (mget [] x.ports p).length)) ∧
    (∀ g e y, s.AtSplit u g e x y → 16 ≤ ch.toNat → ch.toNat < 32 →
      Completes (.chwp r ch) s fun t => t.setX r.toNat (BitVec.ofNat 64 (mget {} x.opq (16 * g + (ch.toNat - 16))).elems.length))

/-- R206, R213 to R227: an engine word whose entry's conditions hold and whose queue has room is accepted: the command, with the records and operands as they stand, joins the unit's commands, and the lead goes
on. A matrix word without the grant traps as privilege; a full queue makes the lead wait. -/
def Sys2Proof.Machine.EngineCommands : Prop :=
  ∀ i s u x, s.AtLead u x →
    (∀ ok r, engineRow s u x i = some (ok, r) → ok → s.cmdRoom u x r.cmd.op.engine = .ok →
      Completes i s fun t => (t.accept u r.cmd).modUnit u fun y => { y with imx := r.imx y.imx }) ∧
    (∀ ok r, engineRow s u x i = some (ok, r) → ok → s.cmdRoom u x r.cmd.op.engine = .wait → Waits i s) ∧
    (∀ ok r, engineRow s u x i = some (ok, r) → ¬ holdsGrant s u → r.cmd.op.engine = .tile → r.cmd.op ≠ .tcopy → Traps i s [⟨0, .privilege, 0⟩])

/-- R206, R306: an accepted command joins the unit's commands; nothing else changes but the walk-ahead TLB of its core. -/
def Sys2Proof.Machine.Acceptance : Prop :=
  ∀ (s : State) u x c, s.unit? u = some x →
    ∃ cores, s.accept u c = { s with units := mput s.units u { x with cmds := x.cmds ++ [c] }, nextId := s.nextId + 1, cores := cores } ∧
      (∀ k, mget {} cores k = { s.core k with wtlb := (mget {} cores k).wtlb }) ∧ ∀ k, k ≠ u / 4 → mget {} cores k = s.core k

/-- R212: TREC copies the 64 bytes at its address into the slot, in program order with the lead's own accesses; a record in error traps as undefined instruction and leaves the slot. What it read, later lane reads of the unit have seen (R258). -/
def Sys2Proof.Machine.RecordLoads : Prop :=
  ∀ (a : BitVec 5) (space : BitVec 2) (slot : BitVec 3) s u x loc pm v, s.AtLead u x → s.recPlace u x space (s.X a.toNat) = .at loc pm → s.readRecord u x loc = .ok v →
    if recErr v then Traps (.trec a space slot) s [⟨0, .undefinedInstruction, 0⟩]
    else exec (.trec a space slot) s = .next ((s.viewed s.laneReader loc 64).withUnit u { x with slots := mput x.slots slot.toNat (BitVec.ofNat 512 v), lead := x.lead.moved s.cur })

/-- R206, R212 to R227: the engine words of the lead. -/
def Obligations.EngineWords : Prop := EngineCommands ∧ Acceptance ∧ RecordLoads

/-- R231, R234 to R236: CANCEL cancels a live part of the issuing job and has no effect for any other handle; CTXSV asks for a save; DSLD reads a device register as a counted load and DSST writes one. The fields of a handle a
CANCEL does not look at, and the order of CTXSV's answers, are the model's choices (assumptions 94 and 96); CTXSV is held while the sector of its `stat` is. -/
def Obligations.SystemWords : Prop :=
  ∀ s u x, s.AtLead u x →
    (∀ i h part, cancelOf i = some (h, part) →
      let v := if s.X h.toNat = 0 then x.bind.handle else s.X h.toNat
      let a := part (v.toNat / 2 ^ 32 % 2 ^ 16) (v.toNat / 2 ^ 16 % 2 ^ 16)
      (∀ o b, x.origin = some o → mfind s.jobs o.job = some b → v.toNat / 2 ^ 48 = 1 → v.toNat / 2 ^ 6 % 2 ^ 10 = 0 → a.live b = true →
        let r := (s.answered .ok).cancelPart o.job b a
        exec i s = .next (match r.unit? u with
          | some y => if y.cancel then r.modLead u fun l => { l with state := .waiting } else r.advance
          | none => r)) ∧
      ((x.origin = none ∨ (∃ o, x.origin = some o ∧ mfind s.jobs o.job = none) ∨ v.toNat / 2 ^ 48 ≠ 1 ∨ v.toNat / 2 ^ 6 % 2 ^ 10 ≠ 0 ∨
        ∃ o b, x.origin = some o ∧ mfind s.jobs o.job = some b ∧ a.live b = false) → Completes i s id)) ∧
    (x.bind.sys = true →
      (∀ (h : BitVec 5) loc pm v, s.globalPlace u x (s.X h.toNat) ⟨32, .load, false⟩ = .at loc pm → s.readRecord u x loc 32 = .ok v →
        (s.hubOpen (s.X h.toNat + 16) 8 = true → Completes (.ctxsv h) s fun t => t.askSave u (s.X h.toNat) v) ∧
        (s.hubOpen (s.X h.toNat + 16) 8 = false → exec (.ctxsv h) s = .next (s.answered .hold).interlocked)) ∧
      (∀ (d a : BitVec 6) (imm : BitVec 10) r, d.toNat < 32 → a.toNat < 32 →
        let ea := scalarAddress (s.X a.toNat) imm 8
        ea.toNat % 8 = 0 → s.devReg ea.toNat = some r →
        (x.lead.ops.length < 63 → Completes (.dsld d a imm) s fun t => t.addOp .lm (.scalar d.toNat 0) s.cur.mask
          [{ lane := 64, loc := .spad (u / 4) 0, size := 8, addr := ea, done := true,
             scalar := some (BitVec.ofNat 64 (t.regRead (some (u / 4 / 48)) r)) }]) ∧
        (Completes (.dsst d a imm) s fun t =>
          if r = .xltInv then (t.regWrite (s.X d.toNat) r).modLead u fun l => { l with devWait := true } else t.regWrite (s.X d.toNat) r)))
namespace Sys2Proof.Machine

/-! ### The machine as a whole -/

/-- Device-space registers and the reset value the manual's tables give them (R5). -/
def resetRegisters : List (DevReg × Nat) :=
  [(.sqCtl 0, 0), (.sqTail 0, 0), (.sqHead 0, 0), (.xltStat, 0), (.migStat, 0), (.fsplit, 0), (.dlogCtl, 0), (.hbmPwrcfg, 2 ^ 57 + 2 ^ 56 + 1000 * 2 ^ 24 + 20), (.hbmPchst 0, 0),
   (.svyStatus, 0), (.svyDie 0, 0), (.svyArr 0, 0), (.pwrCtl, 8 * 2 ^ 24 + 3600), (.pwrStat, 17), (.vxlPort 0, 0), (.sltStat 0, 0)]

/-- The same registers of another queue, channel, die, layer, port or slot. -/
def DevReg.sameKind : DevReg → DevReg → Prop
  | .sqCtl _, .sqCtl _ => True
  | .sqTail _, .sqTail _ => True
  | .sqHead _, .sqHead _ => True
  | .hbmPchst _, .hbmPchst _ => True
  | .svyDie _, .svyDie _ => True
  | .svyArr _, .svyArr _ => True
  | .vxlPort _, .vxlPort _ => True
  | .sltStat _, .sltStat _ => True
  | a, b => a = b

/-- A plane holds zero weights, no NaN flag, and the RAW tag. -/
def Plane.cleared (p : Plane) : Prop := p.tag = .raw ∧ ∀ n, mget 0 p.w n = 0 ∧ mget false p.nan n = false

/-- A tile holds zero triples, no flag, the RAW tag, and no pass. -/
def Tile.cleared (t : Tile) : Prop := t.tag = .raw ∧ t.passes = 0 ∧ ∀ n, mget 0 t.t n = 0 ∧ mget false t.nan n = false

end Sys2Proof.Machine

/-- R5, R31, R33, R328, R353, R361, R371: what device reset leaves: every core's matrix state cleared with selector 0 and its cycle counter 0, no unit resident, and the device-space registers at the
reset values of their tables. -/
def Obligations.ResetValues : Prop :=
  (∀ c, (State.reset.core c).cycle = 0 ∧ (State.reset.core c).mx.sel = false ∧ (State.reset.core c).mx.plane0.cleared ∧ (State.reset.core c).mx.plane1.cleared ∧
    ∀ t, (mget {} (State.reset.core c).mx.tiles t).cleared) ∧
  (∀ u, State.reset.unit? u = none) ∧
  ∀ p ∈ resetRegisters, ∀ r n, p.1.sameKind r → State.reset.regRead n r = p.2

/-- The memories of the reset state are in canonical form. Derived: the form is the model's (guide, assumption 2). -/
def Obligations.MemoryAtReset : Prop := State.reset.memOk

/-- Every step keeps device memory, host memory and Miryen's own in canonical form: addresses strictly rising, no entry equal to what an unlisted address reads as. Derived: the form is the model's (assumption 2). -/
def Obligations.MemoryStaysCanonical : Prop := ∀ s t, s.memOk → step s = .next t → t.memOk

/-- R39 to R71: decoding the bytes of an encoded well-formed instruction, with either chain bit, gives back the chain bit, the instruction with every operand, and the bytes that follow. -/
def Obligations.EncodingsDecode : Prop :=
  ∀ i chain w rest, i.wf = true → encodeWord chain i = some w → decodeBytes (bytesOfWord w ++ rest) = .ok (chain, i, rest)

/-- R39, R54 to R71: words written out from the encoding tables stand for their instructions; words with a reserved bit set, an unassigned sub-opcode or an unassigned major are refused. -/
def Obligations.DecodedWords : Prop :=
  decodeWord 0b0_00001_000000_00000000000000000000 = .ok .nop ∧
  decodeWord 0b0_00010_0101_011111_1111111111111110 = .ok (.call 31 0xFFFE) ∧
  decodeWord 0b1_00011_000000_000011_000001_000010_00 = .ok (.add 3 1 2) ∧
  decodeWord 0b0_00100_0000_000101_000100_1111111111 = .ok (.addi 5 4 0x3FF) ∧
  decodeWord 0b0_01001_00101_0000111_0000001_0000010 = .ok (.vfmaF32 7 1 2) ∧
  decodeWord 0b0_10001_0_0001_0001000_0000100_000011_1 = .ok (.vld 1 8 4 3 1) ∧
  decodeWord 0b0_10101_111_10_101_0001000_0000010_00_00 = .ok (.atomCas 2 5 8 2 0) ∧
  decodeWord 0b0_11000_00011_00001_00010_00000_10_1_011 = .ok (.mma 1 2 2 1 3) ∧
  decodeWord 0b0_00001_000000_00000000000000000001 = .error .reservedBits ∧
  decodeWord 0b0_00001_111111_00000000000000000000 = .error .unassignedOp ∧
  decodeWord 0 = .error .unassignedMajor ∧
  decodeWord 0b0_10000_00000_0000001_0000010_0000011 = decodeWord 0b1_10000_00000_0000001_0000010_0000011

/-- R41, R42, R44, R179: a step whose turn it is to issue a stream that may issue runs the instruction its word at IP and WD decodes to, with the cursor at the stream's place and the place after it, the
translation of the word cached, and no late fault to be taken first; the outcome is `exec`'s behind the V pipe, with the cursor put away. A step whose turn it is to perform an event runs the event. -/
def Sys2Proof.Machine.StepRunsWord : Prop :=
  (∀ (s : State) (st : Stream) rest u k w i, s.agenda = .issue st :: rest → st.unit = some u → s.issues st = true →
    let t := ({ s with agenda := rest } : State).seat st
    let base := t.codeBase
    t.chainAt u base t.cur.ip 3 t.cur.wd = [(k, .word w)] → decodeWord w = .ok i → chainLegal st.isLead [w] = true →
      let q := t.laneTlbFill u [wordAddr base t.cur.ip k]
      let next := q.placeAfter u base q.cur.ip k
      let r : State := { q with cur := { q.cur with nip := next.1, nwd := next.2, chained := false } }
      r.lateHere = none → step s = settle (r.vPipe [(w, .ok i)] (exec i r))) ∧
  (∀ (s : State) i rest, s.agenda = [] → s.sched = .event i :: rest → encode i = none → step s = settle (exec i { s with sched := rest }))

/-- R46 to R49, R72: two or three chained words are checked on the state before the chain. An illegal chain traps; where every word's checks pass all their effects are written, the words that read counters and queues first, the
S or H word last, each reading the registers as they stood before the chain; where one traps and none waits, the chain traps with the faults of its words in order, and no word has an effect. -/
def Sys2Proof.Machine.StepRunsChain : Prop :=
  ∀ (s : State) (st : Stream) rest u k w i (l : List (Nat × Word × Instr)), s.agenda = .issue st :: rest → st.unit = some u → s.issues st = true → 2 ≤ l.length →
    let t := ({ s with agenda := rest } : State).seat st
    let base := t.codeBase
    t.chainAt u base t.cur.ip 3 t.cur.wd = (l.map fun p => (p.1, .word p.2.1)) → (∀ p ∈ l, decodeWord p.2.1 = .ok p.2.2) → l.getLast? = some (k, w, i) →
      let cw : List ChainWord := l.map fun p => (p.2.1, .ok p.2.2)
      let q := t.laneTlbFill u (l.map fun p => wordAddr base t.cur.ip p.1)
      let next := q.placeAfter u base q.cur.ip k
      let r : State := { q with cur := { q.cur with nip := next.1, nwd := next.2, chained := true } }
      let vs := l.map fun p => outcomeVerdict (exec p.2.2 r)
      r.lateHere = none →
        (chainLegal st.isLead (l.map (·.2.1)) = false → step s = settle (r.vPipe cw (.next (r.trapHere (r.allLanes .illegalChain))))) ∧
        (chainLegal st.isLead (l.map (·.2.1)) = true → (∀ v ∈ vs, v = .ok) → r.pairFull cw = false →
          step s = settle (r.vPipe cw (match runWords exec (effectOrder r.cur.stream.isLead cw) { r.freeze with cur := { r.freeze.cur with commit := true } } with
            | .next z => .next (z.thaw r)
            | other => other))) ∧
        (chainLegal st.isLead (l.map (·.2.1)) = true → r.early cw vs = none → .wait ∉ vs → .hold ∉ vs → r.pairFull cw = false → chainFaults vs ≠ [] →
          step s = settle (r.vPipe cw (.next (r.trapHere (chainFaults vs)))))

/-- R155: a word of another pipe, or of the lead, does not meet the V pipe; a V word is held while an F64 word holds the pipe of a slice it uses; an F64 word that issues holds it. -/
def Sys2Proof.Machine.VPipe : Prop :=
  (∀ (r : State) cw o, (r.cur.stream.isLead = true ∨ usesV cw = false) → r.vPipe cw o = o) ∧
  (∀ (r : State) cw o, r.vBusy = false → usesF64 cw = false → r.vPipe cw o = o) ∧
  (∀ (r : State) cw t, r.cur.stream.isLead = false → usesV cw = true → r.vBusy = true → t.cur.verdict ≠ .wait → t.cur.verdict ≠ .hold → r.vPipe cw (.next t) = .next r.interlocked) ∧
  (∀ (r : State) cw t, r.cur.stream.isLead = false → usesV cw = true → usesF64 cw = true → r.vBusy = false → t.cur.verdict = .ok →
    r.vPipe cw (.next t) = .next (t.modCore r.hereCore (·.holdV r.hereSlices)))

/-- R41 to R49, R72, R155, R179: a step runs the word or the chain it decodes, or the event whose turn it is. -/
def Obligations.StepRunsDecoded : Prop := StepRunsWord ∧ StepRunsChain ∧ VPipe

/-- Every instruction answers a next state: an event always, a word wherever its stream exists. R22, R72: what a word may not do, it waits for or traps on. -/
def Obligations.NoInstructionStops : Prop := ∀ (i : Instr) (s : State), (encode i = none ∨ s.live = true) → ∃ t, exec i s = .next t

/-! ### The registers the host and system leads write -/

/-- R276, R277, R300, R356: a taken SQ_TAIL, over the link of its queue, moves the tail, any other leaves it (that one over another link is not taken is the model's choice, assumption 102); SQ_BASE and SQ_SIZE are taken only while `en` is 0 and the value is legal, and set SQ_HEAD and the tail to 0; SQ_CTL sets `prio` and
`en`, and `priv` only while `en` is 0; the first queue to be enabled after a CTX_DESC has its descriptor read, and one in error, or of a mode that presents no device, disables every queue; CTX_DESC is taken only while no queue is enabled and no
job runs. No queue is enabled before the survey is done (R357), and none that the presented device does not have stays enabled. -/
def Obligations.QueueRegisters : Prop :=
  (∀ (s : State) q v, q < s.queueCount →
    let k := s.queue q
    let n := 2 ^ k.size
    let t := v.toNat % 2 ^ 16
    let door := if s.ctx.pmode = 1 then q / 32 else 0
    let put := fun (x : SubQueue) => ({ s with queues := mset {} s.queues q x } : State)
    let on : SubQueue := { k with prio := v.toNat % 8, priv := v.getLsbD 4, en := true }
    ((t < n ∧ (k.tail + n - k.head) % n ≤ (t + n - k.head) % n) → exec (.sqTail (door, q) v) s = .next (put { k with tail := t })) ∧
    (¬(t < n ∧ (k.tail + n - k.head) % n ≤ (t + n - k.head) % n) → exec (.sqTail (door, q) v) s = .next s) ∧
    (∀ link, link ≠ door → exec (.sqTail (link, q) v) s = .next s) ∧
    (k.en = false → v.toNat % 4096 = 0 → exec (.sqBase q v) s = .next (put { k with base := v, head := 0, tail := 0 })) ∧
    ((k.en = true ∨ v.toNat % 4096 ≠ 0) → exec (.sqBase q v) s = .next s) ∧
    (k.en = false → 4 ≤ v.toNat → v.toNat ≤ 16 → exec (.sqSize q v) s = .next (put { k with size := v.toNat, head := 0, tail := 0 })) ∧
    ((k.en = true ∨ v.toNat < 4 ∨ 16 < v.toNat) → exec (.sqSize q v) s = .next s) ∧
    (v.getLsbD 3 = false → exec (.sqDisable q v) s = .next (put { k with prio := v.toNat % 8, priv := if k.en then k.priv else v.getLsbD 4, en := false })) ∧
    (v.getLsbD 3 = true → s.svy.done = true → k.en = true → exec (.sqEnable q v) s = .next (put { k with prio := v.toNat % 8 })) ∧
    (v.getLsbD 3 = true → s.svy.done = true → k.en = false → s.ctxNew = false → s.ctxBad = false → exec (.sqEnable q v) s = .next (put on)) ∧
    (∀ c, v.getLsbD 3 = true → s.svy.done = true → k.en = false → s.ctxNew = true → s.readCtx = some c → s.presents c = true →
      let t : State := { put on with ctx := c, ctxNew := false, ctxBad := false }
      exec (.sqEnable q v) s = .next t.dropQueues ∧ (rising t.queues = true → ∀ i, (t.dropQueues.queue i).en = ((t.queue i).en && decide (i < t.queueCount)))) ∧
    (v.getLsbD 3 = true → s.svy.done = true → k.en = false → s.ctxNew = true → (s.readCtx = none ∨ ∃ c, s.readCtx = some c ∧ s.presents c = false) →
      ∃ r, exec (.sqEnable q v) s = .next r ∧ r.ctx = s.ctx ∧ ∀ i, (r.queue i).en = false) ∧
    (v.getLsbD 3 = true → s.svy.done = false → ∃ r, exec (.sqEnable q v) s = .next r ∧ (r.queue q).en = false)) ∧
  ∀ (s : State) v, (s.anyEnabled = false → s.jobs = [] → exec (.ctxDesc v) s = .next { s with ctxReg := v, ctxNew := true }) ∧
    ((s.anyEnabled = true ∨ s.jobs ≠ []) → exec (.ctxDesc v) s = .next s)

namespace Sys2Proof.Machine

/-- R5, R277, R293, R300, R307, R320, R328, R329, R349, R353, R356, R369, R371: a write of the host to a register's address, over a link of the presented device, does what the register's own event does; one to a register
that is only read, to an address that is not a multiple of 8, or, while FSPLIT bit 0 is 0, to a slot register does nothing; one over another link does nothing (assumption 7). A write to SLT_BIND is taken while the slot is free. -/
def RegisterWrites : Prop := ∀ (s : State) (link : Nat) v,
  let write := fun (a : BitVec 64) => exec (.registerWrite (link, a) v) s
  (link ≠ 0 → ¬(link = 1 ∧ s.ctx.pmode = 1) → ∀ a, write a = .next s) ∧
  ((link = 0 ∨ (link = 1 ∧ s.ctx.pmode = 1)) →
  (∀ q, q < s.queueCount →
    let at_ := fun (o : Nat) => BitVec.ofNat 64 (0x30000 + 64 * q + o)
    write (at_ 0x00) = exec (.sqBase q v) s ∧ write (at_ 0x08) = exec (.sqSize q v) s ∧ write (at_ 0x10) = exec (.sqTail (link, q) v) s ∧ write (at_ 0x18) = .next s ∧
    write (at_ 0x20) = exec (if v.getLsbD 3 then .sqEnable q v else .sqDisable q v) s) ∧
  (∀ p ∈ [(0x40000#64, Instr.ctxDesc v), (0x60000#64, .fsplit v), (0x70000#64, .frBase v), (0x70008#64, .frSize v), (0x70010#64, .frHead v), (0x80010#64, .dlogTrim v), (0x80018#64, .dlogCtl v),
      (0x90000#64, .hbmPwrcfg v), (0xB0000#64, .pwrCtl v), (0x40010#64, if recField v.toNat 2 2 = 3 then .xltInvAll v else .xltInvPage v),
      (0x70018#64, if v.getLsbD 32 then .frAckVerdict1 (v.setWidth 32) else .frAckVerdict0 (v.setWidth 32))], write p.1 = exec p.2 s) ∧
  (v.toNat % 4 = 1 → write 0x50000#64 = exec (.migReqHbm v) s) ∧ (v.toNat % 4 = 2 → write 0x50000#64 = exec (.migReqLpddr v) s) ∧
  (v.getLsbD 1 = true → write 0x40018#64 = .next { s with xlt := { s.xlt with err := false } }) ∧
  (∀ a ∈ [0x50008#64, 0x70020#64, 0x80000#64, 0x80008#64, 0xA0000#64, 0xB0008#64], write a = .next s) ∧
  (∀ a : BitVec 64, a.toNat % 8 ≠ 0 → write a = .next s) ∧
  (∀ a : BitVec 64, 0x1000000 ≤ a.toNat → s.fsplit.getLsbD 0 = false → write a = .next s) ∧
  ∀ y k j, y < 16 → k < 48 → j < 4 → s.fsplit.getLsbD 0 = true → s.hasCore (48 * y + k) = true →
    let u := 4 * (48 * y + k) + j
    let bind := 0x1000000#64 + BitVec.ofNat 64 (0x10000 * y + 0x400 * k + 0x40 * j)
    (s.slotState u = 0 → write bind = .next { s with binding := mput s.binding u { value := v } }) ∧
    (s.slotState u ≠ 0 → write bind = .next { s with slotErr := mset 0 s.slotErr u 1 }))

/-- No translation an invalidation names is cached. -/
def noneNamed (i : XltInv) (s : State) : Prop := (∀ e ∈ s.hubTlb, i.names e = false) ∧ ∀ c, ∀ e ∈ (s.core c).tlb ++ (s.core c).wtlb, i.names e = false

/-- R307: a write to XLT_INV while none is in progress starts an invalidation and drops the named translations; one while busy sets `err` and is ignored; when `busy` falls no TLB holds a named translation,
every older access is performed, and the leads that wait for it go on. -/
def Invalidations : Prop := ∀ (s : State) v,
  let i : XltInv := { s.xlt with busy := true, va := recField v.toNat 16 36 * 65536, size := recField v.toNat 2 2, mark := s.nextId }
  (∀ w ∈ [if recField v.toNat 2 2 = 3 then Instr.xltInvAll v else .xltInvPage v],
    (s.xlt.busy = true → exec w s = .next { s with xlt := { s.xlt with err := true } }) ∧
    (s.xlt.busy = false → ∃ t, exec w s = .next t ∧ t.xlt = i ∧ noneNamed i t ∧ t.units = s.units ∧ t.mem = s.mem)) ∧
  (s.xlt.busy = true → s.olderAccess s.xlt.mark = false → (∀ c ∈ s.cores, c.2.dress = [] ∧ c.2.wbs = []) →
    ∃ t, exec .xltInvComplete s = .next t ∧ t.xlt = { s.xlt with busy := false } ∧ noneNamed s.xlt t ∧ t.mem = s.mem ∧
      (s.mig.flush = true → t.mig.busy = false ∧ t.mig.res = 0) ∧ (s.mig.flush = false → t.mig = s.mig) ∧
      ∀ u x, s.unit? u = some x → t.unit? u = some { x with lead := { x.lead with devWait := false } }) ∧
  ((s.xlt.busy = false ∨ s.olderAccess s.xlt.mark = true) → exec .xltInvComplete s = .next s)

/-- R320: a migration request names a tier; while one runs it is ignored; `res` says why one does not start: 1 no device-memory page, 2 tier full, 3 already there; one that starts is busy. The page Miryen takes
is free (assumption 27). -/
def MigrationRequests : Prop := ∀ (s : State) v, ∀ p ∈ [(1, Instr.migReqHbm v), (2, .migReqLpddr v)], v.toNat % 4 = p.1 →
  let va := recField v.toNat 16 36 * 65536
  let inTier := fun (a : Nat) => if p.1 = 1 then s.isHbm a else isLpddr a
  let res := fun (r : Nat) => ({ s with mig := { s.mig with res := r } } : State)
  (s.mig.busy = true → exec p.2 s = .next s) ∧
  (s.mig.busy = false → s.leafEntry va = none → exec p.2 s = .next (res 1)) ∧
  ∀ e entry n, s.mig.busy = false → s.leafEntry va = some (e, entry, n) →
    let src := ptePa e
    let len := pagesOf (pteSize e) * 65536
    ((pteS e = true ∨ pteKind e ≠ 0 ∨ s.owned src = false) → exec p.2 s = .next (res 1)) ∧
    (pteS e = false → pteKind e = 0 → s.owned src = true →
      (inTier src = true → exec p.2 s = .next (res 3)) ∧
      (inTier src = false → Config.freePage p.1 s.nextId = none → exec p.2 s = .next (res 2)) ∧
      ∀ dst, inTier src = false → Config.freePage p.1 s.nextId = some dst → dst % len = 0 → inTier dst = true → inTier (dst + len - 1) = true → s.owned dst = true →
        s.owned (dst + len - 1) = true → (∀ m ∈ s.mem, ¬(dst ≤ m.1 ∧ m.1 < dst + len)) →
          exec p.2 s = .next ({ s with mig := { busy := true, va := va, bytes := len, src := src, dst := dst, entry := entry } } : State).fresh)

/-- R297, R328, R329, R349, R353, R371: what a write to each of the other registers leaves; a value out of range is ignored, that of FR_BASE and FR_SIZE by the model's choice (assumption 53). -/
def OtherRegisters : Prop := ∀ (s : State) v,
  let f := recField v.toNat
  (s.anyEnabled = false → exec (.fsplit v) s = .next { s with fsplit := v.setWidth 6 }) ∧
  (s.anyEnabled = true → ∃ t, exec (.fsplit v) s = .next { s with fsplit := t } ∧ t.getLsbD 0 = s.fsplit.getLsbD 0 ∧ ∀ i, 1 ≤ i → i < 6 → t.getLsbD i = v.getLsbD i) ∧
  (f 0 16 < f 24 32 → exec (.hbmPwrcfg v) s = .next { s with pwrcfg := { sren := v.getLsbD 57, pden := v.getLsbD 56, sridle := f 24 32, pdidle := f 0 16 } }) ∧
  (f 24 32 ≤ f 0 16 → exec (.hbmPwrcfg v) s = .next s) ∧
  ((1800 ≤ f 0 12 ∧ f 0 12 ≤ 3600 ∧ 8 ≤ f 24 5 ∧ f 24 5 ≤ 17) → exec (.pwrCtl v) s = .next { s with pwr := { s.pwr with cap := f 0 12, fmin := f 24 5 } }) ∧
  (¬(1800 ≤ f 0 12 ∧ f 0 12 ≤ 3600 ∧ 8 ≤ f 24 5 ∧ f 24 5 ≤ 17) → exec (.pwrCtl v) s = .next s) ∧
  (v.toNat % 4096 = 0 → exec (.frBase v) s = .next ({ s with fr := { s.fr with base := v, widx := 0, head := 0, ph := true } } : State).ringPump) ∧
  (v.toNat % 4096 ≠ 0 → exec (.frBase v) s = .next s) ∧
  (4 ≤ v.toNat → v.toNat ≤ 16 → exec (.frSize v) s = .next ({ s with fr := { s.fr with size := v.toNat, widx := 0, head := 0, ph := true } } : State).ringPump) ∧
  ((v.toNat < 4 ∨ 16 < v.toNat) → exec (.frSize v) s = .next s) ∧
  (v.toNat < 2 ^ s.fr.size → exec (.frHead v) s = .next ({ s with fr := { s.fr with head := v.toNat } } : State).ringPump) ∧
  (∃ fl, exec (.dlogTrim v) s = .next { s with flash := fl } ∧ ∀ i, mfind fl i =
    if v.toNat % 2 ^ 40 ≤ i ∧ i < v.toNat % 2 ^ 40 + v.toNat / 2 ^ 40 ∧ s.ctx.dfirst ≤ i ∧ i < s.ctx.dfirst + s.ctx.dcount ∧ s.hub.any (·.appends i) = false then none else mfind s.flash i) ∧
  (v.getLsbD 0 = true → s.fsplit.getLsbD 4 = true → exec (.dlogCtl v) s = .next { s with dlog := { s.dlog with busy := true } }) ∧
  ((v.getLsbD 0 = false ∨ s.fsplit.getLsbD 4 = false) → exec (.dlogCtl v) s = .next s) ∧
  ∀ u cls,
    (s.slotState u ≠ 2 → exec (.qpoolLim u cls v) s = .next s) ∧
    ∀ x, s.unit? u = some x → s.slotState u = 2 →
      let y : Unit := { x with qlim := x.qlim.put cls ⟨f 16 12, f 0 12⟩ }
      (y.poolUse ≤ s.poolFree (coreOf u) + x.poolUse → exec (.qpoolLim u cls v) s = .next (s.modUnit u fun _ => y)) ∧
      (s.poolFree (coreOf u) + x.poolUse < y.poolUse → exec (.qpoolLim u cls v) s = .next { s with slotErr := mset 0 s.slotErr u 7 })

end Sys2Proof.Machine

/-- R5, R297, R307, R320, R328, R329, R349, R353, R369, R371: the device-space registers: host writes by address, invalidations, migration requests, and the others. That a write over a link of
another device does nothing is the model's choice (assumption 7); that an FR_BASE with bits 11 to 0 set and an FR_SIZE outside 4 to 16 are ignored is too (assumption 53): R329 gives only the form of the fields. -/
def Obligations.DeviceRegisters : Prop := RegisterWrites ∧ Invalidations ∧ MigrationRequests ∧ OtherRegisters

namespace Sys2Proof.Machine

/-! ### Jobs, units and gangs -/

/-- R277, R278, R279: a submitted record is read and SQ_HEAD moves on; with `comp` misplaced an error record stands in for the completion record; with its tables in order the job is accepted; with one in error
it ends with `status` 1. Nothing is read of a disabled or empty queue, of one the device does not have (R276), or after a
fatal error (R372). What a ring record does that the link delivered poisoned is the model's choice (assumption 107). -/
def JobAcceptance : Prop := ∀ (s : State) q,
  let k := s.queue q
  let r := s.hostMem.readNat (k.base.toNat + 128 * k.head) 128
  let comp := BitVec.ofNat 64 (recField r 128 64)
  let t := fun (last : Option Nat) => ({ s with queues := mset {} s.queues q { k with head := (k.head + 1) % 2 ^ k.size, last := last } } : State)
  let b : Job := { q := q, ring := k.head, tag := BitVec.ofNat 64 (recField r 0 64), comp := comp, cont := r.testBit 209, prev := if r.testBit 208 then s.lastJob q else none }
  let marked := fun (i : Nat) => s.linkPoisoned (k.base.toNat + 128 * k.head + 32 * i)
  let failed := ((({ t (some s.nextId) with jobs := mput s.jobs s.nextId { b with recErr := true } } : State).fresh).settleJob s.nextId)
  ((k.en = false ∨ k.head = k.tail ∨ s.queueCount ≤ q ∨ s.fatal = true) → exec (.jobAccept q) s = .next s) ∧
  (k.en = true → k.head ≠ k.tail → s.fatal = false → q < s.queueCount →
    ((comp.toNat % 32 ≠ 0 ∨ marked 0 = true) → exec (.jobAccept q) s = .next ((t none).compError b)) ∧
    (∀ c, comp.toNat % 32 = 0 → s.hubPlace comp true = .fault c → exec (.jobAccept q) s = .next ((t none).compError b)) ∧
    ∀ l pm, comp.toNat % 32 = 0 → marked 0 = false → s.hubPlace comp true = .at l pm →
      (∀ ps, (∀ i, i < 4 → marked i = false) → s.readJob r = .ok ps →
        exec (.jobAccept q) s = .next ({ t (some s.nextId) with jobs := mput s.jobs s.nextId { b with phases := ps } } : State).fresh) ∧
      ((s.readJob r = .bad ∨ ∃ i, i < 4 ∧ marked i = true) → exec (.jobAccept q) s = .next failed))

/-- R281 to R285: a node whose record is in error fails with status 1; one that waits for a predecessor does not start; one with a failed or skipped predecessor that it does not tolerate is skipped; else a launch
node's units wait for places, a deep node's request goes to the deep engine, and a wait node watches its record. A node whose parts have all ended is over. -/
def NodeEvents : Prop := ∀ (s : State) j k b n, mfind s.jobs j = some b → b.nodes[k]? = some n →
  let preds := b.nodes.zipIdx.filter fun p => n.pred.testBit p.2
  let failed := fun (p : Node × Nat) => !(n.field 64 64).testBit p.2 && (p.1.finished == some .failed || p.1.finished == some .skipped)
  (b.finished = false → b.recErr = false → b.prev = none → b.graphCut = false → n.started = false → n.finished = none →
    (n.bad k b.nodes.length (s.queue b.q).priv = true → exec (.nodeStart j k) s = .next (s.failNode j k 1)) ∧
    (n.bad k b.nodes.length (s.queue b.q).priv = false →
      ((∃ p ∈ preds, p.1.finished = none) → exec (.nodeStart j k) s = .next s) ∧
      ((∀ p ∈ preds, p.1.finished ≠ none) →
        ((∃ p ∈ preds, failed p = true) → exec (.nodeStart j k) s = .next ((s.modJob j (·.finish k .skipped 0)).settleJob j)) ∧
        ((∀ p ∈ preds, failed p = false) →
          (n.kind = 3 → exec (.nodeStart j k) s = .next (s.started j k 1)) ∧
          (∀ kv av kte table, n.kind = 0 → n.field 256 64 = 0 → s.hubRecord n.addr 32 = .val kv → s.hubRecord n.arg 64 = .val av → parseKte kv = some kte → parseTable 0 (n.field 384 32) = some table →
            let unit := n.pending j k (handleBits b.phase b.graph k) kte (parseArgs av) table (s.fsplit.getLsbD 0)
            gangsAgree kte (n.field 336 6) (n.field 344 6) = true → (s.fsplit.getLsbD 0 = true ∨ s.neverFits n (unit 0) = false) →
              exec (.nodeStart j k) s = .next { s.started j k (n.field 384 32) with pend := s.pend ++ (List.range (n.field 384 32)).map unit }) ∧
          (∀ v, (n.kind = 1 ∨ n.kind = 2) → s.hubRead n.addr 32 = .val v → recField v 160 1 = 0 →
            exec (.nodeStart j k) s = .next ({ (s.started j k 1).seeEnded nodeReader (s.started j k 1).commandRuns with hub := s.hub ++ [{ id := s.nextId, op := if n.kind = 1 then .dread else .dappend, owner := .node j k, launch := some ⟨handleBits b.phase b.graph k, some j⟩, a := n.addr, b := n.arg, queued := true }] } : State).fresh))))) ∧
  (∀ v, n.kind = 3 → n.started = true → n.live ≠ 0 → n.finished = none → s.hubRecord n.addr 32 = .val v →
    (v.testBit 127 = true → exec (.waitNodePoll j k) s = .next (s.nodeDone (.node j k) (recField v 112 8))) ∧ (v.testBit 127 = false → exec (.waitNodePoll j k) s = .next s)) ∧
  (n.started = true → n.live = 0 → n.finished = none → b.graphCut = false →
    exec (.nodeFinish j k) s = .next ((s.modJob j (·.finish k (if n.code = 0 then .complete else .failed) n.code)).settleJob j))

/-- R288, R293 to R295: a bind record written to a free slot is there to be dispatched, one written to a taken slot gives `err` 1; a record that cannot be used gives 2, one that cannot be admitted its check's code; else the unit is created.
Miryen writes the record of a pending unit that may lie in the slot, with its share of the TLB sets, when nothing that fits goes before it, and the slot is dispatching; the slot then makes
the checks and creates the unit. That Miryen keeps its records in a memory of its own, dispatches one unit at a time, and how the shares round, are the model's (assumptions 47, 76
and 95). -/
def Dispatches : Prop := ∀ (s : State) u,
  let err := fun (c : Nat) => ({ s with binding := merase s.binding u, slotErr := mset 0 s.slotErr u c } : State)
  (∀ v a b n, s.fsplit.getLsbD 0 = true → s.hasCore (coreOf u) = true → v.getLsbD 0 = false → mfind s.binding u = none →
    (s.slotState u = 0 → exec (.sltBindDispatch u v none a b n) s = .next { s with binding := mput s.binding u { value := v } }) ∧
    (s.slotState u ≠ 0 → exec (.sltBindDispatch u v none a b n) s = .next { s with slotErr := mset 0 s.slotErr u 1 })) ∧
  (∀ w a b n, mfind s.binding u = some w → w.value.getLsbD 0 = false → w.plan = none →
    (s.readBind w.value = .later → exec (.sltBindDispatch u w.value none a b n) s = .next s) ∧
    (s.readBind w.value = .bad → exec (.sltBindDispatch u w.value none a b n) s = .next (err 2)) ∧
    ∀ r q k args routes, s.readBind w.value = .ok r q k args routes →
      (s.admitCode u r k q ≠ 0 → exec (.sltBindDispatch u w.value none a b n) s = .next (err (s.admitCode u r k q))) ∧
      (s.admitCode u r k q = 0 → (∀ p ∈ s.pend, (p.hosted && p.bind.handle == r.handle) = false) →
        exec (.sltBindDispatch u w.value none a b n) s = .next (((s.bindDone u).createUnit u { bareUnit r k q args none with routes := routes } args).startAcquire u))) ∧
  (∀ v i p a b n, s.pend[i]? = some p → p.hosted = false → p.bind.cohort = false → (∀ w ∈ s.binding, w.2.plan = none) → s.placeable u p a = true →
    s.tlbShare u (tlbWeight p.kte p.bind.ngang0) = (b, n) → s.outranked p = false →
    let r := s.bindAt u p a
    let at_ := s.firmPart 2
    exec (.sltBindDispatch u v (some i) a b n) s = .next (s.planUnit u p a) ∧ r.spbase = a ∧ r.tlbbase = b ∧ r.tlbsets = n ∧ (s.planUnit u p a).slotState u = 1 ∧
      mfind (s.planUnit u p a).binding u = some { value := at_, miryen := true, plan := some (p.origin, r) } ∧
      ∀ k, k < 64 → (s.planUnit u p a).firm.read (at_.toNat + k) = (leBytes 64 (r.bits (parseQlim p.qlim.toNat)))[k]?.getD 0) ∧
  ∀ w o r a b n, mfind s.binding u = some w → w.value.getLsbD 0 = false → w.plan = some (o, r) →
    ((∀ p ∈ s.pend, (p.origin == o) = false) → exec (.sltBindDispatch u w.value none a b n) s = .next { s with binding := merase s.binding u }) ∧
    ∀ p, s.pend.find? (fun p => p.origin == o) = some p →
      let code := s.admitCode u r p.kte (parseQlim p.qlim.toNat)
      (code ≠ 0 → exec (.sltBindDispatch u w.value none a b n) s = .next (err code)) ∧
      (code = 0 → p.bind.cohort = false →
        let t : State := { s with binding := merase s.binding u, pend := s.pend.erase p, served := mset 63 s.served (s.prioOf p) (s.queueOf p) }
        exec (.sltBindDispatch u w.value none a b n) s =
          .next (((t.createUnit u (p.unitOf r) p.args).modNode o fun d => { d with inst := some (instanceOf d.span (coreOf u)) }).startAcquire u))

/-- R323, R325, R326: the first pre-emption of a unit stops it; when it is quiet and the core's seam blocks are written back, the next writes its image and takes it off the core. A save area written to a free slot is there to be
restored; the restore creates the unit again, or says in `err` why not. -/
def Preemptions : Prop :=
  (∀ (s : State) u x a, s.unit? u = some x → a.toNat % 4096 = 0 → x.cancel = false → x.ending = none → x.back = false → x.bind.cohort = false →
    (x.save = none → x.lead.trapped = none → exec (.preemption u a) s = .next (s.modUnit u fun x => { x with save := some ⟨a, none⟩ })) ∧
    ∀ r l pm, x.save = some r → r.stat = none → s.quiet u x = true → x.lead.devWait = false → (∀ p ∈ x.gangs, ∀ e ∈ [0, 1, 2, 3], (p.2.entry e).bar ≠ .passed) →
      s.blocksWritten (coreOf u) = true → s.hubSpan a (layoutOf x.kte x.bind x.queueSection.length x.savedGangs.length).size true = .at l pm →
        s.hubOpen a (layoutOf x.kte x.bind x.queueSection.length x.savedGangs.length).size = true → exec (.preemption u a) s = .next (s.saveUnit u x a)) ∧
  (∀ (s : State) u v, v.getLsbD 0 = true → mfind s.binding u = none → s.hasCore (coreOf u) = true →
    let area := v &&& ~~~(0xFFF#64)
    s.inSpan (coreOf u) area = true → s.cohortSaved area = true → s.placing = false → s.hubOpen area 64 = true →
    (s.slotState u ≠ 0 → exec (.sltBindRestore u v) s = .next { s with slotErr := mset 0 s.slotErr u 1 }) ∧
    (s.slotState u = 0 → exec (.sltBindRestore u v) s = .next ((s.rebind u area).bindWrite u { value := v, miryen := true }))) ∧
  ∀ (s : State) u w, mfind s.binding u = some w → w.value.getLsbD 0 = true →
    let area := w.value &&& ~~~(0xFFF#64)
    (∀ p ∈ s.saved, p.area = area → p.trap = false) → s.areaOpen area = true →
      let r := s.restoreChecks u w.value (w.miryen && s.cohortSaved area && s.saved.any fun p => p.area == area && p.u == u)
      (∀ c, r = .bad c → exec (.sltBindRestore u w.value) s = .next { s with binding := merase s.binding u, slotErr := mset 0 s.slotErr u c }) ∧
      ∀ b q k routes head gangs, r = .ok b q k routes head gangs → exec (.sltBindRestore u w.value) s = .next (s.recreate u area b q k routes head gangs)

end Sys2Proof.Machine

/-- R277 to R285, R288, R293, R294, R323, R325, R326: jobs are accepted, nodes start and finish, units are dispatched, pre-empted and restored. The status of a job in
which several apply, a poisoned ring record, where Miryen keeps its records, the order of its dispatches and the division of
TLB sets are the model's (assumptions 47, 54, 76, 95 and 107). -/
def Obligations.JobsAndUnits : Prop := JobAcceptance ∧ NodeEvents ∧ Dispatches ∧ Preemptions

namespace Sys2Proof.Machine

/-- R23, R25, R138: two entries of a gang that stand at word 0 of one packet merge into the lower; when all merges are made no two such entries are left, and every lane stands in the table as before; free entries are then filled from
the spill stack, its top into the lowest. The end of a cycle does both in every gang of the core. -/
def SplitTables : Prop := ∀ (y : Gang),
  (∀ i j, i < j → j < 4 → (y.entry i).mask ≠ 0 → (y.entry j).mask ≠ 0 → (y.entry i).ip = (y.entry j).ip → (y.entry i).wd = 0 → (y.entry j).wd = 0 →
    let a := y.entry i
    let b := y.entry j
    let both := a.state = .demoted ∧ b.state = .demoted
    let z := y.mergePair i j
    z = { y with split := z.split } ∧ (∀ k, k ≠ i → k ≠ j → z.entry k = y.entry k) ∧ z.entry j = {} ∧
      z.entry i = { mask := a.mask ||| b.mask, ip := a.ip, state := if both then .demoted else .ready, dpos := if both then min a.dpos b.dpos else 0, fpctl := a.fpctl, fpflags := a.fpflags ||| b.fpflags,
                    vm := a.vm ++ b.vm.filter fun n => !a.vm.contains n, sp := a.sp ++ b.sp.filter fun n => !a.sp.contains n }) ∧
  (∀ i j, i < j → j < 4 → (y.merges.entry i).mask ≠ 0 → (y.merges.entry j).mask ≠ 0 → (y.merges.entry i).wd = 0 → (y.merges.entry j).wd = 0 → (y.merges.entry i).ip ≠ (y.merges.entry j).ip) ∧
  (∀ l, (∃ e, e < 4 ∧ (y.merges.entry e).mask.getLsbD l = true) ↔ ∃ e, e < 4 ∧ (y.entry e).mask.getLsbD l = true) ∧
  ((y.spill = [] ∨ y.freeEntries = []) → y.pops = y) ∧
  (∀ x t k rest, y.spill = x :: t → y.freeEntries = k :: rest → x.mask ≠ 0 →
    y.pops = ({ y.setEntry k { mask := x.mask, ip := x.ip, state := .ready, vm := y.gvm, sp := y.gsp, fpctl := x.fpctl, fpflags := x.fpflags } with spill := t } : Gang).pops) ∧
  ∀ (s : State) c rest u x g, s.agenda = .endCycle c :: rest → (s.units.map (·.1)).Nodup → s.unit? u = some x → u / 4 = c → mfind x.gangs g = some y →
    ∃ t, step s = .next t ∧ ∃ z, t.unit? u = some z ∧ mfind z.gangs g = some { y.merges.pops with snap := none, freeAt := none, depthAt := none }

/-- R26, R143, R145, R146, R147: a split idle for 4,096 cycles is made ready and placed first; the context of an ended gang with no outstanding operation is freed; a barrier all have reached releases every entry that
waits at it; a unit whose streams, commands and accesses have ended is released, its core's dirty seam blocks written back first. -/
def GangMoves : Prop := ∀ (s : State) u x, s.unit? u = some x →
  (∀ g y e, mfind x.gangs g = some y → (y.entry e).issuable = true → (y.entry e).raised = false → 4096 ≤ (y.entry e).idle →
    exec (.splitRaise u g e) s = .next (s.modGang u g fun y => y.modEntry e fun p => { p with state := if p.state = .trap then .trap else .ready, dpos := 0, raised := true })) ∧
  (∀ g y, mfind x.gangs g = some y →
    (y.ended = true → y.ops = [] → exec (.gangContextFree u g) s = .next (s.modUnit u fun x => { x with gangs := merase x.gangs g })) ∧
    (y.arrived false = true → exec (.gangBarrierComplete u g) s = .next (s.modGang u g (·.releaseAll)))) ∧
  ((∃ p ∈ x.gangs, p.2.ended = false) → (∀ p ∈ x.gangs, p.2.ended = true ∨ p.2.arrived true = true) →
    exec (.unitBarrierComplete u) s = .next (s.modUnit u fun x => { x with gangs := x.gangs.map fun p => (p.1, if p.2.ended then p.2 else p.2.releaseAll) })) ∧
  (x.lead.state = .stopped → x.ngang = 0 → x.cmds = [] → x.lead.trapped = none → s.quiet u x = true →
    (s.blocksWritten (coreOf u) = true → s.statFree x.cancelStat = true → s.statFree (x.save.bind (·.stat)) = true → exec (.unitEnd u) s = .next (((s.endUnit u x x.endCode).writeStat x.cancelStat 0).writeStat (x.save.bind (·.stat)) 1)) ∧
    (s.blocksWritten (coreOf u) = false → exec (.unitEnd u) s = .next (s.encodeDirty (coreOf u))))

end Sys2Proof.Machine

/-- R23, R25, R26, R138, R143, R145 to R147: the split table of a gang at the end of a cycle, and the events of splits, gangs and units. -/
def Obligations.GangEvents : Prop := SplitTables ∧ GangMoves

/-! ### Memory, seams and first touches -/

/-- R181, R188, R258: a sector whose every write the reader has seen is read as it stands and kept in L1; a poll reads it as it stands; it, and a read that
returns what was overwritten, take the older copy out of L1. (That a plain read may return overwritten bytes where a fence is missing is assumption 85.) -/
def SectorReads : Prop := ∀ (s : State) c (r : Reader) key l x,
  let gone := s.modCore c fun k => { k with l1 := merase k.l1 key }
  (∀ sp a, l.cell = some (sp, a) → s.pasts r sp a 32 = [] → s.sectorRead c r key l x false = (x, (s.modCore c (·.fillL1 key x)).viewed r l 32)) ∧
  (∀ v t, s.sectorRead c r key l x false = (v, t) → v ≠ x → t = gone.viewed r l 32) ∧
  s.sectorRead c r key l x true = (x, gone.viewedAll r l 32)

/-- R179, R188, R240, R244, R247, R249, R318, R342, R362: what a read of device memory finds: the L1 copy for a hit, else the layer's copy for a place of this package, else its
home, once the layer has applied what the sector's stamp names and nothing holds it; lost memory faults as protection, a poisoned sector as poisoned data, and a poll takes no hit. -/
def DeviceReads : Prop := ∀ (s : State) u c id w a pa, a.loc = .dev pa →
  (∀ x, mfind (s.core c).l1 (2 * sectorOf pa) = some x → s.readAcc u c id w a false true = .value (sectorValue x pa a.size) s) ∧
  (mfind (s.core c).l1 (2 * sectorOf pa) = none → s.readAcc u c id w a false true = .later) ∧
  s.readAcc u c id w a true true = .later ∧
  (∀ poll, s.backed pa = false → s.readAcc u c id w a poll false = .fault .protection) ∧
  (∀ x poll, s.backed pa = true → s.owned pa = true → mfind (s.layer (layerOf c)).copies (sectorOf pa) = some x → (s.layer (layerOf c)).out = [] →
    let r := s.sectorRead c ⟨0, u, id, none⟩ (2 * sectorOf pa) (.dev (32 * sectorOf pa)) x poll
    s.readAcc u c id w a poll false = if s.poisoned pa then .fault .poisonedData else .value (sectorValue r.1 pa a.size) r.2) ∧
  ∀ poll, s.backed pa = true → s.owned pa = false → s.held (sectorOf pa) = false → s.devReady (layerOf c) (sectorOf pa) = true →
    let r := s.sectorRead c ⟨0, u, id, none⟩ (2 * sectorOf pa) (.dev (32 * sectorOf pa)) (s.mem.readSector (sectorOf pa)) poll
    s.readAcc u c id w a poll false = if s.poisoned pa then .fault .poisonedData else .value (sectorValue r.1 pa a.size) r.2

/-- R27, R133, R179, R189: what a read found is taken: a load writes its lane, a poll also says whether the value differed, a scalar load writes its register,
of the gang or of the lead, and a fault is noted for the lanes that still stand in the gang. -/
def ValuesTaken : Prop := ∀ (s : State) u g o a,
  (∀ d ty v t, o.kind = .load d ty → s.accTake u g o a (.value v t) = s.modGang u g (·.finish o a.lane true false fun y => y.writeLane a.lane (loadWrites d ty v))) ∧
  (∀ d cmp v t, o.kind = .poll d cmp → s.accTake u g o a (.value v t) =
    s.modGang u g (·.finish o a.lane true (decide (v ≠ (mget 0 cmp a.lane).toNat)) fun y => y.writeLane a.lane [(d, ⟨BitVec.ofNat 32 v, .n32⟩)])) ∧
  (∀ d form v t, o.kind = .scalar d form → g ≠ 32 → s.accTake u g o a (.value v t) = s.modGang u g (·.finish o 64 true false (·.setS d (scalarValue form v)))) ∧
  (∀ d form v t, o.kind = .scalar d form → g = 32 → s.accTake u g o a (.value v t) = s.modLead u (·.finish o (·.setH d (scalarValue form v)))) ∧
  (∀ c, g ≠ 32 → s.accTake u g o a (.fault c) = (s.lateFault u g (s.faultLanes u g o a.lane) c a.addr).modGang u g (·.finish o a.lane false false id)) ∧
  (∀ c, g = 32 → s.accTake u g o a (.fault c) = (s.lateFault u g (s.faultLanes u g o a.lane) c a.addr).modLead u (·.finish o id)) ∧
  (∀ d op ty X N c, o.kind = .atom d op ty X N → a.bad = some c → s.accDone u g o a = s.accFault u g o a c) ∧
  ∀ d op ty X N, o.kind = .atom d op ty X N → a.bad = none → s.accDone u g o a = s.modGang u g (·.finish o a.lane true false (·.writeLane a.lane a.writes))

/-- R189, R194: where a poll or compare-and-swap succeeded, the entries that hold its lanes become ready and first; where it succeeded nowhere, the one entry
that holds them is demoted behind every other; a waiting entry stays waiting; the other entries stay. -/
def PollEffects : Prop := ∀ (y : Gang) (o : Op) e, e < 4 → ((∃ d cmp, o.kind = .poll d cmp) ∨ ∃ d ty X N, o.kind = .atom d 7 ty X N) →
  ((y.entry e).mask &&& o.okLanes = 0 → (y.afterPoll o).entry e = y.entry e) ∧
  ((y.entry e).mask &&& o.okLanes ≠ 0 → o.good = true → (y.afterPoll o).entry e =
    { y.entry e with dpos := 0, state := if (y.entry e).state = .waiting then .waiting else .ready }) ∧
  ((y.entry e).mask &&& o.okLanes ≠ 0 → o.good = false → (∀ k, k < 4 → k ≠ e → (y.entry k).mask &&& o.okLanes = 0) → ∃ top,
    (∀ k, k < 4 → k ≠ e → (y.entry k).dpos ≤ top) ∧ (top = 0 ∨ ∃ k, k < 4 ∧ k ≠ e ∧ (y.entry k).dpos = top) ∧ (y.afterPoll o).entry e =
      { y.entry e with dpos := min 7 (top + 1), state := if (y.entry e).state = .waiting then .waiting else .demoted })

/-- R27, R181, R183, R188, R189, R243, R244, R258: the accesses of a load in one sector return together, read at one instant, once no store of the port and no older
access of the stream stands before any of them; what all of them return of a scratchpad, later reads see too; one performed earlier returns what it captured. -/
def LoadReturns : Prop := ∀ (s : State) u x g o a hit, s.unit? u = some x → (x.opsAt g).find? (fun p => p.id == o.id) = some o → o.kind.permuteDests = [] →
  o.accs.find? (fun b => b.lane == a.lane) = some a →
  (a.done = true → exec (.loadReturn u g o.id a.lane hit) s = .next (s.accDone u g o a)) ∧
  ∀ poll, a.done = false → ((poll = false ∧ ∃ d ty, o.kind = .load d ty) ∨ (poll = false ∧ ∃ d form, o.kind = .scalar d form) ∨ poll = true ∧ ∃ d cmp, o.kind = .poll d cmp) →
    let y := layerOf (coreOf u)
    let read := fun b => s.readAcc u (coreOf u) o.id ⟨u, g, o.mask⟩ b poll hit
    ((o.request a).any (fun b => (s.core (coreOf u)).portBusy b || x.olderClash g o b) = true → exec (.loadReturn u g o.id a.lane hit) s = .next s) ∧
    ((o.request a).any (fun b => (s.core (coreOf u)).portBusy b || x.olderClash g o b) = false → (hit = true ∨ s.flitRoom y a.loc = true) →
      (read a = .later → exec (.loadReturn u g o.id a.lane hit) s = .next s) ∧
      (∀ v t, (∀ k off, a.loc ≠ .peer k off) → read a = .value v t →
        exec (.loadReturn u g o.id a.lane hit) s = .next (((o.request a).foldl (fun t b => t.accTake u g o b (read b)) t).flitFor y a.loc)) ∧
      (∀ v t k off, a.loc = .peer k off → read a = .value v t →
        exec (.loadReturn u g o.id a.lane hit) s = .next ((o.request a).foldl (fun t b => t.accTake u g o b (read b)) (s.requestSeen u o.id (o.request a) poll))) ∧
      ∀ c, read a = .fault c → exec (.loadReturn u g o.id a.lane hit) s = .next (((o.request a).foldl (fun t b => t.accTake u g o b (read b)) s).flitFor y a.loc))

/-- R179, R190 to R193, R319, R376: the lanes of one request of an atomic are performed together, in lane order, at their site once it is ready; one of host memory
completes at the root complex, or faults there, for want of support or marked poisoned, having changed nothing. -/
def AtomicEvents : Prop := ∀ (s : State) u x g o a d op ty X N, s.unit? u = some x → (x.opsAt g).find? (fun p => p.id == o.id) = some o → o.kind = .atom d op ty X N →
  o.nextAtom = some a →
  ((∀ b ∈ o.request a, (s.core (coreOf u)).portBusy b = false ∧ x.olderClash g o b = false) →
    (s.siteReady (layerOf (coreOf u)) a = true →
      exec (.atomicAtSite u g o.id a.lane) s = .next (((o.request a).foldl (fun s b => s.atomPerform u g (coreOf u) o b) s).flitFor (layerOf (coreOf u)) a.loc)) ∧
    (s.siteReady (layerOf (coreOf u)) a = false → exec (.atomicAtSite u g o.id a.lane) s = .next s)) ∧
  ∀ pa, a.loc = .host pa → (s.core (coreOf u)).portBusy a = false → x.olderClash g o a = false →
    (s.hostReady (layerOf (coreOf u)) (sectorOf pa) = false → ∀ ok, exec (.atomicopCompletion u g o.id a.lane ok) s = .next s) ∧
    (s.hostReady (layerOf (coreOf u)) (sectorOf pa) = true →
      let r := o.atomOn a (s.hostMem.readNat pa a.size)
      let t := (s.modCore (coreOf u) fun k => { k with l1 := merase k.l1 (2 * sectorOf pa + 1) }).viewedAll ⟨0, u, o.id, none⟩ a.loc a.size
      exec (.atomicopCompletion u g o.id a.lane false) s = .next (s.atomDone u g o a [] (some .protection) false) ∧
      (s.linkPoisoned pa = true → exec (.atomicopCompletion u g o.id a.lane true) s = .next (s.atomDone u g o a [] (some .poisonedData) false)) ∧
      (r.1 = none → s.linkPoisoned pa = false → exec (.atomicopCompletion u g o.id a.lane true) s = .next (t.atomDone u g o a r.2 none false)) ∧
      ∀ v, r.1 = some v → s.linkPoisoned pa = false →
        let w : State := { t.note 0 1 u none (t.oldHost (valueAt pa a.size v)) with hostMem := t.hostMem.writeAll (valueAt pa a.size v) }
        exec (.atomicopCompletion u g o.id a.lane true) s = .next ((w.stampHost (layerOf (coreOf u)) (valueAt pa a.size v)).atomDone u g o a r.2 none (op == 7)))

/-- R181, R240, R243, R244, R247, R249, R250, R362: a store the port no longer holds back reaches its layer cache, hub, root complex or scratchpad, and one to lost
memory fails in its lanes; a sent write is performed at home and forwarded; a layer applies a forwarded write when it has applied all its stamp names. (What an overwritten byte was
is remembered for reads of other paths, `note`, assumption 85; the stamps of writes past a layer cache are assumption 87.) -/
def StoreEvents : Prop := ∀ (s : State),
  (∀ c k r p bs, (s.core c).port[k]? = some r → r.bytes = p :: bs → (∀ q ∈ (s.core c).port.take k, q.dest ≠ r.dest ∨ sharesByte q.bytes r.bytes = false) →
    (∀ x, s.unit? r.who.u = some x → x.passed r = true) →
    let t := s.modCore c fun q => { q with port := q.port.erase r }
    (r.dest = .host → exec (.storeAcknowledged c k) s =
      .next (({ t.note 0 1 r.who.u none (t.oldHost r.bytes) with hostMem := t.hostMem.writeAll r.bytes } : State).stampHost (layerOf c) r.bytes)) ∧
    (r.dest = .dev → s.backed p.1 = false → exec (.storeAcknowledged c k) s =
      .next (r.lanes.foldl (fun s l => s.lateFault r.who.u r.who.g (if l.1 = 64 then lanesOf r.who.mask else [l.1]) .protection l.2) t)) ∧
    (r.dest = .dev → s.backed p.1 = true → s.owned p.1 = true → exec (.storeAcknowledged c k) s = .next (t.layerWrite (layerOf c) r.who r.bytes r.pm)) ∧
    (r.dest = .dev → s.backed p.1 = true → s.owned p.1 = false → s.heldBytes r.bytes = false → s.canSend (layerOf c) p.1 = true → exec (.storeAcknowledged c k) s =
      .next (((((t.note 0 0 r.who.u none (t.oldDev r.bytes)).atHome r.bytes r.pm).1).stampDev (layerOf c) r.bytes).sendFlit (layerOf c) p.1)) ∧
    (r.dest = .dev → s.backed p.1 = true → s.owned p.1 = false → (s.heldBytes r.bytes = true ∨ s.canSend (layerOf c) p.1 = false) → exec (.storeAcknowledged c k) s = .next s) ∧
    ∀ z, r.dest = .peer z → exec (.storeAcknowledged c k) s =
      .next (r.bytes.foldl (fun s p => s.spadWrite z p.1 1 p.2.toNat) (t.note 0 (2 + z) r.who.u none (t.oldSpad z r.bytes)))) ∧
  (∀ y k w, (s.layer y).out[k]? = some w → (∀ q ∈ (s.layer y).out.take k, sharesByte q.bytes w.bytes = false) → s.heldBytes w.bytes = false →
    exec (.writeAtHome y k) s = .next ((s.modLayer y fun l => { l with out := l.out.erase w }).homeWrite y w.bytes w.pm w.stamp)) ∧
  ∀ y k f p bs, (s.layer y).inq[k]? = some f → f.bytes = p :: bs → (∀ q ∈ (s.layer y).inq.take k, sharesByte q.bytes f.bytes = false) →
    (clockReady f.src f.stamp (s.layer y).clock = true → exec (.forwardedWriteApply y k) s = .next (s.modLayer y fun l =>
      { l with inq := l.inq.erase f, clock := clockJoin l.clock f.stamp, copies := mmodify l.copies (sectorOf p.1) (sectorWith · (sectorOf p.1) f.bytes) })) ∧
    (clockReady f.src f.stamp (s.layer y).clock = false → exec (.forwardedWriteApply y k) s = .next s)

/-- R250, R268, R370: writes and AtomicOps from outside are performed at the home once every layer's copy is invalidated and nothing holds their sectors. What they
replace a command that fetches ahead may still return, and they carry every stamp (assumptions 85 and 87). -/
def OutsideWrites : Prop := ∀ (s : State),
  let put := fun (b : SMap Byte) => ((s.noteOutside 0 (s.oldDev b)).outsideWrite b false).stampAll b
  (∀ pa bytes, (∀ k, k < bytes.length → s.owned (pa + k) = true) → s.heldBytes (bytesAt pa bytes) = false → exec (.remoteWrite pa bytes) s = .next (put (bytesAt pa bytes))) ∧
  (∀ pa bytes, s.mig.busy = false →
    let at_ : SMap Byte := bytes.zipIdx.foldl (fun m p => mput m (pa + p.2) p.1) []
    (∀ p ∈ at_, s.owned p.1 = true ∧ s.held (sectorOf p.1) = false) → exec (.hostBar2Write pa bytes) s = .next (put at_)) ∧
  ∀ kind pa n x y, s.mig.busy = false → kind ≤ 2 → (n = 4 ∨ n = 8) → pa % n = 0 → s.owned pa = true → s.held (sectorOf pa) = false → s.poisoned pa = false →
    (∀ v, atomicOpValue kind n (s.mem.readNat pa n) x.toNat y.toNat = some v → exec (.hostAtomicop kind pa n x y) s = .next (put (valueAt pa n v))) ∧
    (atomicOpValue kind n (s.mem.readNat pa n) x.toNat y.toNat = none → exec (.hostAtomicop kind pa n x y) s = .next s)

/-- R27, R133, R179, R181, R183, R188 to R194, R240, R243, R244, R247, R249, R250, R258, R268, R318, R319, R342, R362, R370, R376: loads, polls, scalar loads and atomics return, with the demotion and readiness polls give; stores leave the port,
are performed at home and forwarded; and writes from outside. -/
def Obligations.MemoryEvents : Prop :=
  SectorReads ∧ DeviceReads ∧ ValuesTaken ∧ PollEffects ∧ LoadReturns ∧ AtomicEvents ∧ StoreEvents ∧ OutsideWrites

/-- R121, R122, R179, R251, R342: a core asks for the claim of a block it has stores for, once no sector of it is held; it gets it, or the owner is recalled;
storage that cannot be reached fails the stores. -/
def ClaimRequests : Prop := ∀ (s : State) c i b q, (s.core c).seamq.find? (fun q => q.sidx == i && q.blk == b) = some q →
  (∀ code, s.blockStorage q.who.u i b true = .fault code → exec (.seamClaimRequest c i b) s = .next (s.failStores c i b code)) ∧
  ∀ r a ps, s.blockStorage q.who.u i b true = .at r (a :: ps) →
    ((∃ sec ∈ sectorsOf (a :: ps), s.held sec = true) → exec (.seamClaimRequest c i b) s = .next s) ∧
    ((∀ sec ∈ sectorsOf (a :: ps), s.held sec = false) →
      ((s.claim a).owner = none → exec (.seamClaimRequest c i b) s = .next (s.setClaim a { s.claim a with owner := some c })) ∧
      ∀ o, (s.claim a).owner = some o → o ≠ c → c ∉ (s.claim a).queue →
        exec (.seamClaimRequest c i b) s = .next (s.setClaim a { s.claim a with recalling := true, queue := (s.claim a).queue ++ [c] }))

/-- R121, R122, R134, R181, R251: the stores of a block that no older access of their stream precedes are applied in order, to the claimed block held, or to the
storage read afresh at home once the claim is granted and nothing of it is under way; the block is dirty and claimed; a malformed one fails the stores. -/
def StoreFills : Prop := ∀ (s : State) c i b q l, s.readyStores c i b = q :: l →
  (∀ code, s.blockStorage q.who.u i b true = .fault code → exec (.seamBlockFill c i b) s = .next (s.failStores c i b code)) ∧
  ∀ r a ps, s.blockStorage q.who.u i b true = .at r (a :: ps) → (s.claim a).owner = some c → (s.claim a).recalling = false →
    (∀ k, (s.core c).block i b = some k → k.claimed = true → exec (.seamBlockFill c i b) s = .next (s.applyTo c k (q :: l))) ∧
    ((s.core c).block i b = none → (∀ w ∈ (s.core c).wbs, w.saddr ≠ a) →
      (∀ sec ∈ sectorsOf (a :: ps), s.held sec = false ∧ clockLe (mget [] s.stamps sec) (s.layer (layerOf c)).clock = true ∧
        ∀ w ∈ (s.layer (layerOf c)).out, ∀ p ∈ w.bytes, sectorOf p.1 ≠ sec) →
      (decodeBlock r.d r.rate r.fin (s.storageValue (a :: ps)) = none → exec (.seamBlockFill c i b) s = .next (s.failStores c i b .seamMalformed)) ∧
      ∀ e, decodeBlock r.d r.rate r.fin (s.storageValue (a :: ps)) = some e → exec (.seamBlockFill c i b) s = .next (s.applyTo c (newBlock r i b (a :: ps) e) (q :: l)))

/-- R123, R251: stores applied to a block that fits the dressing cache stand in its elements in program order, the last to an element prevailing; the block is
dirty and claimed, the others stay, and its stores wait no more. -/
def StoresApplied : Prop := ∀ (s : State) c k l, ((s.core c).dropBlock k.sidx k.blk).dressed + 4 * k.elems.length ≤ Config.dressBytes →
  (∃ n, ((s.applyTo c k l).core c).dress = n :: ((s.core c).dropBlock k.sidx k.blk).dress ∧ n.elems = applyStores k.elems l ∧ n.claimed = true ∧ n.dirty = true ∧
    n.sidx = k.sidx ∧ n.blk = k.blk ∧ n.phys = k.phys) ∧
  ∀ q, q ∈ ((s.applyTo c k l).core c).seamq ↔ q ∈ (s.core c).seamq ∧ q ∉ l

/-- R123, R181, R198, R245, R251 to R253: a waiting load has its read copy made; a block evicted or recalled is written back and dropped, and the claim passes to the
oldest that waits, or is given back when no block of that address is held, written back or waited for; a write-back done at home, with the clip bit it carries, is
acknowledged. -/
def ClaimsPass : Prop := ∀ (s : State) c i b,
  (s.readyStores c i b = [] → (s.core c).block i b = none → ∀ u, s.blockWanted c i b = some u → exec (.seamBlockFill c i b) s = .next (s.fillCopy c u i b)) ∧
  (s.readyStores c i b = [] → ∀ k, (s.core c).block i b = some k → exec (.seamBlockFill c i b) s = .next s) ∧
  (∀ k, (s.core c).block i b = some k → exec (.dressingCacheEviction c i b) s = .next ((if k.dirty then s.encode c k true else s).modCore c (·.dropBlock k.sidx k.blk))) ∧
  (∀ a, (s.claim a).recalling = true → (s.claim a).owner = some c →
    exec (.seamRecall c a) s = .next (((s.core c).dress.filter fun k => k.saddr == a).foldl (fun s k => s.evict c k) s) ∧
    (s.holdsClaimed c a = true → exec (.recallComplete a) s = .next s) ∧
    (s.holdsClaimed c a = false → (s.claim a).queue = [] → exec (.recallComplete a) s = .next (s.setClaim a {})) ∧
    (∀ d t, s.holdsClaimed c a = false → (s.claim a).queue = d :: t → exec (.recallComplete a) s = .next (s.setClaim a ⟨some d, !t.isEmpty, t⟩))) ∧
  (∀ a, (s.claim a).owner = some c → (s.claim a).recalling = false → s.holdsClaimed c a = false →
    (∀ q ∈ (s.core c).seamq, ∀ r p ps, s.blockStorage q.who.u q.sidx q.blk true = .at r (p :: ps) → p ≠ a) →
    (∀ q ∈ (s.core c).seamq, ∀ r, s.blockStorage q.who.u q.sidx q.blk true ≠ .at r []) → exec (.claimRelease c a) s = .next (s.setClaim a {})) ∧
  ∀ a w, (s.core c).wbs.find? (fun w => w.saddr == a) = some w → (∀ r ∈ (s.layer (layerOf c)).out, sharesByte r.bytes w.bytes = false) → s.heldBytes w.bytes = false →
    (w.clip = false ∨ s.seamRecHeld (w.sidx % 4096) = false) →
    let t := (groupSectors w.bytes).foldl (fun s b => s.homeSend (layerOf c) b false) (s.note 0 0 w.unit none (s.oldDev w.bytes))
    let t := (if w.clip then t.setClip c w.sidx else t).modCore c fun k => { k with wbs := k.wbs.erase w }
    exec (.seamWritebackAck c a) s = .next ([4 * c, 4 * c + 1, 4 * c + 2, 4 * c + 3].foldl (fun r u => r.modUnit u fun x =>
      { x with gangs := x.gangs.map fun p => (p.1, { p.2 with ops := sevictDone ((t.core c).wbs.map (·.saddr)) p.2.ops }) }) t)

/-- R121 to R123, R134, R179, R181, R198, R245, R251 to R253, R342: the claims of seam blocks, their stores and fills, their write-backs and read copies. That an access keeps the record of its
issue is the model's reading (assumption 89). -/
def Obligations.SeamEvents : Prop := ClaimRequests ∧ StoreFills ∧ StoresApplied ∧ ClaimsPass

/-- R309, R311, R317, R328, R329: a first touch takes the last page of the pool, which is zeroed and mapped, or goes to the host when there is no pool or the function is the host's; an entry the host has been asked about
stays the host's; an answer of the host counts once: with verdict 0 the access is tried again or the unit may be restored, with verdict 1 the accesses held fail, or the unit ends with its trap code. That a
served page leaves no copies and which accesses are held for it are the model's readings (assumptions 78 and 98). -/
def Obligations.TouchEvents : Prop := ∀ (s : State),
  (∀ u va entry, s.inPeerRegion va = false → s.walk va.toNat = .touch entry →
    (s.fr.pending (.touch entry) = true → exec (.firstTouchService u va) s = .next s) ∧
    (s.held (sectorOf entry) = true → exec (.firstTouchService u va) s = .next s) ∧
    (s.fr.pending (.touch entry) = false → s.held (sectorOf entry) = false → s.fsplit.getLsbD 1 = true → exec (.firstTouchService u va) s = .next (s.postTouch u entry va)) ∧
    (s.fr.pending (.touch entry) = false → s.held (sectorOf entry) = false → s.fsplit.getLsbD 1 = false → s.ctx.ftpool = 0 → exec (.firstTouchService u va) s = .next (s.postTouch u entry va)) ∧
    ∀ arr n pa, s.fr.pending (.touch entry) = false → s.fsplit.getLsbD 1 = false → s.pool = .at arr n → s.hubRead (BitVec.ofNat 64 (arr + 8 * (n - 1))) 8 = .val pa → pa % 65536 = 0 →
      s.backed pa = true → s.held (sectorOf entry) = false → s.hubOpen (s.ctx.ftpool + 8) 4 = true → s.asleep pa = false →
      let t := (s.hubWriteAll (s.ctx.ftpool + 8) (leBytes 4 (n - 1))).reach pa
      exec (.firstTouchService u va) s = .next (((t.forget 0 fun a => decide (pa ≤ a ∧ a < pa + 65536)).zeroPage pa).outsideWrite
        (valueAt entry 8 (touchLeaf (BitVec.ofNat 64 (t.mem.readNat entry 8)) pa).toNat) false)) ∧
  (∀ u va, (∀ entry, s.walk va.toNat ≠ .touch entry) → exec (.firstTouchService u va) s = .next s) ∧
  ∀ (seq : BitVec 32),
    (s.fr.answered seq.toNat = none → exec (.frAckVerdict0 seq) s = .next s ∧ exec (.frAckVerdict1 seq) s = .next s) ∧
    ∀ r, s.fr.answered seq.toNat = some r →
      let t : State := { s with fr := { s.fr with asked := s.fr.asked.filter fun p => p.1 != seq.toNat } }
      (∀ entry, r.what = .touch entry → exec (.frAckVerdict0 seq) s = .next (t.unhold entry) ∧ exec (.frAckVerdict1 seq) s = .next (t.refuseTouch entry)) ∧
      ∀ id, r.what = .leadTrap id → exec (.frAckVerdict0 seq) s = .next (t.releaseTrap id) ∧
        ∀ v, s.saved.find? (fun v => v.id == id) = some v → exec (.frAckVerdict1 seq) s = .next (t.endSaved v (r.info.toNat % 32))

/-! ### Engines -/

namespace Sys2Proof.Machine

/-- R206, R331, R332: the oldest command of the tile or stream engine that has not started starts, and fetches from then on; only an MMA waits for those before
it, until the array's one input buffer is free of their rows. -/
def EngineStarts : Prop := ∀ (s : State) u x k c, s.unit? u = some x → x.cmd? k = some c → x.starts = true → c.state = .queued → x.unfaulted c = true →
  (c.op.engine = .tile ∨ c.op.engine = .stream) → (∀ d ∈ x.earlier k, d.op.engine = c.op.engine → d.state ≠ .queued) →
  (((∀ t, c.op ≠ .mma t) ∨ ∀ d ∈ x.earlier k, (∃ t, d.op = .mma t) → s.entered u x d = true) →
    exec (.tileCommandStart u k) s = .next (s.modUnit u (·.modCmd k fun c => { c with state := .started, began := s.nextId }))) ∧
  ((∃ t, c.op = .mma t) → (∃ d ∈ x.earlier k, (∃ t, d.op = .mma t) ∧ s.entered u x d = false) → exec (.tileCommandStart u k) s = .next s)

/-- R219, R220, R336, R337: an element that begins a request of a copy, none before it in the same sector still to write, is moved with those that go on in its
sector, the channel pointer behind them; one that has been moved or must wait leaves everything. -/
def CopyWrites : Prop := ∀ (s : State) u x k c, s.unit? u = some x → x.cmd? k = some c → ∀ e,
  let es := c.run 64 e
  (x.copying c = true → c.heads e = true → e ∉ c.progress → e ∉ c.sub → c.inOrder es = true →
    (∀ ws, s.moveElems u x c es = .ok ws → s.engReady (coreOf u) ws = true →
      let t := (s.engWrite u k ws).walkUse (coreOf u) (es.map c.srcAddr ++ es.map c.dstAddr)
      exec (.tcopyElementWrite u k e) s = .next ((t.modUnit u (·.modCmd k fun c => { c with sub := c.sub ++ es })).modUnit u (·.settleCopy k (t.elementSettled u c)))) ∧
    (s.moveElems u x c es = .later → exec (.tcopyElementWrite u k e) s = .next s)) ∧
  (e ∈ c.progress ∨ e ∈ c.sub → exec (.tcopyElementWrite u k e) s = .next s)

/-- R208, R209, R215, R217, R221, R332 to R334, R338, R340: a stream queues the elements of a sector, those a fence discarded first; MSWAP swaps the planes when the
matrix commands it follows have acted, the drains before it keeping the flags they saw; a command whose work is done, and every write of it performed, makes its
arrival; one that meets a fault records it, makes its arrival when its writes are performed, and has the later ones of its engine discarded, each of which makes its arrival when the
writes it has made are performed. -/
def CommandEnds : Prop := ∀ (s : State) u x k c, s.unit? u = some x → x.cmd? k = some c →
  (let a := recAddr c.src c.a (recCoord c.src c.next)
   exec (.streamSectorFetch u k) s = .next (((s.refetch u (·.stale)).walkUse (coreOf u) [a]).fetchElems u k (a.toNat / 32) 8)) ∧
  (c.state = .started → x.unfaulted c = true → c.bad = false →
    (c.op = .mswap → x.mayAct c = true → (s.runCmd u x c) = .ok ((s.takeFlags u c.id).modMx (coreOf u) fun m => { m with sel := !m.sel })) ∧
    (∀ t, s.runCmd u x c = .ok t → t.engSettled u k = true → exec (.tileCommandComplete u k) s = .next (t.finishCmd u c)) ∧
    (s.runCmd u x c = .later → exec (.tileCommandComplete u k) s = .next s) ∧
    (∀ f a t, (c.op.engine ≠ .tile ∨ x.matrixSettled k = true) → s.runCmd u x c = .fault f a t → t.engSettled u k = true →
      exec (.engineFault u k) s = .next (t.engineFault u c f a))) ∧
  (c.state = .started → x.unfaulted c = true → c.bad = true → s.engSettled u k = false → exec (.engineFault u k) s = .next s) ∧
  (c.state = .done → (s.engSettled u k = true → exec (.tileCommandComplete u k) s = .next (s.finishCmd u c)) ∧ (s.engSettled u k = false → exec (.tileCommandComplete u k) s = .next s)) ∧
  (let t := s.discard u c
   (t.engSettled u c.id = true → s.discardCmd u c = t.finishCmd u c) ∧
   (t.engSettled u c.id = false → s.discardCmd u c = t.modUnit u (·.modCmd c.id fun d => { d with state := .done })))

/-- R98, R99: a triple stands for every integer of the representable range, and channel sums and products are those of the integers. -/
def ResidueRules : Prop :=
  (∀ x : Int, -67108608 ≤ x → x ≤ 67108607 → fromRT none (toRT x) = x) ∧
  ∀ x y : Int, sumRT (toRT x) (toRT y) = toRT (x + y) ∧ mulRT (toRT x) (toRT y) = toRT (x * y)

/-- R92, R100, R101: the elements of the matrix formats: bytes and half bytes in two's complement, an even column's in the low half, the marker of I8N and I4N as 0 with the NaN flag. -/
def MatrixElements : Prop := ∀ (col b : Nat), b < 256 →
  let half := if col % 2 = 0 then b % 16 else b / 16
  let signed8 : Int := if b < 128 then b else (b : Int) - 256
  let signed4 : Int := if half < 8 then half else (half : Int) - 16
  matrixElem 0 col b = (signed8, false) ∧ matrixElem 1 col b = (if b = 128 then (0, true) else (signed8, false)) ∧
  matrixElem 2 col b = (signed4, false) ∧ matrixElem 3 col b = (if half = 8 then (0, true) else (signed4, false))

/-- R105, R106: the epilogue: a NaN scale or a flag gives the canonical NaN, p of 0 with finite scales gives +0, a NaN addend the canonical NaN, and the cases of the table. -/
def DrainCases : Prop :=
  (∀ p rs cs, drainValue p rs cs true = 0x7FC00000 ∧ (fmtF32.isNan rs = true ∨ fmtF32.isNan cs = true → drainValue p rs cs false = 0x7FC00000)) ∧
  (∀ y ad, fmtF32.isNan ad = true → drainAdd y ad = 0x7FC00000) ∧
  drainValue (-100000) 0x3A800000 0x40400000 false = 0xC3927C00 ∧ drainAdd 0xC3927C00 0x43927C00 = 0 ∧ drainAdd (drainValue 0 0xC0000000 0x40A00000 false) 0x80000000 = 0 ∧
  drainValue 0 0x7F800000 0x3F800000 false = 0x7FC00000 ∧ drainAdd (drainValue 5 0xFF800000 0x40000000 false) 0x7F800000 = 0x7FC00000 ∧
  drainValue 33554432 0x71800000 0x4E800000 false = 0x7F800000 ∧ drainValue 3 0x00000200 0x3A800000 false = 2

/-- R101, R214: a MLDW whose box can be read leaves the value of the element at c1 = i and c0 = j as the weight of row i and column j of the shadow plane, 0 outside the box, a column's flag where one of its elements
holds the marker, and the tag of the format; the active plane, the selector and the tiles stay. -/
def WeightsLoaded : Prop := ∀ (s : State) u x (c : Cmd) (val : Nat → Nat),
  let r := (c.recs.getD 0 0).toNat
  let mx := fun (t : State) => (t.core (coreOf u)).mx
  let el := fun i j => if i ≤ recBox r 1 ∧ j ≤ recBox r 0 then matrixElem (recCode r) j (val (128 * i + j)) else (0, false)
  c.op = .mldw → x.mayAct c = true → recBox r 0 ≤ 127 → recBox r 1 ≤ 127 →
  (∀ i j, i ≤ recBox r 1 → j ≤ recBox r 0 → (s.takeFlags u c.id).engRead (c.reader u) u x (recSpace r) (recAddr r c.a [j, i, 0, 0, 0]) 1 = .val (val (128 * i + j))) →
    ∃ t, s.runCmd u x c = .ok t ∧ (mx t).sel = (mx s).sel ∧ (mx t).tiles = (mx s).tiles ∧ (mx t).active = (mx s).active ∧
      (mx t).shadow.tag = (if recCode r ≤ 1 then .i8x4 else .i4x8) ∧
      ∀ j, j < 128 → (mget false (mx t).shadow.nan j = true ↔ ∃ i, (el i j).2 = true) ∧ ∀ i, i < 128 → mget 0 (mx t).shadow.w (128 * i + j) = (el i j).1

/-- R99, R101, R216: an MMA whose box can be read adds to the triple of row i and column j of its tile the sum of the products of row i of the box with column j of the active plane, for the rows of the box; a row's flag
is set where one of its elements holds the marker; the pass count rises by one and the tag becomes RT; the planes and the other tiles stay. -/
def RowsAdded : Prop := ∀ (s : State) u x (c : Cmd) (a : Nat) (val : Nat → Nat),
  let r := (c.recs.getD 0 0).toNat
  let mx := fun (t : State) => (t.core (coreOf u)).mx
  let el := fun i j => if i ≤ recBox r 1 ∧ j ≤ recBox r 0 then matrixElem (recCode r) j (val (128 * i + j)) else (0, false)
  c.op = .mma a → x.mayAct c = true → (∀ d ∈ x.earlier c.id, ∀ b, d.op ≠ .mma b) → recBox r 0 ≤ 127 → recBox r 1 ≤ 127 →
  (∀ i j, i ≤ recBox r 1 → j ≤ recBox r 0 → s.engRead (c.reader u) u x (recSpace r) (recAddr r c.a [j, i, 0, 0, 0]) 1 = .val (val (128 * i + j))) →
    let old := (mx s).tile a
    ∃ t n, s.runCmd u x c = .ok t ∧ mx t = (mx s).setTile a n ∧ n.tag = .rt ∧ n.passes = old.passes + 1 ∧
      ∀ i, i < 128 → (mget false n.nan i = true ↔ mget false old.nan i = true ∨ ∃ j, (el i j).2 = true) ∧
        ∀ j, j < 128 → mget 0 n.t (128 * i + j) =
          if i ≤ recBox r 1 then sumRT (mget 0 old.t (128 * i + j)) (toRT ((List.range 128).map fun k => (el i k).1 * mget 0 (mx s).active.w (128 * k + j)).sum) else mget 0 old.t (128 * i + j)

/-- R105, R217, R319, R334: an MDRAIN that can read its addends and reach its destination writes the F32 bits of output (i, j) to the element at c1 = i and c0 = j of the box, a later element over an earlier one where they
share a byte, and no other byte of its scratchpad, of host memory or of device memory; the tile is left cleared and tagged RT, and the planes and the other tiles stay. A tile tagged RAW drains as zero triples; an output
outside the addend's box takes no addend. -/
def DrainsWritten : Prop := ∀ (s : State) u x (c : Cmd) (a : Nat) (ad : Nat → Nat) (place : Nat → Nat → Loc × Bool),
  let r := (c.recs.getD 0 0).toNat
  let ar := (c.recs.getD 1 0).toNat
  let adds := fun (i j : Nat) => 2 ≤ c.recs.length ∧ i ≤ recBox ar 1 ∧ j ≤ recBox ar 0
  let mx := fun (t : State) => (t.core (coreOf u)).mx
  let tile := (mx s).tile a
  let scale := fun (o : Nat) => s.view (c.reader u) (.spad (coreOf u) (c.c.toNat + x.bind.spbase + o)) 4 (s.spadRead (coreOf u) (c.c.toNat + x.bind.spbase + o) 4)
  let triple := fun (i j : Nat) => if tile.tag = .raw then 0 else fromRT (mfind s.svy.arrChan (coreOf u)) (mget 0 tile.t (128 * i + j))
  let flag := fun (i j : Nat) => mget false tile.nan i || (c.flags.getD (mx s).active.flagged).contains j
  let y := fun (i j : Nat) => drainValue (triple i j) (scale (16 + 4 * i)) (scale (528 + 4 * j)) (flag i j)
  let z := fun (i j : Nat) => if adds i j then drainAdd (y i j) (ad (128 * i + j)) else y i j
  let at_ := fun (i j k : Nat) => recAddr r c.a [j, i, 0, 0, 0] + BitVec.ofNat 64 k
  let row := fun (i : Nat) => (List.range (recBox r 0 + 1)).flatMap fun j => (List.range 4).map fun k =>
    ({ loc := (place (128 * i + j) k).1, value := z i j / 256 ^ k % 256, pm := (place (128 * i + j) k).2, addr := at_ i j k } : EngWrite)
  let ws := (List.range (recBox r 1 + 1)).flatMap row
  c.op = .mdrain a → x.mayAct c = true → c.performed = false → recBox r 0 ≤ 127 → recBox r 1 ≤ 127 → recSeam r = false → recSize r = 4 →
  s.spadPoisoned (coreOf u) (c.c.toNat + x.bind.spbase + 16) 1024 = false →
  (∀ i j, i < 128 → j < 128 → adds i j → s.engElem (c.reader u) u x ar (recAddr ar c.info [j, i, 0, 0, 0]) = .val (ad (128 * i + j))) →
  (∀ i j k, i ≤ recBox r 1 → j ≤ recBox r 0 → k < 4 → s.engByte u x (recSpace r) (at_ i j k) true = .at (place (128 * i + j) k).1 (place (128 * i + j) k).2) →
  s.engReady (coreOf u) ws = true →
    ∃ t, s.runCmd u x c = .ok t ∧ mx t = (mx s).setTile a { tag := .rt } ∧
      (∀ o, mget 0 (t.core (coreOf u)).spad o = (mfind (engSpad ws) o).getD (mget 0 (s.core (coreOf u)).spad o)) ∧
      (∀ h, t.hostMem.read h = (mfind (engHost ws) h).getD (s.hostMem.read h)) ∧
      (s.poison = [] → (∀ p ∈ engDev ws, s.backed p.1 = true) → ∀ d, t.mem.read d = (mfind (engDev ws) d).getD (s.mem.read d))

/-- R92, R98 to R101, R105, R106, R214, R216, R217: what the matrix commands compute and leave. -/
def MatrixWork : Prop := ResidueRules ∧ MatrixElements ∧ DrainCases ∧ WeightsLoaded ∧ RowsAdded ∧ DrainsWritten

/-- R92, R98 to R101, R105, R106, R206, R208, R209, R214 to R217, R219 to R221, R319, R331 to R334, R336 to R338, R340: commands of the tile and stream engines start, move their elements, work on the matrix
state, end and fault. -/
def TileAndStreamEvents : Prop := EngineStarts ∧ CopyWrites ∧ CommandEnds ∧ MatrixWork

/-- What the near engine makes of a sector of y at `a`: the x sector whose data is bad is poisoned, and the y sector is poisoned, or written whole. -/
def nearSector (s : State) (h : HubCmd) (badY badX : List Nat) (t : State) (a : Nat) : State :=
  let x := h.place (nmcX h.req + (a - nmcY h.req))
  let t := if h.badSource a badX then t.poisonSector (sectorOf x) else t
  let t := t.reach (h.place a)
  let t := if nmcKind h.req = 0 then t.reach x else t
  if s.nmcBad h a badY badX then t.poisonSector (sectorOf (h.place a))
  else (t.noteHub h (bytesAt (h.place a) (h.sector s t.mem a))).outsideWrite (bytesAt (h.place a) (h.sector s t.mem a)) ((trPlace h.tr a).getD (0, false)).2

/-- R223, R224, R318, R341 to R344: the near engine checks a command's record and holds its range; each unit of the range is updated by its base die, a sector with an uncorrectable error poisoned and skipped, the sector of x it was
found in poisoned too; the last writes the completion record, `status` 4 when a sector was skipped, once no other command holds its place. -/
def NearEvents : Prop := ∀ (s : State) k,
  (∀ h l v tr, s.hubQueued k = some h → h.op = .nmc → h.fin = none → s.hubHead h = .ok l v → nmcErr v = false → s.nmcXlate v = .ok tr → s.linesWritten tr (nmcRanges v) = true →
    exec (.nmcStart k) s = .next (((s.hubFill [h.a, h.b]).dropLines tr (nmcRanges v)).hubStart { h with crec := l, req := v, tr := tr, left := List.range (nmcUnits v) })) ∧
  (∀ h l v, s.hubQueued k = some h → h.op = .nmc → h.fin = none → s.hubHead h = .ok l v → nmcErr v = true →
    exec (.nmcStart k) s = .next (s.hubFinish { h with crec := l, req := v } { status := 1 } 0)) ∧
  (∀ h l v st, s.hubQueued k = some h → h.op = .nmc → h.fin = none → s.hubHead h = .ok l v → nmcErr v = false → s.nmcXlate v = .status st →
    exec (.nmcStart k) s = .next (s.hubFinish { h with crec := l, req := v } { status := st } (32 * nmcN v))) ∧
  ∀ h sub badY badX, s.hub? k = some h → h.op = .nmc → h.queued = false → sub ∈ h.left →
    (∀ g ∈ s.hub, g.op = .nmc → g.id < k → g.owner = h.owner → ∀ i ∈ g.left, ∀ z ∈ g.unitSectors i, z ∉ h.unitSectors sub) →
    (h.asleep s sub = true → exec (.nmcSubcommandComplete k sub badY badX) s = .next s) ∧
    (h.asleep s sub = false →
    let vas := if nmcY h.req < nmcX h.req then (h.unitVas sub).reverse else h.unitVas sub
    let t := vas.foldl (nearSector s h badY badX) s
    let g : HubCmd := { h with left := h.left.filter (· != sub), failed := h.failed ++ vas.filter fun a => s.nmcBad h a badY badX }
    (g.left ≠ [] → exec (.nmcSubcommandComplete k sub badY badX) s = .next (t.putHub g)) ∧
    (g.left = [] → (s.putHub g).crecFree h h.crec = false → exec (.nmcSubcommandComplete k sub badY badX) s = .next s) ∧
    (g.left = [] → (s.putHub g).crecFree h h.crec = true → exec (.nmcSubcommandComplete k sub badY badX) s =
      .next ((t.putHub g).hubFinish g { status := if g.failed.isEmpty then 0 else 4, count := g.failed.length, addr := g.failed.min?.getD 0 } (32 * nmcN h.req))))

/-- R224 to R226, R345 to R347: the deep engine checks a read; a page that passes is written to its destination, one that fails is fetched again, from its replica at last, and then poisoned; the channel passes pages in order; the
last page writes the completion record. (The order among the statuses is the model's choice, assumption 93.) -/
def DeepReads : Prop := ∀ (s : State) k,
  (∀ h l v, s.hubQueued k = some h → h.op = .dread → h.fin = none → s.hubHead h = .ok l v → s.deepTurn h = true →
    let g : HubCmd := { h with crec := l, req := v }
    let inside := s.deepRange (deepPage v) (deepCount v) = true ∧ (deepRep v = true → s.deepRange (deepReplica v) (deepCount v) = true)
    (s.deepErr false v = true → exec (.dreadStart k) s = .next (s.hubFinish g { status := 1 } 0)) ∧
    (s.deepErr false v = false → ¬ inside → exec (.dreadStart k) s = .next (s.hubFinish g { status := 3 } (4096 * deepCount v))) ∧
    ∀ tr, s.deepErr false v = false → inside → s.deepXlate h v true = .ok tr →
      (s.deepStopped h = true → exec (.dreadStart k) s = .next (s.hubFinish g { status := 7 } (4096 * deepCount v))) ∧
      (s.deepStopped h = false → exec (.dreadStart k) s = .next ((s.hubFill [h.a, h.b]).hubStart { g with tr := tr, left := List.range (deepCount v) }))) ∧
  ∀ h page ok, s.hub? k = some h → h.op = .dread → h.queued = false → page ∈ h.left → s.pageClear h page = true → s.ownerOpen h.owner = true →
    let tries := mget 0 h.tries page
    let fetched := s.flashFetch h.req (if tries < 2 then deepPage h.req + page else deepReplica h.req + page) ok
    let rest := h.left.filter (· != page)
    let finish := fun (t : State) (g : HubCmd) => ((t.putHub g).deepChannel h g).hubFinish g
      { status := if g.failed.isEmpty then 0 else 4, count := g.failed.length, addr := (g.failed.min?.map (deepMem h.req + 4096 * ·)).getD 0 } (4096 * deepCount h.req)
    let good : HubCmd := { h with left := rest, done := h.done ++ [page] }
    let lost : HubCmd := { h with left := rest, failed := h.failed ++ [page] }
    (fetched = none → tries + 1 < (if deepRep h.req then 3 else 2) → exec (.deepPageFetchComplete k page ok) s = .next (s.putHub { h with tries := mput h.tries page (tries + 1) })) ∧
    (∀ bs, fetched = some bs → rest ≠ [] → exec (.deepPageFetchComplete k page ok) s = .next (((s.deepWrite h page bs).putHub good).deepChannel h good)) ∧
    (∀ bs, fetched = some bs → rest = [] → s.crecFree h h.crec = true → exec (.deepPageFetchComplete k page ok) s = .next (finish (s.deepWrite h page bs) good)) ∧
    (fetched = none → ¬ tries + 1 < (if deepRep h.req then 3 else 2) → rest ≠ [] →
      exec (.deepPageFetchComplete k page ok) s = .next (((s.deepPoison h page).putHub lost).deepChannel h lost)) ∧
    (fetched = none → ¬ tries + 1 < (if deepRep h.req then 3 else 2) → rest = [] → s.crecFree h h.crec = true →
      exec (.deepPageFetchComplete k page ok) s = .next (finish (s.deepPoison h page) lost))

/-- R224, R225, R227, R345, R348 to R350: an append is assigned its indices, `status` 6 when the log is full; a page becomes durable with the CRC of its index, one that cannot be read leaves an index that reads as zeros; the last page
writes the completion record; a compaction ends with the physical pages it freed, none that an index or a running append keeps. -/
def DeepAppends : Prop := ∀ (s : State) k,
  (∀ h l v tr, s.hubQueued k = some h → h.op = .dappend → h.fin = none → s.hubHead h = .ok l v → s.deepErr true v = false → s.deepXlate h v false = .ok tr →
    let g : HubCmd := { h with crec := l, req := v }
    (s.assign (deepCount v) (deepRep v) = none → exec (.dappendExecute k) s = .next (s.hubFinish g { status := 6 } (4096 * deepCount v))) ∧
    ∀ a b head, s.assign (deepCount v) (deepRep v) = some (a, b, head) →
      let t := (s.hubFill [h.a, h.b]).hubStart { g with tr := tr, left := List.range (deepCount v), first := a, rep := b }
      exec (.dappendExecute k) s =
        .next ({ t with dlog := { t.dlog with head := head, phys := t.dlog.phys - (if deepRep v then 2 * deepCount v else deepCount v) } } : State).compactLow) ∧
  (∀ (t : State), (t.fsplit.getLsbD 4 = true ∨ Config.compactBelow ≤ t.dlog.phys → t.compactLow = t) ∧
    (t.fsplit.getLsbD 4 = false → t.dlog.phys < Config.compactBelow → t.compactLow = { t with dlog := { t.dlog with busy := true } })) ∧
  (∀ h page, s.hub? k = some h → h.op = .dappend → h.queued = false → s.ownerOpen h.owner = true →
    h.left[Config.appendOrder k h.left.length % h.left.length]? = some page →
    let rest := h.left.filter (· != page)
    let put := fun (q : Nat → FlashPage) =>
      let f := mput s.flash (h.first + page) (q (h.first + page))
      if deepRep h.req then mput f (h.rep + page) (q (h.rep + page)) else f
    let finish := fun (t : State) (g : HubCmd) => (t.putHub g).hubFinish g
      { status := if g.failed.isEmpty then 0 else 4, count := g.done.length, addr := h.first, fail := (g.failed.min?.map (h.first + ·)).getD 0,
        rep := if deepRep h.req then h.rep else 0 } (4096 * deepCount h.req)
    (s.sourcePage h page = .later → exec (.dappendDurable k) s = .next s) ∧
    (∀ v, s.sourcePage h page = .val v →
      let t : State := { s with flash := put (newPage (leBytes 4096 v)) }
      let g : HubCmd := { h with left := rest, done := h.done ++ [page] }
      (rest ≠ [] → exec (.dappendDurable k) s = .next (t.putHub g)) ∧
      (rest = [] → s.crecFree h h.crec = true → exec (.dappendDurable k) s = .next (finish t g))) ∧
    ∀ c, s.sourcePage h page = .fault c →
      let t : State := { s with flash := put fun _ => { blank := true }, dlog := { s.dlog with phys := s.dlog.phys + if deepRep h.req then 2 else 1 } }
      let g : HubCmd := { h with left := rest, failed := h.failed ++ [page] }
      (rest ≠ [] → exec (.dappendDurable k) s = .next (t.putHub g)) ∧
      (rest = [] → s.crecFree h h.crec = true → exec (.dappendDurable k) s = .next (finish t g))) ∧
  ∀ n, (s.dlog.busy = true → s.dlog.phys ≤ n → n + ((s.flash.filter fun p => !p.2.blank).length + s.appending) ≤ Config.flashPages →
      exec (.compactionComplete n) s = .next { s with dlog := { s.dlog with busy := false, phys := n } }) ∧
    (s.dlog.busy = false ∨ n < s.dlog.phys ∨ Config.flashPages < n + ((s.flash.filter fun p => !p.2.blank).length + s.appending) → exec (.compactionComplete n) s = .next s)

end Sys2Proof.Machine

/-- R92, R98 to R101, R105, R106, R206, R208, R209, R214 to R217, R219 to R227, R318, R319, R331 to R334, R336 to R338, R340 to R350: the engines at work: tile and stream with the matrix
array, near memory, deep tier. The stop at the
first failing element, the order in which matrix commands act and the element a misaligned seam address names are the model's (assumptions 44, 65, 90 and 91). -/
def Obligations.EngineEvents : Prop := TileAndStreamEvents ∧ NearEvents ∧ DeepReads ∧ DeepAppends

/-! ### The package -/

namespace Sys2Proof.Machine

/-- R348, R357: after a reset or a power loss everything stands as after device reset but the durable flash pages and host memory; the physical pages of broken appends are free again, and
the survey begins anew. (The survey's epoch, the model's clock, its numbering and the order of its events are no state of the machine, and go on.) -/
def Reboots : Prop := ∀ (s : State), ∀ i ∈ [Instr.packageReset, .carrierPowerLoss],
  exec i s = .next { State.reset with
    flash := s.flash, hostMem := s.hostMem, dlog := { phys := s.dlog.phys + s.appending },
    svy := { epoch := s.svy.epoch + 1 }, tick := s.tick, nextId := s.nextId, sched := s.sched }

/-- R357 to R361: while the survey runs a link that is training is left out or has trained and verified its sides; when none is training a message reaches a die
from a neighbour that is its originator, or an included die that has it; when all of them have arrived Miryen decides; a failed image is replaced by the recovery
image, or the survey fails. -/
def SurveyEvents : Prop := ∀ (s : State),
  let v := s.svy
  v.running = true →
  (∀ k e, linkEnds k = some e → v.link k = .training →
    exec (.linkTrainingTimeout k) s = .next { s with svy := { v with links := mput v.links k .left } } ∧
    ∀ a ∈ [0, 2, 3], ∀ b ∈ [0, 2, 3], exec (.linkAuthentication k a b) s = .next { s with svy := { v with links := mput v.links k (.trained a b) } }) ∧
  (∀ d o n, d < 29 → o < 29 → d ≠ o → (d, o) ∉ v.got → (∀ k, k < Config.links.length → v.link k ≠ .training) → (∀ w ∈ v.found d, w = 0) → n ∈ v.neighbours d → (∀ w ∈ v.found n, w = 0) →
    (n = o ∨ n ∈ v.included ∧ (n, o) ∈ v.got) → exec (.surveyMessage d o) s = .next { s with svy := { v with got := v.got ++ [(d, o)] } }) ∧
  (∀ d o, (∃ k, k < Config.links.length ∧ v.link k = .training) → exec (.surveyMessage d o) s = .next s) ∧
  ((Config.imageOk v.epoch = true ∨ v.image = .recovery) → (∀ k, k < Config.links.length → v.link k ≠ .training) → (∀ d ∈ v.included, d = 28 ∨ (28, d) ∈ v.got) →
    let short := (List.range 24).any fun p => v.included.contains (24 + p / 6) && s.shortPort p
    let t : State := { s with svy := v.collect short, atomicOps := Config.rootAtomics v.epoch }
    ((v.collect short).done = true → exec .surveyCollect s = .next t.trainPorts.redrift) ∧ ((v.collect short).done = false → exec .surveyCollect s = .next t)) ∧
  (Config.imageOk v.epoch = false → v.image = .loaded →
    exec (.recoveryImageLoad true) s = .next { s with svy := { v with image := .recovery } } ∧ exec (.recoveryImageLoad false) s = .next { s with svy := { v with image := .failed, fail := true } })

/-- R362: the primary link of a drift-table entry leads to the destination in the fewest hops, ties by ascending link number, and there is none where no link
does. -/
def DriftEntries : Prop := ∀ (cs : List (Nat × Nat)),
  ((driftOf cs).primary = none ↔ cs = []) ∧
  ∀ k, (driftOf cs).primary = some k → ∃ h, (h, k) ∈ cs ∧ ∀ d ∈ cs, h < d.1 ∨ h = d.1 ∧ k ≤ d.2

/-- R358, R359, R362, R363, R366, R374: after the survey a link that is lost excludes the dies it cuts off from those that were up, with the ports of a lost optical die; the ports
of the pod come up with their first keys, on dies that are up and with 64 wavelengths; a package found behind a switch is back too; the tables are recomputed. -/
def LinksAndPod : Prop := ∀ (s : State), s.svy.done = true →
  (∀ k e, linkEnds k = some e → s.svy.link k ≠ .left →
    let w : Survey := { s.svy with links := mput s.svy.links k .left }
    let out := (List.range 29).filter fun d => (mget {} s.svy.dies d).state == 1 && !(w.reached s.svy.up).contains d && !s.svy.lost.contains d
    let t : State := { s with svy := { w with lost := s.svy.lost ++ out } }
    let t := ((List.range 24).filter fun p => out.contains (24 + p / 6)).foldl (fun t p => t.setPort p (t.port? p).downed) t
    exec (.linkLoss k) s = .next (if out = [] then t else t.report 6 0).redrift) ∧
  ∀ n, 1 ≤ n → n ≤ 256 → exec (.podSurvey n []) s = .next ({ s with pkgs := n, left := s.left.filter fun q => decide (q < n) } : State).redrift ∧
    (∀ p m, 24 ≤ p → exec (.podSurvey n [(p, m)]) s = .next ({ s with pkgs := n, left := s.left.filter (fun q => decide (q < n ∧ q ≠ m % 256)) } : State).redrift) ∧
    ∀ p m, p < 24 → s.svy.up (24 + p / 6) = true → (s.port? p).retired.length ≤ 32 →
      let w : Vport := { state := .up, retired := (s.port? p).retired, peer := m % 256, replays := (s.port? p).replays, key0 := true, rx0 := true }
      exec (.podSurvey n [(p, m)]) s =
        .next ({ s with pkgs := n, left := s.left.filter (fun q => decide (q < n ∧ q ≠ m % 256)), vxl := mset {} s.vxl p w } : State).redrift

/-- R364 to R368, R372, R374 (how many requests bring a port down at each of its sides is assumption 63): a data flit in sequence under a key the port holds is accepted, any other is asked for again and recorded, and after 16 times the port goes down; acknowledgements release the buffer; a key is rolled over
and the old one retired by a flit that takes a nonce count; a wavelength is retired and returns, below 64 the port goes down, in training too, and with 64 again it trains; a
package leaves the pod. -/
def PortEvents : Prop := ∀ (s : State) p,
  let v := s.port? p
  let set := fun (w : Vport) => s.setPort p w
  (v.live = true →
    (∀ ack, exec (.vexlisAckFlit p ack) s = .next (set (v.acked ack.toNat)) ∧ exec (.vexlisIdleFlit p ack) s = .next (set (v.acked ack.toNat))) ∧
    (∀ seq ack ph, v.rxKey ph = true → seq.toNat = v.rxSeq →
      exec (.vexlisDataFlit p seq ack ph true) s = .next (set (({ v with rxSeq := (v.rxSeq + 1) % 4096, asked := 0, cred := v.cred + 1 } : Vport).acked ack.toNat))) ∧
    (∀ seq ack ph intact, (intact = false ∨ v.rxKey ph = false ∨ seq.toNat ≠ v.rxSeq) →
      (v.asked < 15 → exec (.vexlisDataFlit p seq ack ph intact) s = .next ((set { v with asked := v.asked + 1 }).report 7 0 (some 0) none (some p))) ∧
      (15 ≤ v.asked → exec (.vexlisDataFlit p seq ack ph intact) s = .next (s.portDown p))) ∧
    (∀ seq, let n := if v.reqs ≠ 0 ∧ v.reqSeq = seq.toNat then v.reqs + 1 else 1
      let w : Vport := { v with replays := (v.replays + 1) % 2 ^ 32, reqSeq := seq.toNat, reqs := n }
      exec (.vexlisReplayRequest p seq) s = .next (if 16 ≤ n then (set w).portDown p else (set w).report 7 0 (some 0) none (some p))) ∧
    (∀ seq ph, v.rxKey ph = true → seq.toNat = v.rxSeq → exec (.vexlisKeyRetire p seq ph) s = .next (set { v with rx0 := v.rx0 && !ph, rx1 := v.rx1 && ph }))) ∧
  (v.state = .up → v.key (!v.ph) = false → v.rxKey (!v.ph) = false →
    exec (.keyRollover p) s = .next (set ({ v with state := .rollover, ph := !v.ph, ctr := 0, key0 := v.key0 || v.ph, key1 := v.key1 || !v.ph, rx0 := v.rx0 || v.ph, rx1 := v.rx1 || !v.ph } : Vport).retire)) ∧
  (v.state = .up → v.key (!v.ph) = false → v.rxKey (!v.ph) = false → v.buf = [] →
    exec (.keyRollover p) s = .next (set { v with ph := !v.ph, ctr := 1, key0 := v.ph, key1 := !v.ph, rx0 := v.rx0 || v.ph, rx1 := v.rx1 || !v.ph })) ∧
  (∀ w, w < 96 → w ∉ v.retired →
    let t := set { v with retired := v.retired ++ [w] }
    let runs := v.live = true ∨ v.state = .training
    ((¬ runs ∨ v.retired.length < 32) → exec (.wavelengthLockLoss p w) s = .next t) ∧ (runs → 32 ≤ v.retired.length → exec (.wavelengthLockLoss p w) s = .next (t.portDown p))) ∧
  (∀ w, exec (.wavelengthRetry p w false) s = .next s ∧
    let t := set { v with retired := v.retired.filter (· != w) }
    ((s.svy.done = false ∨ v.retired.length ≤ 32) → exec (.wavelengthRetry p w true) s = .next t) ∧
    (s.svy.done = true → 32 < v.retired.length → (v.retired.filter (· != w)).length ≤ 32 → p < 24 → s.svy.up (24 + p / 6) = true →
      exec (.wavelengthRetry p w true) s = .next (t.setPort p { v with retired := v.retired.filter (· != w), state := .training }))) ∧
  ∀ k, k ≠ Config.package → k < s.pkgs → k ∉ s.left → ∃ t, exec (.packageRemoval k) s = .next t ∧ t = { s with left := s.left ++ [k], vxl := t.vxl, drift := t.drift } ∧
    t.vxl = (s.vxl.map fun p => (p.1, if p.2.peer = k then p.2.downed else p.2)).filter (fun p => p.2 != {}) ∧ ∀ pa, paPackage pa = k → t.backed pa = false

/-- R321, R322, R342, R352: the copier moves a line of a page that no running hub command touches, once the two pseudo-channels it reaches are awake; when all are moved the entry
is written, once nothing holds its sectors, and its invalidation starts. -/
def CopierEvents : Prop := ∀ (s : State) line, s.mig.busy = true → s.mig.flush = false → s.hubTouches s.mig.src s.mig.bytes = false →
  let a := s.mig.src + 128 * line
  let b := s.mig.dst + 128 * line
  (s.mig.moved.length * 128 ≠ s.mig.bytes → line ∉ s.mig.moved → 128 * line < s.mig.bytes → s.asleep a = false → s.asleep b = false →
    exec (.migrationLineMove line) s = .next { ((s.moveLine a b).reach a).reach b with mig := { s.mig with moved := s.mig.moved ++ [line] } }) ∧
  (s.mig.moved.length * 128 ≠ s.mig.bytes → (s.asleep a = true ∨ s.asleep b = true) → exec (.migrationLineMove line) s = .next s) ∧
  (s.mig.moved.length * 128 = s.mig.bytes → s.xlt.busy = false → s.remapReady = true →
    exec (.migrationLineMove line) s = .next (({ s.remap with mig := { s.mig with flush := true } } : State).startInv s.mig.va (if s.mig.bytes = 65536 then 0 else if s.mig.bytes = 2097152 then 1 else 2)))

/-- R351 to R353: a pseudo-channel that has been idle long enough goes to power-down, and from there to self-refresh; a wake makes it leave, self-refresh counted, and
restarts an active channel's timer; the exit ends in the active state with the timers of HBM_PWRCFG. -/
def PseudoChannels : Prop := ∀ (s : State) p, p < 512 →
  let c := mget {} s.pch p
  let put := fun (x : PseudoChan) => ({ s with pch := mset {} s.pch p x } : State)
  (c.state = 0 → c.cfg.pden = true → c.cfg.pdidle ≠ 0 → s.idle c = true → exec (.powerDownEntry p) s = .next (put { c with state := 1 })) ∧
  (c.state = 1 → c.cfg.pden = true → c.cfg.sren = true → s.idle c = true → exec (.selfRefreshEntry p) s = .next (put { c with state := 2 })) ∧
  (c.state = 0 → exec (.pseudoChannelWake p) s = .next (put { c with cfg := s.pwrcfg, last := some s.tick })) ∧
  (c.state = 1 → exec (.pseudoChannelWake p) s = .next (put { c with state := 3, last := some s.tick })) ∧
  (c.state = 2 → exec (.pseudoChannelWake p) s = .next (put { c with state := 3, srexits := (c.srexits + 1) % 2 ^ 32, last := some s.tick })) ∧
  (c.state = 3 → exec (.pseudoChannelExitComplete p) s = .next (put { c with state := 0, cfg := s.pwrcfg }))

/-- R371: a measurement moves the clock at most one step, down above the cap or near a limit, up with 150 W to spare; at the lowest step above the cap issue cycles
are skipped until the power falls below it. -/
def Measurements : Prop := ∀ (s : State) w (near5 near10 : Bool), ∃ t, exec (.powerMeasurement w near5 near10) s = .next t ∧
  t = { s with pwr := t.pwr } ∧ t.pwr.pwr = w.toNat ∧ t.pwr.cap = s.pwr.cap ∧ t.pwr.fmin = s.pwr.fmin ∧
  ((s.pwr.cap < w.toNat ∨ near5 = true) → 8 < s.pwr.step → t.pwr.step = s.pwr.step - 1) ∧
  ((w.toNat + 150 ≤ s.pwr.cap ∧ near5 = false ∧ near10 = false) → s.pwr.step < 17 → t.pwr.step = s.pwr.step + 1) ∧
  ((w.toNat ≤ s.pwr.cap ∧ s.pwr.cap < w.toNat + 150 ∧ near5 = false) → s.pwr.fmin ≤ s.pwr.step → t.pwr.step = s.pwr.step) ∧
  (s.pwr.step = 8 → s.pwr.cap < w.toNat → t.pwr.skip = true) ∧ (w.toNat < s.pwr.cap → t.pwr.skip = false)

/-- R318, R372, R373: a corrected error is recorded; what an uncorrectable one loses is poisoned, a clean copy dropped, a unit of which state is lost ended, and Miryen's
loss fatal, each with its record, which names the die where the place fixes one; a row, block or lane is spared with no effect, or retired with a record. What a record holds
that no rule gives is free (assumption 30). -/
def ErrorEvents : Prop := ∀ (s : State),
  (∀ cls die d, exec (.singleBitError cls die d) s = .next (s.report cls.toNat 0 (some 0) (some d.toNat) (some die.toNat))) ∧
  (∀ loc off d,
    let rec_ := fun (cls sev : Nat) (die : Option Nat) (t : State) => (.next (t.report cls 0 (some sev) (some d.toNat) die) : Host.Outcome State Fault Refusal)
    (off % 6 ≤ 1 → exec (.doubleBitError 0 loc off d) s = rec_ 1 0 none (s.dropClean loc off)) ∧
    (2 ≤ off % 6 → off % 6 ≤ 4 → exec (.doubleBitError 0 loc off d) s = rec_ 1 0 (some (layerOf loc)) (s.dropClean loc off)) ∧
    (off % 6 = 5 → exec (.doubleBitError 0 loc off d) s = rec_ 1 0 (some 28) (s.dropClean loc off)) ∧
    (s.isHbm (32 * loc) = true → exec (.doubleBitError 6 loc off d) s = rec_ 3 1 (some (16 + s.stackOf (32 * loc))) (s.poisonSector loc)) ∧
    (s.isHbm (32 * loc) = false → exec (.doubleBitError 6 loc off d) s = rec_ 4 1 none (s.poisonSector loc)) ∧
    exec (.doubleBitError 7 loc off d) s = rec_ 2 1 (some (layerOf (coreOf loc))) (s.modGang loc (off / 8192) (·.markReg (off % 8192))) ∧
    exec (.doubleBitError 4 loc off d) s = rec_ 1 2 (some (layerOf (coreOf loc))) (s.modUnit loc fun x => { x with ending := some (x.ending.getD .poisonedData) }) ∧
    (loc < 29 → exec (.doubleBitError 5 loc off d) s = rec_ 1 4 (some loc) { s with fatal := true }) ∧
    exec (.doubleBitError 2 loc off d) s = rec_ 1 1 (some (layerOf loc)) (s.loseBlock loc off) ∧
    (off < Config.spadBytes → off / 4 ∉ (s.core loc).spadBad →
      exec (.doubleBitError 3 loc off d) s = rec_ 1 1 (some (layerOf loc)) (s.modCore loc fun k => { k with spadBad := off / 4 :: k.spadBad })) ∧
    (loc ∉ s.linkBad → exec (.doubleBitError 9 loc off d) s = rec_ 8 1 (some 28) { s with linkBad := loc :: s.linkBad }) ∧
    (s.owned (32 * loc) = true →
      let writes := fun (l : Nat × LayerCache) => l.2.out.any fun w => w.bytes.any fun p => sectorOf p.1 == loc
      (∀ l, s.layers.find? writes = some l → exec (.doubleBitError 1 loc off d) s = rec_ 1 1 (some l.1) (s.poisonSector loc)) ∧
      (s.layers.find? writes = none → exec (.doubleBitError 1 loc off d) s = rec_ 1 1 (some 28) (s.poisonSector loc)))) ∧
  (∀ loc, (s.dropClean loc 0).mem = s.mem ∧ (∀ y, mfind ((s.dropClean loc 0).layer y).copies loc = none) ∧ ∀ c, mfind ((s.dropClean loc 0).core c).l1 (2 * loc) = none) ∧
  ∀ cls ∈ [3, 5, 6, 7], ∀ d, exec (.hbmRowSparing (cls, d) true) s = .next s ∧ exec (.hbmRowSparing (cls, d) false) s = .next (s.report cls 0 (some 3) (some d.toNat))

end Sys2Proof.Machine

/-- R318, R321, R322, R348, R351 to R353, R357 to R368, R371 to R374: the package: reset and power loss, the survey, Vexlis ports, migration, pseudo-channels, clock and errors. What a
reset keeps, what a flit carries, what an error record holds beside its layout, how many replay requests bring a port down at each side, which accesses reach a pseudo-channel and when a port
trains are the model's (assumptions 30, 60, 63, 81, 101 and 103). -/
def Obligations.PackageEvents : Prop :=
  Reboots ∧ SurveyEvents ∧ DriftEntries ∧ LinksAndPod ∧ PortEvents ∧ CopierEvents ∧ PseudoChannels ∧ Measurements ∧ ErrorEvents
end

