-- ==== Sys2Proof/Laws/Dispatch.lean ====
section
/-! SUPPORT. The meaning of each constructor of the instruction set, as `exec` dispatches it. -/

namespace Sys2Proof.Machine

theorem exec_nop (s : State) : exec .nop s = execNop s := rfl
theorem exec_exit (s : State) : exec .exit s = execExit s := rfl
theorem exec_gbar (s : State) : exec .gbar s = execGbar s := rfl
theorem exec_ubar (s : State) : exec .ubar s = execUbar s := rfl
theorem exec_wait (vm : BitVec 6) (sp : BitVec 6) (s : State) : exec (.wait vm sp) s = execWait vm sp s := rfl
theorem exec_trap (code : BitVec 16) (s : State) : exec (.trap code) s = execTrap code s := rfl
theorem exec_bkpt (tag : BitVec 16) (s : State) : exec (.bkpt tag) s = execBkpt tag s := rfl
theorem exec_rett (s : State) : exec .rett s = execRett s := rfl
theorem exec_cancelGraph (h : BitVec 5) (s : State) : exec (.cancelGraph h) s = execCancelGraph h s := rfl
theorem exec_cancelPhase (h : BitVec 5) (s : State) : exec (.cancelPhase h) s = execCancelPhase h s := rfl
theorem exec_cancelJob (h : BitVec 5) (s : State) : exec (.cancelJob h) s = execCancelJob h s := rfl
theorem exec_ctxsv (h : BitVec 5) (s : State) : exec (.ctxsv h) s = execCtxsv h s := rfl
theorem exec_br (disp : BitVec 16) (s : State) : exec (.br disp) s = execBr disp s := rfl
theorem exec_brZ (c : BitVec 6) (disp : BitVec 16) (s : State) : exec (.brZ c disp) s = execBrZ c disp s := rfl
theorem exec_brNz (c : BitVec 6) (disp : BitVec 16) (s : State) : exec (.brNz c disp) s = execBrNz c disp s := rfl
theorem exec_brd (m : BitVec 4) (disp : BitVec 16) (s : State) : exec (.brd m disp) s = execBrd m disp s := rfl
theorem exec_brdN (m : BitVec 4) (disp : BitVec 16) (s : State) : exec (.brdN m disp) s = execBrdN m disp s := rfl
theorem exec_call (link : BitVec 6) (disp : BitVec 16) (s : State) : exec (.call link disp) s = execCall link disp s := rfl
theorem exec_ret (link : BitVec 6) (s : State) : exec (.ret link) s = execRet link s := rfl
theorem exec_spawn (c : BitVec 6) (disp : BitVec 16) (s : State) : exec (.spawn c disp) s = execSpawn c disp s := rfl
theorem exec_add (d : BitVec 6) (a : BitVec 6) (b : BitVec 6) (s : State) : exec (.add d a b) s = execAdd d a b s := rfl
theorem exec_sub (d : BitVec 6) (a : BitVec 6) (b : BitVec 6) (s : State) : exec (.sub d a b) s = execSub d a b s := rfl
theorem exec_mul (d : BitVec 6) (a : BitVec 6) (b : BitVec 6) (s : State) : exec (.mul d a b) s = execMul d a b s := rfl
theorem exec_mulhiI64 (d : BitVec 6) (a : BitVec 6) (b : BitVec 6) (s : State) : exec (.mulhiI64 d a b) s = execMulhiI64 d a b s := rfl
theorem exec_mulhiN64 (d : BitVec 6) (a : BitVec 6) (b : BitVec 6) (s : State) : exec (.mulhiN64 d a b) s = execMulhiN64 d a b s := rfl
theorem exec_and (d : BitVec 6) (a : BitVec 6) (b : BitVec 6) (s : State) : exec (.and d a b) s = execAnd d a b s := rfl
theorem exec_or (d : BitVec 6) (a : BitVec 6) (b : BitVec 6) (s : State) : exec (.or d a b) s = execOr d a b s := rfl
theorem exec_xor (d : BitVec 6) (a : BitVec 6) (b : BitVec 6) (s : State) : exec (.xor d a b) s = execXor d a b s := rfl
theorem exec_shl (d : BitVec 6) (a : BitVec 6) (b : BitVec 6) (s : State) : exec (.shl d a b) s = execShl d a b s := rfl
theorem exec_shr (d : BitVec 6) (a : BitVec 6) (b : BitVec 6) (s : State) : exec (.shr d a b) s = execShr d a b s := rfl
theorem exec_sar (d : BitVec 6) (a : BitVec 6) (b : BitVec 6) (s : State) : exec (.sar d a b) s = execSar d a b s := rfl
theorem exec_minI64 (d : BitVec 6) (a : BitVec 6) (b : BitVec 6) (s : State) : exec (.minI64 d a b) s = execMinI64 d a b s := rfl
theorem exec_minN64 (d : BitVec 6) (a : BitVec 6) (b : BitVec 6) (s : State) : exec (.minN64 d a b) s = execMinN64 d a b s := rfl
theorem exec_maxI64 (d : BitVec 6) (a : BitVec 6) (b : BitVec 6) (s : State) : exec (.maxI64 d a b) s = execMaxI64 d a b s := rfl
theorem exec_maxN64 (d : BitVec 6) (a : BitVec 6) (b : BitVec 6) (s : State) : exec (.maxN64 d a b) s = execMaxN64 d a b s := rfl
theorem exec_seq (d : BitVec 6) (a : BitVec 6) (b : BitVec 6) (s : State) : exec (.seq d a b) s = execSeq d a b s := rfl
theorem exec_sltI64 (d : BitVec 6) (a : BitVec 6) (b : BitVec 6) (s : State) : exec (.sltI64 d a b) s = execSltI64 d a b s := rfl
theorem exec_sltN64 (d : BitVec 6) (a : BitVec 6) (b : BitVec 6) (s : State) : exec (.sltN64 d a b) s = execSltN64 d a b s := rfl
theorem exec_mov (d : BitVec 6) (a : BitVec 6) (s : State) : exec (.mov d a) s = execMov d a s := rfl
theorem exec_popc (d : BitVec 6) (a : BitVec 6) (s : State) : exec (.popc d a) s = execPopc d a s := rfl
theorem exec_clz (d : BitVec 6) (a : BitVec 6) (s : State) : exec (.clz d a) s = execClz d a s := rfl
theorem exec_mtos (d : BitVec 6) (a : BitVec 6) (s : State) : exec (.mtos d a) s = execMtos d a s := rfl
theorem exec_stom (d : BitVec 6) (a : BitVec 6) (s : State) : exec (.stom d a) s = execStom d a s := rfl
theorem exec_mand (d : BitVec 6) (a : BitVec 6) (b : BitVec 6) (s : State) : exec (.mand d a b) s = execMand d a b s := rfl
theorem exec_mor (d : BitVec 6) (a : BitVec 6) (b : BitVec 6) (s : State) : exec (.mor d a b) s = execMor d a b s := rfl
theorem exec_mxor (d : BitVec 6) (a : BitVec 6) (b : BitVec 6) (s : State) : exec (.mxor d a b) s = execMxor d a b s := rfl
theorem exec_mnot (d : BitVec 6) (a : BitVec 6) (s : State) : exec (.mnot d a) s = execMnot d a s := rfl
theorem exec_addi (d : BitVec 6) (a : BitVec 6) (imm : BitVec 10) (s : State) : exec (.addi d a imm) s = execAddi d a imm s := rfl
theorem exec_andi (d : BitVec 6) (a : BitVec 6) (imm : BitVec 10) (s : State) : exec (.andi d a imm) s = execAndi d a imm s := rfl
theorem exec_ori (d : BitVec 6) (a : BitVec 6) (imm : BitVec 10) (s : State) : exec (.ori d a imm) s = execOri d a imm s := rfl
theorem exec_xori (d : BitVec 6) (a : BitVec 6) (imm : BitVec 10) (s : State) : exec (.xori d a imm) s = execXori d a imm s := rfl
theorem exec_shli (d : BitVec 6) (a : BitVec 6) (n : BitVec 6) (s : State) : exec (.shli d a n) s = execShli d a n s := rfl
theorem exec_shri (d : BitVec 6) (a : BitVec 6) (n : BitVec 6) (s : State) : exec (.shri d a n) s = execShri d a n s := rfl
theorem exec_sari (d : BitVec 6) (a : BitVec 6) (n : BitVec 6) (s : State) : exec (.sari d a n) s = execSari d a n s := rfl
theorem exec_seqi (d : BitVec 6) (a : BitVec 6) (imm : BitVec 10) (s : State) : exec (.seqi d a imm) s = execSeqi d a imm s := rfl
theorem exec_sltiI64 (d : BitVec 6) (a : BitVec 6) (imm : BitVec 10) (s : State) : exec (.sltiI64 d a imm) s = execSltiI64 d a imm s := rfl
theorem exec_sltiN64 (d : BitVec 6) (a : BitVec 6) (imm : BitVec 10) (s : State) : exec (.sltiN64 d a imm) s = execSltiN64 d a imm s := rfl
theorem exec_ldi (d : BitVec 6) (k : BitVec 2) (imm : BitVec 16) (s : State) : exec (.ldi d k imm) s = execLdi d k imm s := rfl
theorem exec_ldih (d : BitVec 6) (k : BitVec 2) (imm : BitVec 16) (s : State) : exec (.ldih d k imm) s = execLdih d k imm s := rfl
theorem exec_srd (d : BitVec 6) (num : BitVec 8) (s : State) : exec (.srd d num) s = execSrd d num s := rfl
theorem exec_swr (d : BitVec 6) (num : BitVec 8) (s : State) : exec (.swr d num) s = execSwr d num s := rfl
theorem exec_sldB64 (d : BitVec 6) (a : BitVec 6) (imm : BitVec 10) (s : State) : exec (.sldB64 d a imm) s = execSldB64 d a imm s := rfl
theorem exec_sldN32 (d : BitVec 6) (a : BitVec 6) (imm : BitVec 10) (s : State) : exec (.sldN32 d a imm) s = execSldN32 d a imm s := rfl
theorem exec_sldI32 (d : BitVec 6) (a : BitVec 6) (imm : BitVec 10) (s : State) : exec (.sldI32 d a imm) s = execSldI32 d a imm s := rfl
theorem exec_sstB64 (d : BitVec 6) (a : BitVec 6) (imm : BitVec 10) (s : State) : exec (.sstB64 d a imm) s = execSstB64 d a imm s := rfl
theorem exec_sstB32 (d : BitVec 6) (a : BitVec 6) (imm : BitVec 10) (s : State) : exec (.sstB32 d a imm) s = execSstB32 d a imm s := rfl
theorem exec_dsld (d : BitVec 6) (a : BitVec 6) (imm : BitVec 10) (s : State) : exec (.dsld d a imm) s = execDsld d a imm s := rfl
theorem exec_dsst (d : BitVec 6) (a : BitVec 6) (imm : BitVec 10) (s : State) : exec (.dsst d a imm) s = execDsst d a imm s := rfl
theorem exec_sldsB64 (d : BitVec 6) (a : BitVec 6) (imm : BitVec 10) (s : State) : exec (.sldsB64 d a imm) s = execSldsB64 d a imm s := rfl
theorem exec_sstsB64 (d : BitVec 6) (a : BitVec 6) (imm : BitVec 10) (s : State) : exec (.sstsB64 d a imm) s = execSstsB64 d a imm s := rfl
theorem exec_vaddI32 (d : BitVec 7) (a : BitVec 7) (b : BitVec 7) (s : State) : exec (.vaddI32 d a b) s = execVaddI32 d a b s := rfl
theorem exec_vaddN32 (d : BitVec 7) (a : BitVec 7) (b : BitVec 7) (s : State) : exec (.vaddN32 d a b) s = execVaddN32 d a b s := rfl
theorem exec_vsubI32 (d : BitVec 7) (a : BitVec 7) (b : BitVec 7) (s : State) : exec (.vsubI32 d a b) s = execVsubI32 d a b s := rfl
theorem exec_vsubN32 (d : BitVec 7) (a : BitVec 7) (b : BitVec 7) (s : State) : exec (.vsubN32 d a b) s = execVsubN32 d a b s := rfl
theorem exec_vmulI32 (d : BitVec 7) (a : BitVec 7) (b : BitVec 7) (s : State) : exec (.vmulI32 d a b) s = execVmulI32 d a b s := rfl
theorem exec_vmulN32 (d : BitVec 7) (a : BitVec 7) (b : BitVec 7) (s : State) : exec (.vmulN32 d a b) s = execVmulN32 d a b s := rfl
theorem exec_vmulhiI32 (d : BitVec 7) (a : BitVec 7) (b : BitVec 7) (s : State) : exec (.vmulhiI32 d a b) s = execVmulhiI32 d a b s := rfl
theorem exec_vmulhiN32 (d : BitVec 7) (a : BitVec 7) (b : BitVec 7) (s : State) : exec (.vmulhiN32 d a b) s = execVmulhiN32 d a b s := rfl
theorem exec_vaddsI32 (d : BitVec 7) (a : BitVec 7) (b : BitVec 7) (s : State) : exec (.vaddsI32 d a b) s = execVaddsI32 d a b s := rfl
theorem exec_vaddsN32 (d : BitVec 7) (a : BitVec 7) (b : BitVec 7) (s : State) : exec (.vaddsN32 d a b) s = execVaddsN32 d a b s := rfl
theorem exec_vsubsI32 (d : BitVec 7) (a : BitVec 7) (b : BitVec 7) (s : State) : exec (.vsubsI32 d a b) s = execVsubsI32 d a b s := rfl
theorem exec_vsubsN32 (d : BitVec 7) (a : BitVec 7) (b : BitVec 7) (s : State) : exec (.vsubsN32 d a b) s = execVsubsN32 d a b s := rfl
theorem exec_vminI32 (d : BitVec 7) (a : BitVec 7) (b : BitVec 7) (s : State) : exec (.vminI32 d a b) s = execVminI32 d a b s := rfl
theorem exec_vminN32 (d : BitVec 7) (a : BitVec 7) (b : BitVec 7) (s : State) : exec (.vminN32 d a b) s = execVminN32 d a b s := rfl
theorem exec_vmaxI32 (d : BitVec 7) (a : BitVec 7) (b : BitVec 7) (s : State) : exec (.vmaxI32 d a b) s = execVmaxI32 d a b s := rfl
theorem exec_vmaxN32 (d : BitVec 7) (a : BitVec 7) (b : BitVec 7) (s : State) : exec (.vmaxN32 d a b) s = execVmaxN32 d a b s := rfl
theorem exec_vandB32 (d : BitVec 7) (a : BitVec 7) (b : BitVec 7) (s : State) : exec (.vandB32 d a b) s = execVandB32 d a b s := rfl
theorem exec_vorB32 (d : BitVec 7) (a : BitVec 7) (b : BitVec 7) (s : State) : exec (.vorB32 d a b) s = execVorB32 d a b s := rfl
theorem exec_vxorB32 (d : BitVec 7) (a : BitVec 7) (b : BitVec 7) (s : State) : exec (.vxorB32 d a b) s = execVxorB32 d a b s := rfl
theorem exec_vnotB32 (d : BitVec 7) (a : BitVec 7) (s : State) : exec (.vnotB32 d a) s = execVnotB32 d a s := rfl
theorem exec_vshlB32 (d : BitVec 7) (a : BitVec 7) (b : BitVec 7) (s : State) : exec (.vshlB32 d a b) s = execVshlB32 d a b s := rfl
theorem exec_vshrN32 (d : BitVec 7) (a : BitVec 7) (b : BitVec 7) (s : State) : exec (.vshrN32 d a b) s = execVshrN32 d a b s := rfl
theorem exec_vshrI32 (d : BitVec 7) (a : BitVec 7) (b : BitVec 7) (s : State) : exec (.vshrI32 d a b) s = execVshrI32 d a b s := rfl
theorem exec_vpopcB32 (d : BitVec 7) (a : BitVec 7) (s : State) : exec (.vpopcB32 d a) s = execVpopcB32 d a s := rfl
theorem exec_vclzB32 (d : BitVec 7) (a : BitVec 7) (s : State) : exec (.vclzB32 d a) s = execVclzB32 d a s := rfl
theorem exec_vaddF32 (d : BitVec 7) (a : BitVec 7) (b : BitVec 7) (s : State) : exec (.vaddF32 d a b) s = execVaddF32 d a b s := rfl
theorem exec_vsubF32 (d : BitVec 7) (a : BitVec 7) (b : BitVec 7) (s : State) : exec (.vsubF32 d a b) s = execVsubF32 d a b s := rfl
theorem exec_vmulF32 (d : BitVec 7) (a : BitVec 7) (b : BitVec 7) (s : State) : exec (.vmulF32 d a b) s = execVmulF32 d a b s := rfl
theorem exec_vminF32 (d : BitVec 7) (a : BitVec 7) (b : BitVec 7) (s : State) : exec (.vminF32 d a b) s = execVminF32 d a b s := rfl
theorem exec_vmaxF32 (d : BitVec 7) (a : BitVec 7) (b : BitVec 7) (s : State) : exec (.vmaxF32 d a b) s = execVmaxF32 d a b s := rfl
theorem exec_vfmaF32 (d : BitVec 7) (a : BitVec 7) (b : BitVec 7) (s : State) : exec (.vfmaF32 d a b) s = execVfmaF32 d a b s := rfl
theorem exec_vfmsF32 (d : BitVec 7) (a : BitVec 7) (b : BitVec 7) (s : State) : exec (.vfmsF32 d a b) s = execVfmsF32 d a b s := rfl
theorem exec_vfnmaF32 (d : BitVec 7) (a : BitVec 7) (b : BitVec 7) (s : State) : exec (.vfnmaF32 d a b) s = execVfnmaF32 d a b s := rfl
theorem exec_vfnmsF32 (d : BitVec 7) (a : BitVec 7) (b : BitVec 7) (s : State) : exec (.vfnmsF32 d a b) s = execVfnmsF32 d a b s := rfl
theorem exec_vabsF32 (d : BitVec 7) (a : BitVec 7) (s : State) : exec (.vabsF32 d a) s = execVabsF32 d a s := rfl
theorem exec_vnegF32 (d : BitVec 7) (a : BitVec 7) (s : State) : exec (.vnegF32 d a) s = execVnegF32 d a s := rfl
theorem exec_vaddF64 (d : BitVec 7) (a : BitVec 7) (b : BitVec 7) (s : State) : exec (.vaddF64 d a b) s = execVaddF64 d a b s := rfl
theorem exec_vsubF64 (d : BitVec 7) (a : BitVec 7) (b : BitVec 7) (s : State) : exec (.vsubF64 d a b) s = execVsubF64 d a b s := rfl
theorem exec_vmulF64 (d : BitVec 7) (a : BitVec 7) (b : BitVec 7) (s : State) : exec (.vmulF64 d a b) s = execVmulF64 d a b s := rfl
theorem exec_vminF64 (d : BitVec 7) (a : BitVec 7) (b : BitVec 7) (s : State) : exec (.vminF64 d a b) s = execVminF64 d a b s := rfl
theorem exec_vmaxF64 (d : BitVec 7) (a : BitVec 7) (b : BitVec 7) (s : State) : exec (.vmaxF64 d a b) s = execVmaxF64 d a b s := rfl
theorem exec_vfmaF64 (d : BitVec 7) (a : BitVec 7) (b : BitVec 7) (s : State) : exec (.vfmaF64 d a b) s = execVfmaF64 d a b s := rfl
theorem exec_vfmsF64 (d : BitVec 7) (a : BitVec 7) (b : BitVec 7) (s : State) : exec (.vfmsF64 d a b) s = execVfmsF64 d a b s := rfl
theorem exec_vfnmaF64 (d : BitVec 7) (a : BitVec 7) (b : BitVec 7) (s : State) : exec (.vfnmaF64 d a b) s = execVfnmaF64 d a b s := rfl
theorem exec_vfnmsF64 (d : BitVec 7) (a : BitVec 7) (b : BitVec 7) (s : State) : exec (.vfnmsF64 d a b) s = execVfnmsF64 d a b s := rfl
theorem exec_vabsF64 (d : BitVec 7) (a : BitVec 7) (s : State) : exec (.vabsF64 d a) s = execVabsF64 d a s := rfl
theorem exec_vnegF64 (d : BitVec 7) (a : BitVec 7) (s : State) : exec (.vnegF64 d a) s = execVnegF64 d a s := rfl
theorem exec_vaddBf16 (d : BitVec 7) (a : BitVec 7) (b : BitVec 7) (s : State) : exec (.vaddBf16 d a b) s = execVaddBf16 d a b s := rfl
theorem exec_vsubBf16 (d : BitVec 7) (a : BitVec 7) (b : BitVec 7) (s : State) : exec (.vsubBf16 d a b) s = execVsubBf16 d a b s := rfl
theorem exec_vmulBf16 (d : BitVec 7) (a : BitVec 7) (b : BitVec 7) (s : State) : exec (.vmulBf16 d a b) s = execVmulBf16 d a b s := rfl
theorem exec_vminBf16 (d : BitVec 7) (a : BitVec 7) (b : BitVec 7) (s : State) : exec (.vminBf16 d a b) s = execVminBf16 d a b s := rfl
theorem exec_vmaxBf16 (d : BitVec 7) (a : BitVec 7) (b : BitVec 7) (s : State) : exec (.vmaxBf16 d a b) s = execVmaxBf16 d a b s := rfl
theorem exec_vfmaBf16 (d : BitVec 7) (a : BitVec 7) (b : BitVec 7) (s : State) : exec (.vfmaBf16 d a b) s = execVfmaBf16 d a b s := rfl
theorem exec_vfmsBf16 (d : BitVec 7) (a : BitVec 7) (b : BitVec 7) (s : State) : exec (.vfmsBf16 d a b) s = execVfmsBf16 d a b s := rfl
theorem exec_vfnmaBf16 (d : BitVec 7) (a : BitVec 7) (b : BitVec 7) (s : State) : exec (.vfnmaBf16 d a b) s = execVfnmaBf16 d a b s := rfl
theorem exec_vfnmsBf16 (d : BitVec 7) (a : BitVec 7) (b : BitVec 7) (s : State) : exec (.vfnmsBf16 d a b) s = execVfnmsBf16 d a b s := rfl
theorem exec_vabsBf16 (d : BitVec 7) (a : BitVec 7) (s : State) : exec (.vabsBf16 d a) s = execVabsBf16 d a s := rfl
theorem exec_vnegBf16 (d : BitVec 7) (a : BitVec 7) (s : State) : exec (.vnegBf16 d a) s = execVnegBf16 d a s := rfl
theorem exec_vaddF16 (d : BitVec 7) (a : BitVec 7) (b : BitVec 7) (s : State) : exec (.vaddF16 d a b) s = execVaddF16 d a b s := rfl
theorem exec_vsubF16 (d : BitVec 7) (a : BitVec 7) (b : BitVec 7) (s : State) : exec (.vsubF16 d a b) s = execVsubF16 d a b s := rfl
theorem exec_vmulF16 (d : BitVec 7) (a : BitVec 7) (b : BitVec 7) (s : State) : exec (.vmulF16 d a b) s = execVmulF16 d a b s := rfl
theorem exec_vminF16 (d : BitVec 7) (a : BitVec 7) (b : BitVec 7) (s : State) : exec (.vminF16 d a b) s = execVminF16 d a b s := rfl
theorem exec_vmaxF16 (d : BitVec 7) (a : BitVec 7) (b : BitVec 7) (s : State) : exec (.vmaxF16 d a b) s = execVmaxF16 d a b s := rfl
theorem exec_vfmaF16 (d : BitVec 7) (a : BitVec 7) (b : BitVec 7) (s : State) : exec (.vfmaF16 d a b) s = execVfmaF16 d a b s := rfl
theorem exec_vfmsF16 (d : BitVec 7) (a : BitVec 7) (b : BitVec 7) (s : State) : exec (.vfmsF16 d a b) s = execVfmsF16 d a b s := rfl
theorem exec_vfnmaF16 (d : BitVec 7) (a : BitVec 7) (b : BitVec 7) (s : State) : exec (.vfnmaF16 d a b) s = execVfnmaF16 d a b s := rfl
theorem exec_vfnmsF16 (d : BitVec 7) (a : BitVec 7) (b : BitVec 7) (s : State) : exec (.vfnmsF16 d a b) s = execVfnmsF16 d a b s := rfl
theorem exec_vabsF16 (d : BitVec 7) (a : BitVec 7) (s : State) : exec (.vabsF16 d a) s = execVabsF16 d a s := rfl
theorem exec_vnegF16 (d : BitVec 7) (a : BitVec 7) (s : State) : exec (.vnegF16 d a) s = execVnegF16 d a s := rfl
theorem exec_vcmp (ty : BitVec 3) (cc : BitVec 4) (md : BitVec 4) (a : BitVec 7) (b : BitVec 7) (s : State) : exec (.vcmp ty cc md a b) s = execVcmp ty cc md a b s := rfl
theorem exec_vsel (d : BitVec 7) (a : BitVec 7) (b : BitVec 7) (mk : BitVec 4) (s : State) : exec (.vsel d a b mk) s = execVsel d a b mk s := rfl
theorem exec_vcvt (d : BitVec 7) (a : BitVec 7) (code : BitVec 7) (s : State) : exec (.vcvt d a code) s = execVcvt d a code s := rfl
theorem exec_vqnt (d : BitVec 7) (a : BitVec 7) (b : BitVec 7) (s : State) : exec (.vqnt d a b) s = execVqnt d a b s := rfl
theorem exec_vcvtMov (d : BitVec 7) (a : BitVec 7) (s : State) : exec (.vcvtMov d a) s = execVcvtMov d a s := rfl
theorem exec_retag (d : BitVec 7) (a : BitVec 7) (tag : BitVec 4) (s : State) : exec (.retag d a tag) s = execRetag d a tag s := rfl
theorem exec_vmovs (d : BitVec 7) (a : BitVec 6) (tag : BitVec 4) (s : State) : exec (.vmovs d a tag) s = execVmovs d a tag s := rfl
theorem exec_vrcpF32 (d : BitVec 7) (a : BitVec 7) (s : State) : exec (.vrcpF32 d a) s = execVrcpF32 d a s := rfl
theorem exec_vrsqF32 (d : BitVec 7) (a : BitVec 7) (s : State) : exec (.vrsqF32 d a) s = execVrsqF32 d a s := rfl
theorem exec_vsqrtF32 (d : BitVec 7) (a : BitVec 7) (s : State) : exec (.vsqrtF32 d a) s = execVsqrtF32 d a s := rfl
theorem exec_vexp2F32 (d : BitVec 7) (a : BitVec 7) (s : State) : exec (.vexp2F32 d a) s = execVexp2F32 d a s := rfl
theorem exec_vlog2F32 (d : BitVec 7) (a : BitVec 7) (s : State) : exec (.vlog2F32 d a) s = execVlog2F32 d a s := rfl
theorem exec_vsinF32 (d : BitVec 7) (a : BitVec 7) (s : State) : exec (.vsinF32 d a) s = execVsinF32 d a s := rfl
theorem exec_vcosF32 (d : BitVec 7) (a : BitVec 7) (s : State) : exec (.vcosF32 d a) s = execVcosF32 d a s := rfl
theorem exec_vtanhF32 (d : BitVec 7) (a : BitVec 7) (s : State) : exec (.vtanhF32 d a) s = execVtanhF32 d a s := rfl
theorem exec_shflIdx (d : BitVec 7) (a : BitVec 7) (b : BitVec 7) (s : State) : exec (.shflIdx d a b) s = execShflIdx d a b s := rfl
theorem exec_shflUp (d : BitVec 7) (a : BitVec 7) (n : BitVec 6) (s : State) : exec (.shflUp d a n) s = execShflUp d a n s := rfl
theorem exec_shflDn (d : BitVec 7) (a : BitVec 7) (n : BitVec 6) (s : State) : exec (.shflDn d a n) s = execShflDn d a n s := rfl
theorem exec_shflXor (d : BitVec 7) (a : BitVec 7) (n : BitVec 6) (s : State) : exec (.shflXor d a n) s = execShflXor d a n s := rfl
theorem exec_shflBc (d : BitVec 7) (a : BitVec 7) (n : BitVec 6) (s : State) : exec (.shflBc d a n) s = execShflBc d a n s := rfl
theorem exec_voteAny (d : BitVec 6) (a : BitVec 7) (s : State) : exec (.voteAny d a) s = execVoteAny d a s := rfl
theorem exec_voteAll (d : BitVec 6) (a : BitVec 7) (s : State) : exec (.voteAll d a) s = execVoteAll d a s := rfl
theorem exec_voteBal (d : BitVec 6) (a : BitVec 7) (s : State) : exec (.voteBal d a) s = execVoteBal d a s := rfl
theorem exec_redl (d : BitVec 7) (a : BitVec 7) (code : BitVec 7) (s : State) : exec (.redl d a code) s = execRedl d a code s := rfl
theorem exec_vpop (d : BitVec 7) (ch : BitVec 7) (s : State) : exec (.vpop d ch) s = execVpop d ch s := rfl
theorem exec_vld (ty : BitVec 4) (d : BitVec 7) (a : BitVec 7) (b : BitVec 6) (x : BitVec 1) (s : State) : exec (.vld ty d a b x) s = execVld ty d a b x s := rfl
theorem exec_vst (ty : BitVec 4) (d : BitVec 7) (a : BitVec 7) (b : BitVec 6) (x : BitVec 1) (s : State) : exec (.vst ty d a b x) s = execVst ty d a b x s := rfl
theorem exec_vlds (ty : BitVec 4) (d : BitVec 7) (a : BitVec 7) (b : BitVec 6) (x : BitVec 1) (s : State) : exec (.vlds ty d a b x) s = execVlds ty d a b x s := rfl
theorem exec_vsts (ty : BitVec 4) (d : BitVec 7) (a : BitVec 7) (b : BitVec 6) (x : BitVec 1) (s : State) : exec (.vsts ty d a b x) s = execVsts ty d a b x s := rfl
theorem exec_vldpN32 (d : BitVec 7) (a : BitVec 7) (b : BitVec 7) (s : State) : exec (.vldpN32 d a b) s = execVldpN32 d a b s := rfl
theorem exec_sevict (a : BitVec 7) (s : State) : exec (.sevict a) s = execSevict a s := rfl
theorem exec_vldtB8 (d : BitVec 7) (a : BitVec 7) (s : State) : exec (.vldtB8 d a) s = execVldtB8 d a s := rfl
theorem exec_vldtB16 (d : BitVec 7) (a : BitVec 7) (s : State) : exec (.vldtB16 d a) s = execVldtB16 d a s := rfl
theorem exec_vldtB32 (d : BitVec 7) (a : BitVec 7) (s : State) : exec (.vldtB32 d a) s = execVldtB32 d a s := rfl
theorem exec_atomAdd (ty : BitVec 2) (lvl : BitVec 3) (d : BitVec 7) (a : BitVec 7) (sp : BitVec 2) (s : State) : exec (.atomAdd ty lvl d a sp) s = execAtomAdd ty lvl d a sp s := rfl
theorem exec_atomMin (ty : BitVec 2) (lvl : BitVec 3) (d : BitVec 7) (a : BitVec 7) (sp : BitVec 2) (s : State) : exec (.atomMin ty lvl d a sp) s = execAtomMin ty lvl d a sp s := rfl
theorem exec_atomMax (ty : BitVec 2) (lvl : BitVec 3) (d : BitVec 7) (a : BitVec 7) (sp : BitVec 2) (s : State) : exec (.atomMax ty lvl d a sp) s = execAtomMax ty lvl d a sp s := rfl
theorem exec_atomAnd (ty : BitVec 2) (lvl : BitVec 3) (d : BitVec 7) (a : BitVec 7) (sp : BitVec 2) (s : State) : exec (.atomAnd ty lvl d a sp) s = execAtomAnd ty lvl d a sp s := rfl
theorem exec_atomOr (ty : BitVec 2) (lvl : BitVec 3) (d : BitVec 7) (a : BitVec 7) (sp : BitVec 2) (s : State) : exec (.atomOr ty lvl d a sp) s = execAtomOr ty lvl d a sp s := rfl
theorem exec_atomXor (ty : BitVec 2) (lvl : BitVec 3) (d : BitVec 7) (a : BitVec 7) (sp : BitVec 2) (s : State) : exec (.atomXor ty lvl d a sp) s = execAtomXor ty lvl d a sp s := rfl
theorem exec_atomXchg (ty : BitVec 2) (lvl : BitVec 3) (d : BitVec 7) (a : BitVec 7) (sp : BitVec 2) (s : State) : exec (.atomXchg ty lvl d a sp) s = execAtomXchg ty lvl d a sp s := rfl
theorem exec_atomCas (ty : BitVec 2) (lvl : BitVec 3) (d : BitVec 7) (a : BitVec 7) (sp : BitVec 2) (s : State) : exec (.atomCas ty lvl d a sp) s = execAtomCas ty lvl d a sp s := rfl
theorem exec_fenceAcq (lvl : BitVec 3) (s : State) : exec (.fenceAcq lvl) s = execFenceAcq lvl s := rfl
theorem exec_fenceRel (lvl : BitVec 3) (s : State) : exec (.fenceRel lvl) s = execFenceRel lvl s := rfl
theorem exec_fenceAr (lvl : BitVec 3) (s : State) : exec (.fenceAr lvl) s = execFenceAr lvl s := rfl
theorem exec_xfence (p : BitVec 3) (q : BitVec 3) (s : State) : exec (.xfence p q) s = execXfence p q s := rfl
theorem exec_lvlq (d : BitVec 6) (lvl : BitVec 3) (f : BitVec 4) (s : State) : exec (.lvlq d lvl f) s = execLvlq d lvl f s := rfl
theorem exec_boinit (obj : BitVec 6) (v : BitVec 6) (s : State) : exec (.boinit obj v) s = execBoinit obj v s := rfl
theorem exec_boexpect (obj : BitVec 6) (v : BitVec 6) (s : State) : exec (.boexpect obj v) s = execBoexpect obj v s := rfl
theorem exec_boarrive (obj : BitVec 6) (v : BitVec 6) (s : State) : exec (.boarrive obj v) s = execBoarrive obj v s := rfl
theorem exec_bowait (obj : BitVec 6) (v : BitVec 6) (s : State) : exec (.bowait obj v) s = execBowait obj v s := rfl
theorem exec_send (a : BitVec 6) (ch : BitVec 6) (s : State) : exec (.send a ch) s = execSend a ch s := rfl
theorem exec_recv (d : BitVec 6) (ch : BitVec 6) (s : State) : exec (.recv d ch) s = execRecv d ch s := rfl
theorem exec_chwp (d : BitVec 6) (ch : BitVec 6) (s : State) : exec (.chwp d ch) s = execChwp d ch s := rfl
theorem exec_dqpush (a : BitVec 6) (s : State) : exec (.dqpush a) s = execDqpush a s := rfl
theorem exec_dqpop (d : BitVec 6) (s : State) : exec (.dqpop d) s = execDqpop d s := rfl
theorem exec_trec (a : BitVec 5) (space : BitVec 2) (slot : BitVec 3) (s : State) : exec (.trec a space slot) s = execTrec a space slot s := rfl
theorem exec_mldw (a : BitVec 5) (b : BitVec 5) (arr : BitVec 1) (slot : BitVec 3) (s : State) : exec (.mldw a b arr slot) s = execMldw a b arr slot s := rfl
theorem exec_mswap (s : State) : exec .mswap s = execMswap s := rfl
theorem exec_mma (a : BitVec 5) (b : BitVec 5) (tile : BitVec 2) (arr : BitVec 1) (slot : BitVec 3) (s : State) : exec (.mma a b tile arr slot) s = execMma a b tile arr slot s := rfl
theorem exec_mdrain (a : BitVec 5) (b : BitVec 5) (c : BitVec 5) (tile : BitVec 2) (arr : BitVec 1) (slot : BitVec 3) (s : State) : exec (.mdrain a b c tile arr slot) s = execMdrain a b c tile arr slot s := rfl
theorem exec_tcopy (a : BitVec 5) (b : BitVec 5) (c : BitVec 5) (dst : BitVec 3) (src : BitVec 3) (s : State) : exec (.tcopy a b c dst src) s = execTcopy a b c dst src s := rfl
theorem exec_strm (a : BitVec 5) (b : BitVec 5) (c : BitVec 5) (slot : BitVec 3) (s : State) : exec (.strm a b c slot) s = execStrm a b c slot s := rfl
theorem exec_nmc (a : BitVec 5) (b : BitVec 5) (c : BitVec 5) (s : State) : exec (.nmc a b c) s = execNmc a b c s := rfl
theorem exec_dread (a : BitVec 5) (b : BitVec 5) (c : BitVec 5) (s : State) : exec (.dread a b c) s = execDread a b c s := rfl
theorem exec_dappend (a : BitVec 5) (b : BitVec 5) (c : BitVec 5) (s : State) : exec (.dappend a b c) s = execDappend a b c s := rfl
theorem exec_splitRaise (u g e : Nat) (s : State) : exec (.splitRaise u g e) s = execSplitRaise u g e s := rfl
theorem exec_gangContextFree (u g : Nat) (s : State) : exec (.gangContextFree u g) s = execGangContextFree u g s := rfl
theorem exec_gangBarrierComplete (u g : Nat) (s : State) : exec (.gangBarrierComplete u g) s = execGangBarrierComplete u g s := rfl
theorem exec_unitBarrierComplete (u : Nat) (s : State) : exec (.unitBarrierComplete u) s = execUnitBarrierComplete u s := rfl
theorem exec_unitEnd (u : Nat) (s : State) : exec (.unitEnd u) s = execUnitEnd u s := rfl
theorem exec_loadReturn (u g op l : Nat) (hit : Bool) (s : State) : exec (.loadReturn u g op l hit) s = execLoadReturn u g op l hit s := rfl
theorem exec_permuteComplete (u g op : Nat) (s : State) : exec (.permuteComplete u g op) s = execPermuteComplete u g op s := rfl
theorem exec_writeAtHome (y k : Nat) (s : State) : exec (.writeAtHome y k) s = execWriteAtHome y k s := rfl
theorem exec_forwardedWriteApply (y k : Nat) (s : State) : exec (.forwardedWriteApply y k) s = execForwardedWriteApply y k s := rfl
theorem exec_remoteWrite (pa : Nat) (bytes : List (BitVec 8)) (s : State) : exec (.remoteWrite pa bytes) s = execRemoteWrite pa bytes s := rfl
theorem exec_atomicAtSite (u g op l : Nat) (s : State) : exec (.atomicAtSite u g op l) s = execAtomicAtSite u g op l s := rfl
theorem exec_atomicopCompletion (u g op l : Nat) (ok : Bool) (s : State) : exec (.atomicopCompletion u g op l ok) s = execAtomicopCompletion u g op l ok s := rfl
theorem exec_seamClaimRequest (c sidx blk : Nat) (s : State) : exec (.seamClaimRequest c sidx blk) s = execSeamClaimRequest c sidx blk s := rfl
theorem exec_seamRecall (c saddr : Nat) (s : State) : exec (.seamRecall c saddr) s = execSeamRecall c saddr s := rfl
theorem exec_recallComplete (saddr : Nat) (s : State) : exec (.recallComplete saddr) s = execRecallComplete saddr s := rfl
theorem exec_claimRelease (c saddr : Nat) (s : State) : exec (.claimRelease c saddr) s = execClaimRelease c saddr s := rfl
theorem exec_seamBlockFill (c sidx blk : Nat) (s : State) : exec (.seamBlockFill c sidx blk) s = execSeamBlockFill c sidx blk s := rfl
theorem exec_dressingCacheEviction (c sidx blk : Nat) (s : State) : exec (.dressingCacheEviction c sidx blk) s = execDressingCacheEviction c sidx blk s := rfl
theorem exec_seamWritebackAck (c saddr : Nat) (s : State) : exec (.seamWritebackAck c saddr) s = execSeamWritebackAck c saddr s := rfl
theorem exec_firstTouchService (u : Nat) (va : BitVec 64) (s : State) : exec (.firstTouchService u va) s = execFirstTouchService u va s := rfl
theorem exec_tileCommandStart (u k : Nat) (s : State) : exec (.tileCommandStart u k) s = execTileCommandStart u k s := rfl
theorem exec_tileCommandComplete (u k : Nat) (s : State) : exec (.tileCommandComplete u k) s = execTileCommandComplete u k s := rfl
theorem exec_engineFault (u k : Nat) (s : State) : exec (.engineFault u k) s = execEngineFault u k s := rfl
theorem exec_tcopyElementWrite (u k e : Nat) (s : State) : exec (.tcopyElementWrite u k e) s = execTcopyElementWrite u k e s := rfl
theorem exec_streamSectorFetch (u k : Nat) (s : State) : exec (.streamSectorFetch u k) s = execStreamSectorFetch u k s := rfl
theorem exec_nmcStart (k : Nat) (s : State) : exec (.nmcStart k) s = execNmcStart k s := rfl
theorem exec_nmcSubcommandComplete (k sub : Nat) (badY badX : List Nat) (s : State) : exec (.nmcSubcommandComplete k sub badY badX) s = execNmcSubcommandComplete k sub badY badX s := rfl
theorem exec_deepPageFetchComplete (k page : Nat) (ok : Bool) (s : State) : exec (.deepPageFetchComplete k page ok) s = execDeepPageFetchComplete k page ok s := rfl
theorem exec_dappendExecute (k : Nat) (s : State) : exec (.dappendExecute k) s = execDappendExecute k s := rfl
theorem exec_dappendDurable (k : Nat) (s : State) : exec (.dappendDurable k) s = execDappendDurable k s := rfl
theorem exec_preemption (u : Nat) (area : BitVec 64) (s : State) : exec (.preemption u area) s = execPreemption u area s := rfl
theorem exec_sqTail (door : Nat × Nat) (v : BitVec 64) (s : State) : exec (.sqTail door v) s = execSqTail door v s := rfl
theorem exec_sqBase (q : Nat) (v : BitVec 64) (s : State) : exec (.sqBase q v) s = execSqBase q v s := rfl
theorem exec_sqSize (q : Nat) (v : BitVec 64) (s : State) : exec (.sqSize q v) s = execSqSize q v s := rfl
theorem exec_sqEnable (q : Nat) (v : BitVec 64) (s : State) : exec (.sqEnable q v) s = execSqEnable q v s := rfl
theorem exec_sqDisable (q : Nat) (v : BitVec 64) (s : State) : exec (.sqDisable q v) s = execSqDisable q v s := rfl
theorem exec_ctxDesc (v : BitVec 64) (s : State) : exec (.ctxDesc v) s = execCtxDesc v s := rfl
theorem exec_xltInvPage (v : BitVec 64) (s : State) : exec (.xltInvPage v) s = execXltInvPage v s := rfl
theorem exec_xltInvAll (v : BitVec 64) (s : State) : exec (.xltInvAll v) s = execXltInvAll v s := rfl
theorem exec_xltInvComplete (s : State) : exec .xltInvComplete s = execXltInvComplete s := rfl
theorem exec_migReqHbm (v : BitVec 64) (s : State) : exec (.migReqHbm v) s = execMigReqHbm v s := rfl
theorem exec_migReqLpddr (v : BitVec 64) (s : State) : exec (.migReqLpddr v) s = execMigReqLpddr v s := rfl
theorem exec_migrationLineMove (line : Nat) (s : State) : exec (.migrationLineMove line) s = execMigrationLineMove line s := rfl
theorem exec_sltBindDispatch (slot : Nat) (v : BitVec 64) (pend : Option Nat) (spbase tlbbase tlbsets : Nat) (s : State) : exec (.sltBindDispatch slot v pend spbase tlbbase tlbsets) s = execSltBindDispatch slot v pend spbase tlbbase tlbsets s := rfl
theorem exec_sltBindRestore (slot : Nat) (v : BitVec 64) (s : State) : exec (.sltBindRestore slot v) s = execSltBindRestore slot v s := rfl
theorem exec_qpoolLim (slot cls : Nat) (v : BitVec 64) (s : State) : exec (.qpoolLim slot cls v) s = execQpoolLim slot cls v s := rfl
theorem exec_fsplit (v : BitVec 64) (s : State) : exec (.fsplit v) s = execFsplit v s := rfl
theorem exec_frBase (v : BitVec 64) (s : State) : exec (.frBase v) s = execFrBase v s := rfl
theorem exec_frSize (v : BitVec 64) (s : State) : exec (.frSize v) s = execFrSize v s := rfl
theorem exec_frAckVerdict0 (seq : BitVec 32) (s : State) : exec (.frAckVerdict0 seq) s = execFrAckVerdict0 seq s := rfl
theorem exec_frAckVerdict1 (seq : BitVec 32) (s : State) : exec (.frAckVerdict1 seq) s = execFrAckVerdict1 seq s := rfl
theorem exec_dlogTrim (v : BitVec 64) (s : State) : exec (.dlogTrim v) s = execDlogTrim v s := rfl
theorem exec_dlogCtl (v : BitVec 64) (s : State) : exec (.dlogCtl v) s = execDlogCtl v s := rfl
theorem exec_compactionComplete (phys : Nat) (s : State) : exec (.compactionComplete phys) s = execCompactionComplete phys s := rfl
theorem exec_hbmPwrcfg (v : BitVec 64) (s : State) : exec (.hbmPwrcfg v) s = execHbmPwrcfg v s := rfl
theorem exec_pwrCtl (v : BitVec 64) (s : State) : exec (.pwrCtl v) s = execPwrCtl v s := rfl
theorem exec_registerWrite (at_ : Nat × BitVec 64) (v : BitVec 64) (s : State) : exec (.registerWrite at_ v) s = execRegisterWrite at_ v s := rfl
theorem exec_powerMeasurement (watts : BitVec 12) (near5 near10 : Bool) (s : State) : exec (.powerMeasurement watts near5 near10) s = execPowerMeasurement watts near5 near10 s := rfl
theorem exec_powerDownEntry (p : Nat) (s : State) : exec (.powerDownEntry p) s = execPowerDownEntry p s := rfl
theorem exec_selfRefreshEntry (p : Nat) (s : State) : exec (.selfRefreshEntry p) s = execSelfRefreshEntry p s := rfl
theorem exec_pseudoChannelWake (p : Nat) (s : State) : exec (.pseudoChannelWake p) s = execPseudoChannelWake p s := rfl
theorem exec_pseudoChannelExitComplete (p : Nat) (s : State) : exec (.pseudoChannelExitComplete p) s = execPseudoChannelExitComplete p s := rfl
theorem exec_jobAccept (q : Nat) (s : State) : exec (.jobAccept q) s = execJobAccept q s := rfl
theorem exec_nodeStart (j k : Nat) (s : State) : exec (.nodeStart j k) s = execNodeStart j k s := rfl
theorem exec_waitNodePoll (j k : Nat) (s : State) : exec (.waitNodePoll j k) s = execWaitNodePoll j k s := rfl
theorem exec_nodeFinish (j k : Nat) (s : State) : exec (.nodeFinish j k) s = execNodeFinish j k s := rfl
theorem exec_packageReset (s : State) : exec .packageReset s = execPackageReset s := rfl
theorem exec_linkTrainingTimeout (link : Nat) (s : State) : exec (.linkTrainingTimeout link) s = execLinkTrainingTimeout link s := rfl
theorem exec_linkAuthentication (link whyA whyB : Nat) (s : State) : exec (.linkAuthentication link whyA whyB) s = execLinkAuthentication link whyA whyB s := rfl
theorem exec_surveyMessage (die origin : Nat) (s : State) : exec (.surveyMessage die origin) s = execSurveyMessage die origin s := rfl
theorem exec_surveyCollect (s : State) : exec .surveyCollect s = execSurveyCollect s := rfl
theorem exec_podSurvey (n : Nat) (peers : List (Nat × Nat)) (s : State) : exec (.podSurvey n peers) s = execPodSurvey n peers s := rfl
theorem exec_linkLoss (link : Nat) (s : State) : exec (.linkLoss link) s = execLinkLoss link s := rfl
theorem exec_vexlisDataFlit (p : Nat) (seq ack : BitVec 12) (ph intact : Bool) (s : State) : exec (.vexlisDataFlit p seq ack ph intact) s = execVexlisDataFlit p seq ack ph intact s := rfl
theorem exec_vexlisAckFlit (p : Nat) (ack : BitVec 12) (s : State) : exec (.vexlisAckFlit p ack) s = execVexlisAckFlit p ack s := rfl
theorem exec_vexlisReplayRequest (p : Nat) (seq : BitVec 12) (s : State) : exec (.vexlisReplayRequest p seq) s = execVexlisReplayRequest p seq s := rfl
theorem exec_vexlisKeyRetire (p : Nat) (seq : BitVec 12) (ph : Bool) (s : State) : exec (.vexlisKeyRetire p seq ph) s = execVexlisKeyRetire p seq ph s := rfl
theorem exec_vexlisIdleFlit (p : Nat) (ack : BitVec 12) (s : State) : exec (.vexlisIdleFlit p ack) s = execVexlisIdleFlit p ack s := rfl
theorem exec_keyRollover (p : Nat) (s : State) : exec (.keyRollover p) s = execKeyRollover p s := rfl
theorem exec_wavelengthLockLoss (p w : Nat) (s : State) : exec (.wavelengthLockLoss p w) s = execWavelengthLockLoss p w s := rfl
theorem exec_wavelengthRetry (p w : Nat) (locked : Bool) (s : State) : exec (.wavelengthRetry p w locked) s = execWavelengthRetry p w locked s := rfl
theorem exec_hostAtomicop (kind pa bytes : Nat) (x y : BitVec 64) (s : State) : exec (.hostAtomicop kind pa bytes x y) s = execHostAtomicop kind pa bytes x y s := rfl
theorem exec_hostBar2Write (pa : Nat) (bytes : List (BitVec 8)) (s : State) : exec (.hostBar2Write pa bytes) s = execHostBar2Write pa bytes s := rfl
theorem exec_singleBitError (cls die : BitVec 8) (detail : BitVec 32) (s : State) : exec (.singleBitError cls die detail) s = execSingleBitError cls die detail s := rfl
theorem exec_doubleBitError (kind loc off : Nat) (detail : BitVec 32) (s : State) : exec (.doubleBitError kind loc off detail) s = execDoubleBitError kind loc off detail s := rfl
theorem exec_hbmRowSparing (what : Nat × BitVec 32) (spare : Bool) (s : State) :
    exec (.hbmRowSparing what spare) s = execHbmRowSparing what spare s := rfl
theorem exec_carrierPowerLoss (s : State) : exec .carrierPowerLoss s = execCarrierPowerLoss s := rfl
theorem exec_packageRemoval (pkg : Nat) (s : State) : exec (.packageRemoval pkg) s = execPackageRemoval pkg s := rfl
theorem exec_storeAcknowledged (c k : Nat) (s : State) : exec (.storeAcknowledged c k) s = execStoreAcknowledged c k s := rfl
theorem exec_dreadStart (k : Nat) (s : State) : exec (.dreadStart k) s = execDreadStart k s := rfl
theorem exec_frHead (v : BitVec 64) (s : State) : exec (.frHead v) s = execFrHead v s := rfl
theorem exec_recoveryImageLoad (ok : Bool) (s : State) : exec (.recoveryImageLoad ok) s = execRecoveryImageLoad ok s := rfl

end Sys2Proof.Machine
end

