-- ==== Sys2Proof/Laws/Hub.lean ====
section
/-! SUPPORT. Reads at the hub, byte by byte. -/

namespace Sys2Proof.Machine

/-- Two runs of bytes that can be read can be read as one. -/
theorem engJoin_val {xs ys : List EngRead} {a b : Nat} (hx : engJoin xs = .val a) (hy : engJoin ys = .val b) : ∃ c, engJoin (xs ++ ys) = .val c := by
  induction xs generalizing a with
  | nil => exact ⟨b, hy⟩
  | cons x t ih => cases x with
    | val v =>
      simp only [engJoin] at hx
      split at hx
      · obtain ⟨c, h⟩ := ih ‹_›
        exact ⟨v + 256 * c, by simp only [List.cons_append, engJoin, h]⟩
      · next h => exact absurd hx (h a)
    | later => simp [engJoin] at hx
    | fault => simp [engJoin] at hx
/-- A read at the hub of two ranges that follow each other. -/
theorem State.hubRead_val {s : State} {va : DWord} {n m a b : Nat} (ha : s.hubRead va n = .val a) (hb : s.hubRead (va + BitVec.ofNat 64 n) m = .val b) : ∃ c, s.hubRead va (n + m) = .val c := by
  have : List.range (n + m) = List.range n ++ (List.range m).map (n + ·) := List.range_add
  unfold State.hubRead at *
  rw [this, List.map_append, List.map_map]
  refine engJoin_val ha (ys := _) (b := b) ?_
  rw [← hb]
  congr 1
  apply List.map_congr_left
  intro k _
  simp [BitVec.add_assoc, BitVec.ofNat_add]

end Sys2Proof.Machine
end

