-- ==== Sys2Proof/Laws/Sparse.lean ====
section
/-! SUPPORT. Laws of sparse data: reads after writes, and the canonical form is kept; the same of memory. -/

namespace Sys2Proof.Machine

variable {α : Type}

theorem mfind_minsert_self (m : SMap α) (k : Nat) (v : α) (h : mfind m k = none) : mfind (minsert m k v) k = some v := by
  induction m with
  | nil => simp [minsert, mfind]
  | cons p t ih =>
    obtain ⟨j, w⟩ := p
    by_cases hj : j = k
    · simp [mfind, hj] at h
    · simp only [mfind, hj, if_false] at h
      by_cases hk : k < j
      · simp [minsert, hk, mfind]
      · simp [minsert, hk, mfind, hj, ih h]

theorem mfind_minsert_other (m : SMap α) {j k : Nat} (v : α) (h : j ≠ k) : mfind (minsert m k v) j = mfind m j := by
  induction m with
  | nil => simp [minsert, mfind, Ne.symm h]
  | cons p t ih =>
    obtain ⟨i, w⟩ := p
    by_cases hk : k < i
    · simp [minsert, hk, mfind, Ne.symm h]
    · simp [minsert, hk, mfind, ih]

@[simp] theorem mfind_merase_self (m : SMap α) (k : Nat) : mfind (merase m k) k = none := by
  induction m with
  | nil => rfl
  | cons p t ih =>
    obtain ⟨j, w⟩ := p
    by_cases h : j = k <;> simp [merase, mfind, h, ih]

theorem mfind_merase_other (m : SMap α) {j k : Nat} (h : j ≠ k) : mfind (merase m k) j = mfind m j := by
  induction m with
  | nil => rfl
  | cons p t ih =>
    obtain ⟨i, w⟩ := p
    by_cases hi : i = k
    · subst hi; simp [merase, mfind, ih, Ne.symm h]
    · simp [merase, mfind, hi, ih]

@[simp] theorem mfind_mput_self (m : SMap α) (k : Nat) (v : α) : mfind (mput m k v) k = some v :=
  mfind_minsert_self _ _ _ (mfind_merase_self m k)

theorem mfind_mput_other (m : SMap α) {j k : Nat} (v : α) (h : j ≠ k) : mfind (mput m k v) j = mfind m j := by
  rw [mput, mfind_minsert_other _ _ h, mfind_merase_other _ h]

theorem merase_of_none (m : SMap α) (k : Nat) (h : mfind m k = none) : merase m k = m := by
  induction m with
  | nil => rfl
  | cons p t ih =>
    obtain ⟨j, w⟩ := p
    by_cases hj : j = k
    · simp [mfind, hj] at h
    · simp only [mfind, hj, if_false] at h
      simp [merase, hj, ih h]

theorem merase_minsert_self (m : SMap α) (k : Nat) (v : α) : merase (minsert m k v) k = merase m k := by
  induction m with
  | nil => simp [minsert, merase]
  | cons p t ih =>
    obtain ⟨j, w⟩ := p
    by_cases hk : k < j
    · simp [minsert, hk, merase]
    · by_cases hj : j = k <;> simp [minsert, hk, merase, hj, ih]

@[simp] theorem merase_merase (m : SMap α) (k : Nat) : merase (merase m k) k = merase m k :=
  merase_of_none _ _ (mfind_merase_self m k)

/-- The later of two writes at one key stays. -/
@[simp] theorem mput_mput (m : SMap α) (k : Nat) (v w : α) : mput (mput m k v) k w = mput m k w := by
  simp [mput, merase_minsert_self]

theorem mmodify_of_some (m : SMap α) {k : Nat} {v : α} (f : α → α) (h : mfind m k = some v) : mmodify m k f = mput m k (f v) := by
  simp [mmodify, h]

theorem mmodify_of_none (m : SMap α) {k : Nat} (f : α → α) (h : mfind m k = none) : mmodify m k f = m := by
  simp [mmodify, h]

theorem mmodify_mput (m : SMap α) (k : Nat) (v : α) (f : α → α) : mmodify (mput m k v) k f = mput m k (f v) := by
  simp [mmodify]

theorem mfind_mmodify_other (m : SMap α) {j k : Nat} (f : α → α) (h : j ≠ k) : mfind (mmodify m k f) j = mfind m j := by
  unfold mmodify
  split
  · exact mfind_mput_other _ _ h
  · rfl

variable [DecidableEq α]

/-- A read after a write at the same key. -/
@[simp] theorem mget_mset_self (d : α) (m : SMap α) (k : Nat) (v : α) : mget d (mset d m k v) k = v := by
  by_cases h : v = d
  · simp [mset, h, mget]
  · simp [mset, h, mget]

/-- A write leaves every other key alone. -/
theorem mget_mset_other (d : α) (m : SMap α) {j k : Nat} (v : α) (h : j ≠ k) : mget d (mset d m k v) j = mget d m j := by
  by_cases hv : v = d
  · simp [mset, hv, mget, mfind_merase_other _ h]
  · simp [mset, hv, mget, mfind_mput_other _ _ h]

theorem mget_mset (d : α) (m : SMap α) (j k : Nat) (v : α) : mget d (mset d m k v) j = if j = k then v else mget d m j := by
  by_cases h : j = k
  · subst h; simp
  · simp [h, mget_mset_other d m v h]

theorem mset_mset (d : α) (m : SMap α) (k : Nat) (v w : α) : mset d (mset d m k v) k w = mset d m k w := by
  have e : merase (mset d m k v) k = merase m k := by
    by_cases h : v = d <;> simp [mset, h, mput, merase_minsert_self]
  by_cases h : w = d <;> simp [mset, h, mput] <;> (simp [mset, mput] at e; simp [e])

omit [DecidableEq α] in
theorem mget_of_some (d : α) {m : SMap α} {k : Nat} {v : α} (h : mfind m k = some v) : mget d m k = v := by simp [mget, h]

/-! ### Rising keys -/

omit [DecidableEq α] in
/-- The keys are rising and all above `b`. -/
def risingFrom : Nat → SMap α → Prop
  | _, [] => True
  | b, (j, _) :: t => b ≤ j ∧ risingFrom (j + 1) t

omit [DecidableEq α] in
theorem risingFrom_le {m : SMap α} {a b : Nat} (h : risingFrom b m) (hab : a ≤ b) : risingFrom a m := by
  cases m with
  | nil => trivial
  | cons p t => exact ⟨Nat.le_trans hab h.1, h.2⟩

omit [DecidableEq α] in
theorem rising_cons_iff (j : Nat) (w : α) (t : SMap α) : rising ((j, w) :: t) = true ↔ risingFrom (j + 1) t := by
  induction t generalizing j w with
  | nil => simp [rising, risingFrom]
  | cons p t ih =>
    obtain ⟨i, x⟩ := p
    simp only [rising, Bool.and_eq_true, decide_eq_true_eq, risingFrom, ih]
    exact Iff.rfl

omit [DecidableEq α] in
theorem rising_iff (m : SMap α) : rising m = true ↔ risingFrom 0 m := by
  cases m with
  | nil => simp [rising, risingFrom]
  | cons p t =>
    obtain ⟨j, w⟩ := p
    simp [rising_cons_iff, risingFrom]

omit [DecidableEq α] in
theorem risingFrom_merase {m : SMap α} {b : Nat} (k : Nat) (h : risingFrom b m) : risingFrom b (merase m k) := by
  induction m generalizing b with
  | nil => trivial
  | cons p t ih =>
    obtain ⟨j, w⟩ := p
    by_cases hj : j = k
    · simp only [merase, hj, if_true]
      exact risingFrom_le (ih h.2) (by have := h.1; omega)
    · simp only [merase, hj, if_false]
      exact ⟨h.1, ih h.2⟩

omit [DecidableEq α] in
theorem risingFrom_minsert {m : SMap α} {b k : Nat} (v : α) (hb : b ≤ k) (hn : mfind m k = none) (h : risingFrom b m) :
    risingFrom b (minsert m k v) := by
  induction m generalizing b with
  | nil => exact ⟨hb, trivial⟩
  | cons p t ih =>
    obtain ⟨j, w⟩ := p
    by_cases hj : j = k
    · simp [mfind, hj] at hn
    · simp only [mfind, hj, if_false] at hn
      by_cases hk : k < j
      · simp only [minsert, hk, if_true]
        exact ⟨hb, risingFrom_le ⟨Nat.le_refl j, h.2⟩ hk⟩
      · simp only [minsert, hk, if_false]
        exact ⟨h.1, ih (by omega) hn h.2⟩

omit [DecidableEq α] in
theorem all_merase {m : SMap α} {p : Nat × α → Bool} (k : Nat) (h : m.all p = true) : (merase m k).all p = true := by
  induction m with
  | nil => rfl
  | cons q t ih =>
    obtain ⟨j, w⟩ := q
    simp only [List.all_cons, Bool.and_eq_true] at h
    by_cases hj : j = k <;> simp [merase, hj, ih h.2, h.1]

omit [DecidableEq α] in
theorem all_minsert {m : SMap α} {p : Nat × α → Bool} (k : Nat) (v : α) (hv : p (k, v) = true) (h : m.all p = true) :
    (minsert m k v).all p = true := by
  induction m with
  | nil => simp [minsert, hv]
  | cons q t ih =>
    obtain ⟨j, w⟩ := q
    simp only [List.all_cons, Bool.and_eq_true] at h
    by_cases hk : k < j <;> simp [minsert, hk, hv, h.1, ih h.2] <;> simpa using h.2

/-- A write keeps the canonical form. -/
theorem canonical_mset (d : α) {m : SMap α} (k : Nat) (v : α) (h : canonical d m = true) : canonical d (mset d m k v) = true := by
  simp only [canonical, Bool.and_eq_true] at h ⊢
  have hr := (rising_iff m).1 h.1
  by_cases hv : v = d
  · simp only [mset, hv, if_true]
    exact ⟨(rising_iff _).2 (risingFrom_merase k hr), all_merase k h.2⟩
  · simp only [mset, hv, if_false]
    exact ⟨(rising_iff _).2 (risingFrom_minsert v (Nat.zero_le k) (mfind_merase_self m k) (risingFrom_merase k hr)),
      all_minsert k v (by simp [hv]) (all_merase k h.2)⟩

omit [DecidableEq α] in
theorem risingFrom_filter {m : SMap α} {b : Nat} (q : Nat × α → Bool) (h : risingFrom b m) : risingFrom b (m.filter q) := by
  induction m generalizing b with
  | nil => trivial
  | cons p t ih =>
    obtain ⟨j, w⟩ := p
    by_cases hq : q (j, w) = true
    · simp only [List.filter_cons, hq, if_true]
      exact ⟨h.1, ih h.2⟩
    · simp only [List.filter_cons, hq]
      exact risingFrom_le (ih h.2) (by have := h.1; omega)

/-- Dropping entries keeps the canonical form. -/
theorem canonical_filter (d : α) {m : SMap α} (q : Nat × α → Bool) (h : canonical d m = true) : canonical d (m.filter q) = true := by
  simp only [canonical, Bool.and_eq_true] at h ⊢
  refine ⟨(rising_iff _).2 (risingFrom_filter q ((rising_iff m).1 h.1)), ?_⟩
  rw [List.all_eq_true] at h ⊢
  intro x hx
  exact h.2 x (List.mem_filter.1 hx).1

/-! ### Memory -/

/-- A read after a write to the same address gives the value written. -/
@[simp] theorem Memory.read_write_self (m : Memory) (a : Nat) (b : Byte) : (m.write a b).read a = b := mget_mset_self _ _ _ _

/-- A write leaves every other address alone. -/
theorem Memory.read_write_other (m : Memory) {a c : Nat} (b : Byte) (h : c ≠ a) : (m.write a b).read c = m.read c :=
  mget_mset_other _ _ _ h

/-- A write keeps the canonical form. -/
theorem Memory.wf_write {m : Memory} (a : Nat) (b : Byte) (h : m.wf = true) : (m.write a b).wf = true := canonical_mset _ a b h

/-- Writing bytes one after another keeps the canonical form. -/
theorem Memory.wf_writeAll {m : Memory} (bs : SMap Byte) (h : m.wf = true) : (m.writeAll bs).wf = true := by
  unfold Memory.writeAll
  induction bs generalizing m with
  | nil => exact h
  | cons p t ih => exact ih (Memory.wf_write p.1 p.2 h)

/-- Dropping bytes keeps the canonical form. -/
theorem Memory.wf_filter {m : Memory} (q : Host.Cell → Bool) (h : m.wf = true) : Memory.wf (m.filter q) = true := canonical_filter _ q h

/-- Bytes written elsewhere leave an address alone. -/
theorem Memory.read_writeAll_other {m : Memory} {a : Nat} (bs : SMap Byte) (h : ∀ p ∈ bs, p.1 ≠ a) : (m.writeAll bs).read a = m.read a := by
  unfold Memory.writeAll
  induction bs generalizing m with
  | nil => rfl
  | cons p t ih =>
    rw [List.foldl_cons, ih fun q hq => h q (List.mem_cons_of_mem _ hq)]
    exact Memory.read_write_other m p.2 (Ne.symm (h p (List.mem_cons_self ..)))

theorem Memory.wf_nil : Memory.wf [] = true := rfl

end Sys2Proof.Machine
end

