-- ==== Sys2Proof/Laws/State.lean ====
section
/-! SUPPORT. One lemma for each field of the state under each plain update, and the updates of a unit and of a gang that are there. -/

namespace Sys2Proof.Machine

@[simp] theorem State.modUnit_gone (s : State) (u : Nat) (f : Unit → Unit) : (s.modUnit u f).gone = s.gone := rfl
@[simp] theorem State.modUnit_cores (s : State) (u : Nat) (f : Unit → Unit) : (s.modUnit u f).cores = s.cores := rfl
@[simp] theorem State.modUnit_layers (s : State) (u : Nat) (f : Unit → Unit) : (s.modUnit u f).layers = s.layers := rfl
@[simp] theorem State.modUnit_mem (s : State) (u : Nat) (f : Unit → Unit) : (s.modUnit u f).mem = s.mem := rfl
@[simp] theorem State.modUnit_hostMem (s : State) (u : Nat) (f : Unit → Unit) : (s.modUnit u f).hostMem = s.hostMem := rfl
@[simp] theorem State.modUnit_firm (s : State) (u : Nat) (f : Unit → Unit) : (s.modUnit u f).firm = s.firm := rfl
@[simp] theorem State.modUnit_poison (s : State) (u : Nat) (f : Unit → Unit) : (s.modUnit u f).poison = s.poison := rfl
@[simp] theorem State.modUnit_homeSeq (s : State) (u : Nat) (f : Unit → Unit) : (s.modUnit u f).homeSeq = s.homeSeq := rfl
@[simp] theorem State.modUnit_stamps (s : State) (u : Nat) (f : Unit → Unit) : (s.modUnit u f).stamps = s.stamps := rfl
@[simp] theorem State.modUnit_hostStamps (s : State) (u : Nat) (f : Unit → Unit) : (s.modUnit u f).hostStamps = s.hostStamps := rfl
@[simp] theorem State.modUnit_claims (s : State) (u : Nat) (f : Unit → Unit) : (s.modUnit u f).claims = s.claims := rfl
@[simp] theorem State.modUnit_pkgs (s : State) (u : Nat) (f : Unit → Unit) : (s.modUnit u f).pkgs = s.pkgs := rfl
@[simp] theorem State.modUnit_left (s : State) (u : Nat) (f : Unit → Unit) : (s.modUnit u f).left = s.left := rfl
@[simp] theorem State.modUnit_ctx (s : State) (u : Nat) (f : Unit → Unit) : (s.modUnit u f).ctx = s.ctx := rfl
@[simp] theorem State.modUnit_ctxReg (s : State) (u : Nat) (f : Unit → Unit) : (s.modUnit u f).ctxReg = s.ctxReg := rfl
@[simp] theorem State.modUnit_ctxNew (s : State) (u : Nat) (f : Unit → Unit) : (s.modUnit u f).ctxNew = s.ctxNew := rfl
@[simp] theorem State.modUnit_ctxBad (s : State) (u : Nat) (f : Unit → Unit) : (s.modUnit u f).ctxBad = s.ctxBad := rfl
@[simp] theorem State.modUnit_queues (s : State) (u : Nat) (f : Unit → Unit) : (s.modUnit u f).queues = s.queues := rfl
@[simp] theorem State.modUnit_jobs (s : State) (u : Nat) (f : Unit → Unit) : (s.modUnit u f).jobs = s.jobs := rfl
@[simp] theorem State.modUnit_pend (s : State) (u : Nat) (f : Unit → Unit) : (s.modUnit u f).pend = s.pend := rfl
@[simp] theorem State.modUnit_served (s : State) (u : Nat) (f : Unit → Unit) : (s.modUnit u f).served = s.served := rfl
@[simp] theorem State.modUnit_saved (s : State) (u : Nat) (f : Unit → Unit) : (s.modUnit u f).saved = s.saved := rfl
@[simp] theorem State.modUnit_restored (s : State) (u : Nat) (f : Unit → Unit) : (s.modUnit u f).restored = s.restored := rfl
@[simp] theorem State.modUnit_binding (s : State) (u : Nat) (f : Unit → Unit) : (s.modUnit u f).binding = s.binding := rfl
@[simp] theorem State.modUnit_slotErr (s : State) (u : Nat) (f : Unit → Unit) : (s.modUnit u f).slotErr = s.slotErr := rfl
@[simp] theorem State.modUnit_xlt (s : State) (u : Nat) (f : Unit → Unit) : (s.modUnit u f).xlt = s.xlt := rfl
@[simp] theorem State.modUnit_hubTlb (s : State) (u : Nat) (f : Unit → Unit) : (s.modUnit u f).hubTlb = s.hubTlb := rfl
@[simp] theorem State.modUnit_mig (s : State) (u : Nat) (f : Unit → Unit) : (s.modUnit u f).mig = s.mig := rfl
@[simp] theorem State.modUnit_refused (s : State) (u : Nat) (f : Unit → Unit) : (s.modUnit u f).refused = s.refused := rfl
@[simp] theorem State.modUnit_fsplit (s : State) (u : Nat) (f : Unit → Unit) : (s.modUnit u f).fsplit = s.fsplit := rfl
@[simp] theorem State.modUnit_fr (s : State) (u : Nat) (f : Unit → Unit) : (s.modUnit u f).fr = s.fr := rfl
@[simp] theorem State.modUnit_flash (s : State) (u : Nat) (f : Unit → Unit) : (s.modUnit u f).flash = s.flash := rfl
@[simp] theorem State.modUnit_dlog (s : State) (u : Nat) (f : Unit → Unit) : (s.modUnit u f).dlog = s.dlog := rfl
@[simp] theorem State.modUnit_hub (s : State) (u : Nat) (f : Unit → Unit) : (s.modUnit u f).hub = s.hub := rfl
@[simp] theorem State.modUnit_pwrcfg (s : State) (u : Nat) (f : Unit → Unit) : (s.modUnit u f).pwrcfg = s.pwrcfg := rfl
@[simp] theorem State.modUnit_pch (s : State) (u : Nat) (f : Unit → Unit) : (s.modUnit u f).pch = s.pch := rfl
@[simp] theorem State.modUnit_pwr (s : State) (u : Nat) (f : Unit → Unit) : (s.modUnit u f).pwr = s.pwr := rfl
@[simp] theorem State.modUnit_svy (s : State) (u : Nat) (f : Unit → Unit) : (s.modUnit u f).svy = s.svy := rfl
@[simp] theorem State.modUnit_vxl (s : State) (u : Nat) (f : Unit → Unit) : (s.modUnit u f).vxl = s.vxl := rfl
@[simp] theorem State.modUnit_drift (s : State) (u : Nat) (f : Unit → Unit) : (s.modUnit u f).drift = s.drift := rfl
@[simp] theorem State.modUnit_errs (s : State) (u : Nat) (f : Unit → Unit) : (s.modUnit u f).errs = s.errs := rfl
@[simp] theorem State.modUnit_errNext (s : State) (u : Nat) (f : Unit → Unit) : (s.modUnit u f).errNext = s.errNext := rfl
@[simp] theorem State.modUnit_fatal (s : State) (u : Nat) (f : Unit → Unit) : (s.modUnit u f).fatal = s.fatal := rfl
@[simp] theorem State.modUnit_atomicOps (s : State) (u : Nat) (f : Unit → Unit) : (s.modUnit u f).atomicOps = s.atomicOps := rfl
@[simp] theorem State.modUnit_linkBad (s : State) (u : Nat) (f : Unit → Unit) : (s.modUnit u f).linkBad = s.linkBad := rfl
@[simp] theorem State.modUnit_past (s : State) (u : Nat) (f : Unit → Unit) : (s.modUnit u f).past = s.past := rfl
@[simp] theorem State.modUnit_cur (s : State) (u : Nat) (f : Unit → Unit) : (s.modUnit u f).cur = s.cur := rfl
@[simp] theorem State.modUnit_agenda (s : State) (u : Nat) (f : Unit → Unit) : (s.modUnit u f).agenda = s.agenda := rfl
@[simp] theorem State.modUnit_sched (s : State) (u : Nat) (f : Unit → Unit) : (s.modUnit u f).sched = s.sched := rfl
@[simp] theorem State.modUnit_tick (s : State) (u : Nat) (f : Unit → Unit) : (s.modUnit u f).tick = s.tick := rfl
@[simp] theorem State.modUnit_nextId (s : State) (u : Nat) (f : Unit → Unit) : (s.modUnit u f).nextId = s.nextId := rfl

@[simp] theorem State.modGang_gone (s : State) (u g : Nat) (f : Gang → Gang) : (s.modGang u g f).gone = s.gone := rfl
@[simp] theorem State.modGang_cores (s : State) (u g : Nat) (f : Gang → Gang) : (s.modGang u g f).cores = s.cores := rfl
@[simp] theorem State.modGang_layers (s : State) (u g : Nat) (f : Gang → Gang) : (s.modGang u g f).layers = s.layers := rfl
@[simp] theorem State.modGang_mem (s : State) (u g : Nat) (f : Gang → Gang) : (s.modGang u g f).mem = s.mem := rfl
@[simp] theorem State.modGang_hostMem (s : State) (u g : Nat) (f : Gang → Gang) : (s.modGang u g f).hostMem = s.hostMem := rfl
@[simp] theorem State.modGang_firm (s : State) (u g : Nat) (f : Gang → Gang) : (s.modGang u g f).firm = s.firm := rfl
@[simp] theorem State.modGang_poison (s : State) (u g : Nat) (f : Gang → Gang) : (s.modGang u g f).poison = s.poison := rfl
@[simp] theorem State.modGang_homeSeq (s : State) (u g : Nat) (f : Gang → Gang) : (s.modGang u g f).homeSeq = s.homeSeq := rfl
@[simp] theorem State.modGang_stamps (s : State) (u g : Nat) (f : Gang → Gang) : (s.modGang u g f).stamps = s.stamps := rfl
@[simp] theorem State.modGang_hostStamps (s : State) (u g : Nat) (f : Gang → Gang) : (s.modGang u g f).hostStamps = s.hostStamps := rfl
@[simp] theorem State.modGang_claims (s : State) (u g : Nat) (f : Gang → Gang) : (s.modGang u g f).claims = s.claims := rfl
@[simp] theorem State.modGang_pkgs (s : State) (u g : Nat) (f : Gang → Gang) : (s.modGang u g f).pkgs = s.pkgs := rfl
@[simp] theorem State.modGang_left (s : State) (u g : Nat) (f : Gang → Gang) : (s.modGang u g f).left = s.left := rfl
@[simp] theorem State.modGang_ctx (s : State) (u g : Nat) (f : Gang → Gang) : (s.modGang u g f).ctx = s.ctx := rfl
@[simp] theorem State.modGang_ctxReg (s : State) (u g : Nat) (f : Gang → Gang) : (s.modGang u g f).ctxReg = s.ctxReg := rfl
@[simp] theorem State.modGang_ctxNew (s : State) (u g : Nat) (f : Gang → Gang) : (s.modGang u g f).ctxNew = s.ctxNew := rfl
@[simp] theorem State.modGang_ctxBad (s : State) (u g : Nat) (f : Gang → Gang) : (s.modGang u g f).ctxBad = s.ctxBad := rfl
@[simp] theorem State.modGang_queues (s : State) (u g : Nat) (f : Gang → Gang) : (s.modGang u g f).queues = s.queues := rfl
@[simp] theorem State.modGang_jobs (s : State) (u g : Nat) (f : Gang → Gang) : (s.modGang u g f).jobs = s.jobs := rfl
@[simp] theorem State.modGang_pend (s : State) (u g : Nat) (f : Gang → Gang) : (s.modGang u g f).pend = s.pend := rfl
@[simp] theorem State.modGang_served (s : State) (u g : Nat) (f : Gang → Gang) : (s.modGang u g f).served = s.served := rfl
@[simp] theorem State.modGang_saved (s : State) (u g : Nat) (f : Gang → Gang) : (s.modGang u g f).saved = s.saved := rfl
@[simp] theorem State.modGang_restored (s : State) (u g : Nat) (f : Gang → Gang) : (s.modGang u g f).restored = s.restored := rfl
@[simp] theorem State.modGang_binding (s : State) (u g : Nat) (f : Gang → Gang) : (s.modGang u g f).binding = s.binding := rfl
@[simp] theorem State.modGang_slotErr (s : State) (u g : Nat) (f : Gang → Gang) : (s.modGang u g f).slotErr = s.slotErr := rfl
@[simp] theorem State.modGang_xlt (s : State) (u g : Nat) (f : Gang → Gang) : (s.modGang u g f).xlt = s.xlt := rfl
@[simp] theorem State.modGang_hubTlb (s : State) (u g : Nat) (f : Gang → Gang) : (s.modGang u g f).hubTlb = s.hubTlb := rfl
@[simp] theorem State.modGang_mig (s : State) (u g : Nat) (f : Gang → Gang) : (s.modGang u g f).mig = s.mig := rfl
@[simp] theorem State.modGang_refused (s : State) (u g : Nat) (f : Gang → Gang) : (s.modGang u g f).refused = s.refused := rfl
@[simp] theorem State.modGang_fsplit (s : State) (u g : Nat) (f : Gang → Gang) : (s.modGang u g f).fsplit = s.fsplit := rfl
@[simp] theorem State.modGang_fr (s : State) (u g : Nat) (f : Gang → Gang) : (s.modGang u g f).fr = s.fr := rfl
@[simp] theorem State.modGang_flash (s : State) (u g : Nat) (f : Gang → Gang) : (s.modGang u g f).flash = s.flash := rfl
@[simp] theorem State.modGang_dlog (s : State) (u g : Nat) (f : Gang → Gang) : (s.modGang u g f).dlog = s.dlog := rfl
@[simp] theorem State.modGang_hub (s : State) (u g : Nat) (f : Gang → Gang) : (s.modGang u g f).hub = s.hub := rfl
@[simp] theorem State.modGang_pwrcfg (s : State) (u g : Nat) (f : Gang → Gang) : (s.modGang u g f).pwrcfg = s.pwrcfg := rfl
@[simp] theorem State.modGang_pch (s : State) (u g : Nat) (f : Gang → Gang) : (s.modGang u g f).pch = s.pch := rfl
@[simp] theorem State.modGang_pwr (s : State) (u g : Nat) (f : Gang → Gang) : (s.modGang u g f).pwr = s.pwr := rfl
@[simp] theorem State.modGang_svy (s : State) (u g : Nat) (f : Gang → Gang) : (s.modGang u g f).svy = s.svy := rfl
@[simp] theorem State.modGang_vxl (s : State) (u g : Nat) (f : Gang → Gang) : (s.modGang u g f).vxl = s.vxl := rfl
@[simp] theorem State.modGang_drift (s : State) (u g : Nat) (f : Gang → Gang) : (s.modGang u g f).drift = s.drift := rfl
@[simp] theorem State.modGang_errs (s : State) (u g : Nat) (f : Gang → Gang) : (s.modGang u g f).errs = s.errs := rfl
@[simp] theorem State.modGang_errNext (s : State) (u g : Nat) (f : Gang → Gang) : (s.modGang u g f).errNext = s.errNext := rfl
@[simp] theorem State.modGang_fatal (s : State) (u g : Nat) (f : Gang → Gang) : (s.modGang u g f).fatal = s.fatal := rfl
@[simp] theorem State.modGang_atomicOps (s : State) (u g : Nat) (f : Gang → Gang) : (s.modGang u g f).atomicOps = s.atomicOps := rfl
@[simp] theorem State.modGang_linkBad (s : State) (u g : Nat) (f : Gang → Gang) : (s.modGang u g f).linkBad = s.linkBad := rfl
@[simp] theorem State.modGang_past (s : State) (u g : Nat) (f : Gang → Gang) : (s.modGang u g f).past = s.past := rfl
@[simp] theorem State.modGang_cur (s : State) (u g : Nat) (f : Gang → Gang) : (s.modGang u g f).cur = s.cur := rfl
@[simp] theorem State.modGang_agenda (s : State) (u g : Nat) (f : Gang → Gang) : (s.modGang u g f).agenda = s.agenda := rfl
@[simp] theorem State.modGang_sched (s : State) (u g : Nat) (f : Gang → Gang) : (s.modGang u g f).sched = s.sched := rfl
@[simp] theorem State.modGang_tick (s : State) (u g : Nat) (f : Gang → Gang) : (s.modGang u g f).tick = s.tick := rfl
@[simp] theorem State.modGang_nextId (s : State) (u g : Nat) (f : Gang → Gang) : (s.modGang u g f).nextId = s.nextId := rfl

@[simp] theorem State.modLead_gone (s : State) (u : Nat) (f : Lead → Lead) : (s.modLead u f).gone = s.gone := rfl
@[simp] theorem State.modLead_cores (s : State) (u : Nat) (f : Lead → Lead) : (s.modLead u f).cores = s.cores := rfl
@[simp] theorem State.modLead_layers (s : State) (u : Nat) (f : Lead → Lead) : (s.modLead u f).layers = s.layers := rfl
@[simp] theorem State.modLead_mem (s : State) (u : Nat) (f : Lead → Lead) : (s.modLead u f).mem = s.mem := rfl
@[simp] theorem State.modLead_hostMem (s : State) (u : Nat) (f : Lead → Lead) : (s.modLead u f).hostMem = s.hostMem := rfl
@[simp] theorem State.modLead_firm (s : State) (u : Nat) (f : Lead → Lead) : (s.modLead u f).firm = s.firm := rfl
@[simp] theorem State.modLead_poison (s : State) (u : Nat) (f : Lead → Lead) : (s.modLead u f).poison = s.poison := rfl
@[simp] theorem State.modLead_homeSeq (s : State) (u : Nat) (f : Lead → Lead) : (s.modLead u f).homeSeq = s.homeSeq := rfl
@[simp] theorem State.modLead_stamps (s : State) (u : Nat) (f : Lead → Lead) : (s.modLead u f).stamps = s.stamps := rfl
@[simp] theorem State.modLead_hostStamps (s : State) (u : Nat) (f : Lead → Lead) : (s.modLead u f).hostStamps = s.hostStamps := rfl
@[simp] theorem State.modLead_claims (s : State) (u : Nat) (f : Lead → Lead) : (s.modLead u f).claims = s.claims := rfl
@[simp] theorem State.modLead_pkgs (s : State) (u : Nat) (f : Lead → Lead) : (s.modLead u f).pkgs = s.pkgs := rfl
@[simp] theorem State.modLead_left (s : State) (u : Nat) (f : Lead → Lead) : (s.modLead u f).left = s.left := rfl
@[simp] theorem State.modLead_ctx (s : State) (u : Nat) (f : Lead → Lead) : (s.modLead u f).ctx = s.ctx := rfl
@[simp] theorem State.modLead_ctxReg (s : State) (u : Nat) (f : Lead → Lead) : (s.modLead u f).ctxReg = s.ctxReg := rfl
@[simp] theorem State.modLead_ctxNew (s : State) (u : Nat) (f : Lead → Lead) : (s.modLead u f).ctxNew = s.ctxNew := rfl
@[simp] theorem State.modLead_ctxBad (s : State) (u : Nat) (f : Lead → Lead) : (s.modLead u f).ctxBad = s.ctxBad := rfl
@[simp] theorem State.modLead_queues (s : State) (u : Nat) (f : Lead → Lead) : (s.modLead u f).queues = s.queues := rfl
@[simp] theorem State.modLead_jobs (s : State) (u : Nat) (f : Lead → Lead) : (s.modLead u f).jobs = s.jobs := rfl
@[simp] theorem State.modLead_pend (s : State) (u : Nat) (f : Lead → Lead) : (s.modLead u f).pend = s.pend := rfl
@[simp] theorem State.modLead_served (s : State) (u : Nat) (f : Lead → Lead) : (s.modLead u f).served = s.served := rfl
@[simp] theorem State.modLead_saved (s : State) (u : Nat) (f : Lead → Lead) : (s.modLead u f).saved = s.saved := rfl
@[simp] theorem State.modLead_restored (s : State) (u : Nat) (f : Lead → Lead) : (s.modLead u f).restored = s.restored := rfl
@[simp] theorem State.modLead_binding (s : State) (u : Nat) (f : Lead → Lead) : (s.modLead u f).binding = s.binding := rfl
@[simp] theorem State.modLead_slotErr (s : State) (u : Nat) (f : Lead → Lead) : (s.modLead u f).slotErr = s.slotErr := rfl
@[simp] theorem State.modLead_xlt (s : State) (u : Nat) (f : Lead → Lead) : (s.modLead u f).xlt = s.xlt := rfl
@[simp] theorem State.modLead_hubTlb (s : State) (u : Nat) (f : Lead → Lead) : (s.modLead u f).hubTlb = s.hubTlb := rfl
@[simp] theorem State.modLead_mig (s : State) (u : Nat) (f : Lead → Lead) : (s.modLead u f).mig = s.mig := rfl
@[simp] theorem State.modLead_refused (s : State) (u : Nat) (f : Lead → Lead) : (s.modLead u f).refused = s.refused := rfl
@[simp] theorem State.modLead_fsplit (s : State) (u : Nat) (f : Lead → Lead) : (s.modLead u f).fsplit = s.fsplit := rfl
@[simp] theorem State.modLead_fr (s : State) (u : Nat) (f : Lead → Lead) : (s.modLead u f).fr = s.fr := rfl
@[simp] theorem State.modLead_flash (s : State) (u : Nat) (f : Lead → Lead) : (s.modLead u f).flash = s.flash := rfl
@[simp] theorem State.modLead_dlog (s : State) (u : Nat) (f : Lead → Lead) : (s.modLead u f).dlog = s.dlog := rfl
@[simp] theorem State.modLead_hub (s : State) (u : Nat) (f : Lead → Lead) : (s.modLead u f).hub = s.hub := rfl
@[simp] theorem State.modLead_pwrcfg (s : State) (u : Nat) (f : Lead → Lead) : (s.modLead u f).pwrcfg = s.pwrcfg := rfl
@[simp] theorem State.modLead_pch (s : State) (u : Nat) (f : Lead → Lead) : (s.modLead u f).pch = s.pch := rfl
@[simp] theorem State.modLead_pwr (s : State) (u : Nat) (f : Lead → Lead) : (s.modLead u f).pwr = s.pwr := rfl
@[simp] theorem State.modLead_svy (s : State) (u : Nat) (f : Lead → Lead) : (s.modLead u f).svy = s.svy := rfl
@[simp] theorem State.modLead_vxl (s : State) (u : Nat) (f : Lead → Lead) : (s.modLead u f).vxl = s.vxl := rfl
@[simp] theorem State.modLead_drift (s : State) (u : Nat) (f : Lead → Lead) : (s.modLead u f).drift = s.drift := rfl
@[simp] theorem State.modLead_errs (s : State) (u : Nat) (f : Lead → Lead) : (s.modLead u f).errs = s.errs := rfl
@[simp] theorem State.modLead_errNext (s : State) (u : Nat) (f : Lead → Lead) : (s.modLead u f).errNext = s.errNext := rfl
@[simp] theorem State.modLead_fatal (s : State) (u : Nat) (f : Lead → Lead) : (s.modLead u f).fatal = s.fatal := rfl
@[simp] theorem State.modLead_atomicOps (s : State) (u : Nat) (f : Lead → Lead) : (s.modLead u f).atomicOps = s.atomicOps := rfl
@[simp] theorem State.modLead_linkBad (s : State) (u : Nat) (f : Lead → Lead) : (s.modLead u f).linkBad = s.linkBad := rfl
@[simp] theorem State.modLead_past (s : State) (u : Nat) (f : Lead → Lead) : (s.modLead u f).past = s.past := rfl
@[simp] theorem State.modLead_cur (s : State) (u : Nat) (f : Lead → Lead) : (s.modLead u f).cur = s.cur := rfl
@[simp] theorem State.modLead_agenda (s : State) (u : Nat) (f : Lead → Lead) : (s.modLead u f).agenda = s.agenda := rfl
@[simp] theorem State.modLead_sched (s : State) (u : Nat) (f : Lead → Lead) : (s.modLead u f).sched = s.sched := rfl
@[simp] theorem State.modLead_tick (s : State) (u : Nat) (f : Lead → Lead) : (s.modLead u f).tick = s.tick := rfl
@[simp] theorem State.modLead_nextId (s : State) (u : Nat) (f : Lead → Lead) : (s.modLead u f).nextId = s.nextId := rfl

@[simp] theorem State.setCore_units (s : State) (c : Nat) (k : Core) : (s.setCore c k).units = s.units := rfl
@[simp] theorem State.setCore_gone (s : State) (c : Nat) (k : Core) : (s.setCore c k).gone = s.gone := rfl
@[simp] theorem State.setCore_layers (s : State) (c : Nat) (k : Core) : (s.setCore c k).layers = s.layers := rfl
@[simp] theorem State.setCore_mem (s : State) (c : Nat) (k : Core) : (s.setCore c k).mem = s.mem := rfl
@[simp] theorem State.setCore_hostMem (s : State) (c : Nat) (k : Core) : (s.setCore c k).hostMem = s.hostMem := rfl
@[simp] theorem State.setCore_firm (s : State) (c : Nat) (k : Core) : (s.setCore c k).firm = s.firm := rfl
@[simp] theorem State.setCore_poison (s : State) (c : Nat) (k : Core) : (s.setCore c k).poison = s.poison := rfl
@[simp] theorem State.setCore_homeSeq (s : State) (c : Nat) (k : Core) : (s.setCore c k).homeSeq = s.homeSeq := rfl
@[simp] theorem State.setCore_stamps (s : State) (c : Nat) (k : Core) : (s.setCore c k).stamps = s.stamps := rfl
@[simp] theorem State.setCore_hostStamps (s : State) (c : Nat) (k : Core) : (s.setCore c k).hostStamps = s.hostStamps := rfl
@[simp] theorem State.setCore_claims (s : State) (c : Nat) (k : Core) : (s.setCore c k).claims = s.claims := rfl
@[simp] theorem State.setCore_pkgs (s : State) (c : Nat) (k : Core) : (s.setCore c k).pkgs = s.pkgs := rfl
@[simp] theorem State.setCore_left (s : State) (c : Nat) (k : Core) : (s.setCore c k).left = s.left := rfl
@[simp] theorem State.setCore_ctx (s : State) (c : Nat) (k : Core) : (s.setCore c k).ctx = s.ctx := rfl
@[simp] theorem State.setCore_ctxReg (s : State) (c : Nat) (k : Core) : (s.setCore c k).ctxReg = s.ctxReg := rfl
@[simp] theorem State.setCore_ctxNew (s : State) (c : Nat) (k : Core) : (s.setCore c k).ctxNew = s.ctxNew := rfl
@[simp] theorem State.setCore_ctxBad (s : State) (c : Nat) (k : Core) : (s.setCore c k).ctxBad = s.ctxBad := rfl
@[simp] theorem State.setCore_queues (s : State) (c : Nat) (k : Core) : (s.setCore c k).queues = s.queues := rfl
@[simp] theorem State.setCore_jobs (s : State) (c : Nat) (k : Core) : (s.setCore c k).jobs = s.jobs := rfl
@[simp] theorem State.setCore_pend (s : State) (c : Nat) (k : Core) : (s.setCore c k).pend = s.pend := rfl
@[simp] theorem State.setCore_served (s : State) (c : Nat) (k : Core) : (s.setCore c k).served = s.served := rfl
@[simp] theorem State.setCore_saved (s : State) (c : Nat) (k : Core) : (s.setCore c k).saved = s.saved := rfl
@[simp] theorem State.setCore_restored (s : State) (c : Nat) (k : Core) : (s.setCore c k).restored = s.restored := rfl
@[simp] theorem State.setCore_binding (s : State) (c : Nat) (k : Core) : (s.setCore c k).binding = s.binding := rfl
@[simp] theorem State.setCore_slotErr (s : State) (c : Nat) (k : Core) : (s.setCore c k).slotErr = s.slotErr := rfl
@[simp] theorem State.setCore_xlt (s : State) (c : Nat) (k : Core) : (s.setCore c k).xlt = s.xlt := rfl
@[simp] theorem State.setCore_hubTlb (s : State) (c : Nat) (k : Core) : (s.setCore c k).hubTlb = s.hubTlb := rfl
@[simp] theorem State.setCore_mig (s : State) (c : Nat) (k : Core) : (s.setCore c k).mig = s.mig := rfl
@[simp] theorem State.setCore_refused (s : State) (c : Nat) (k : Core) : (s.setCore c k).refused = s.refused := rfl
@[simp] theorem State.setCore_fsplit (s : State) (c : Nat) (k : Core) : (s.setCore c k).fsplit = s.fsplit := rfl
@[simp] theorem State.setCore_fr (s : State) (c : Nat) (k : Core) : (s.setCore c k).fr = s.fr := rfl
@[simp] theorem State.setCore_flash (s : State) (c : Nat) (k : Core) : (s.setCore c k).flash = s.flash := rfl
@[simp] theorem State.setCore_dlog (s : State) (c : Nat) (k : Core) : (s.setCore c k).dlog = s.dlog := rfl
@[simp] theorem State.setCore_hub (s : State) (c : Nat) (k : Core) : (s.setCore c k).hub = s.hub := rfl
@[simp] theorem State.setCore_pwrcfg (s : State) (c : Nat) (k : Core) : (s.setCore c k).pwrcfg = s.pwrcfg := rfl
@[simp] theorem State.setCore_pch (s : State) (c : Nat) (k : Core) : (s.setCore c k).pch = s.pch := rfl
@[simp] theorem State.setCore_pwr (s : State) (c : Nat) (k : Core) : (s.setCore c k).pwr = s.pwr := rfl
@[simp] theorem State.setCore_svy (s : State) (c : Nat) (k : Core) : (s.setCore c k).svy = s.svy := rfl
@[simp] theorem State.setCore_vxl (s : State) (c : Nat) (k : Core) : (s.setCore c k).vxl = s.vxl := rfl
@[simp] theorem State.setCore_drift (s : State) (c : Nat) (k : Core) : (s.setCore c k).drift = s.drift := rfl
@[simp] theorem State.setCore_errs (s : State) (c : Nat) (k : Core) : (s.setCore c k).errs = s.errs := rfl
@[simp] theorem State.setCore_errNext (s : State) (c : Nat) (k : Core) : (s.setCore c k).errNext = s.errNext := rfl
@[simp] theorem State.setCore_fatal (s : State) (c : Nat) (k : Core) : (s.setCore c k).fatal = s.fatal := rfl
@[simp] theorem State.setCore_atomicOps (s : State) (c : Nat) (k : Core) : (s.setCore c k).atomicOps = s.atomicOps := rfl
@[simp] theorem State.setCore_linkBad (s : State) (c : Nat) (k : Core) : (s.setCore c k).linkBad = s.linkBad := rfl
@[simp] theorem State.setCore_past (s : State) (c : Nat) (k : Core) : (s.setCore c k).past = s.past := rfl
@[simp] theorem State.setCore_cur (s : State) (c : Nat) (k : Core) : (s.setCore c k).cur = s.cur := rfl
@[simp] theorem State.setCore_agenda (s : State) (c : Nat) (k : Core) : (s.setCore c k).agenda = s.agenda := rfl
@[simp] theorem State.setCore_sched (s : State) (c : Nat) (k : Core) : (s.setCore c k).sched = s.sched := rfl
@[simp] theorem State.setCore_tick (s : State) (c : Nat) (k : Core) : (s.setCore c k).tick = s.tick := rfl
@[simp] theorem State.setCore_nextId (s : State) (c : Nat) (k : Core) : (s.setCore c k).nextId = s.nextId := rfl

@[simp] theorem State.modCore_units (s : State) (c : Nat) (f : Core → Core) : (s.modCore c f).units = s.units := rfl
@[simp] theorem State.modCore_gone (s : State) (c : Nat) (f : Core → Core) : (s.modCore c f).gone = s.gone := rfl
@[simp] theorem State.modCore_layers (s : State) (c : Nat) (f : Core → Core) : (s.modCore c f).layers = s.layers := rfl
@[simp] theorem State.modCore_mem (s : State) (c : Nat) (f : Core → Core) : (s.modCore c f).mem = s.mem := rfl
@[simp] theorem State.modCore_hostMem (s : State) (c : Nat) (f : Core → Core) : (s.modCore c f).hostMem = s.hostMem := rfl
@[simp] theorem State.modCore_firm (s : State) (c : Nat) (f : Core → Core) : (s.modCore c f).firm = s.firm := rfl
@[simp] theorem State.modCore_poison (s : State) (c : Nat) (f : Core → Core) : (s.modCore c f).poison = s.poison := rfl
@[simp] theorem State.modCore_homeSeq (s : State) (c : Nat) (f : Core → Core) : (s.modCore c f).homeSeq = s.homeSeq := rfl
@[simp] theorem State.modCore_stamps (s : State) (c : Nat) (f : Core → Core) : (s.modCore c f).stamps = s.stamps := rfl
@[simp] theorem State.modCore_hostStamps (s : State) (c : Nat) (f : Core → Core) : (s.modCore c f).hostStamps = s.hostStamps := rfl
@[simp] theorem State.modCore_claims (s : State) (c : Nat) (f : Core → Core) : (s.modCore c f).claims = s.claims := rfl
@[simp] theorem State.modCore_pkgs (s : State) (c : Nat) (f : Core → Core) : (s.modCore c f).pkgs = s.pkgs := rfl
@[simp] theorem State.modCore_left (s : State) (c : Nat) (f : Core → Core) : (s.modCore c f).left = s.left := rfl
@[simp] theorem State.modCore_ctx (s : State) (c : Nat) (f : Core → Core) : (s.modCore c f).ctx = s.ctx := rfl
@[simp] theorem State.modCore_ctxReg (s : State) (c : Nat) (f : Core → Core) : (s.modCore c f).ctxReg = s.ctxReg := rfl
@[simp] theorem State.modCore_ctxNew (s : State) (c : Nat) (f : Core → Core) : (s.modCore c f).ctxNew = s.ctxNew := rfl
@[simp] theorem State.modCore_ctxBad (s : State) (c : Nat) (f : Core → Core) : (s.modCore c f).ctxBad = s.ctxBad := rfl
@[simp] theorem State.modCore_queues (s : State) (c : Nat) (f : Core → Core) : (s.modCore c f).queues = s.queues := rfl
@[simp] theorem State.modCore_jobs (s : State) (c : Nat) (f : Core → Core) : (s.modCore c f).jobs = s.jobs := rfl
@[simp] theorem State.modCore_pend (s : State) (c : Nat) (f : Core → Core) : (s.modCore c f).pend = s.pend := rfl
@[simp] theorem State.modCore_served (s : State) (c : Nat) (f : Core → Core) : (s.modCore c f).served = s.served := rfl
@[simp] theorem State.modCore_saved (s : State) (c : Nat) (f : Core → Core) : (s.modCore c f).saved = s.saved := rfl
@[simp] theorem State.modCore_restored (s : State) (c : Nat) (f : Core → Core) : (s.modCore c f).restored = s.restored := rfl
@[simp] theorem State.modCore_binding (s : State) (c : Nat) (f : Core → Core) : (s.modCore c f).binding = s.binding := rfl
@[simp] theorem State.modCore_slotErr (s : State) (c : Nat) (f : Core → Core) : (s.modCore c f).slotErr = s.slotErr := rfl
@[simp] theorem State.modCore_xlt (s : State) (c : Nat) (f : Core → Core) : (s.modCore c f).xlt = s.xlt := rfl
@[simp] theorem State.modCore_hubTlb (s : State) (c : Nat) (f : Core → Core) : (s.modCore c f).hubTlb = s.hubTlb := rfl
@[simp] theorem State.modCore_mig (s : State) (c : Nat) (f : Core → Core) : (s.modCore c f).mig = s.mig := rfl
@[simp] theorem State.modCore_refused (s : State) (c : Nat) (f : Core → Core) : (s.modCore c f).refused = s.refused := rfl
@[simp] theorem State.modCore_fsplit (s : State) (c : Nat) (f : Core → Core) : (s.modCore c f).fsplit = s.fsplit := rfl
@[simp] theorem State.modCore_fr (s : State) (c : Nat) (f : Core → Core) : (s.modCore c f).fr = s.fr := rfl
@[simp] theorem State.modCore_flash (s : State) (c : Nat) (f : Core → Core) : (s.modCore c f).flash = s.flash := rfl
@[simp] theorem State.modCore_dlog (s : State) (c : Nat) (f : Core → Core) : (s.modCore c f).dlog = s.dlog := rfl
@[simp] theorem State.modCore_hub (s : State) (c : Nat) (f : Core → Core) : (s.modCore c f).hub = s.hub := rfl
@[simp] theorem State.modCore_pwrcfg (s : State) (c : Nat) (f : Core → Core) : (s.modCore c f).pwrcfg = s.pwrcfg := rfl
@[simp] theorem State.modCore_pch (s : State) (c : Nat) (f : Core → Core) : (s.modCore c f).pch = s.pch := rfl
@[simp] theorem State.modCore_pwr (s : State) (c : Nat) (f : Core → Core) : (s.modCore c f).pwr = s.pwr := rfl
@[simp] theorem State.modCore_svy (s : State) (c : Nat) (f : Core → Core) : (s.modCore c f).svy = s.svy := rfl
@[simp] theorem State.modCore_vxl (s : State) (c : Nat) (f : Core → Core) : (s.modCore c f).vxl = s.vxl := rfl
@[simp] theorem State.modCore_drift (s : State) (c : Nat) (f : Core → Core) : (s.modCore c f).drift = s.drift := rfl
@[simp] theorem State.modCore_errs (s : State) (c : Nat) (f : Core → Core) : (s.modCore c f).errs = s.errs := rfl
@[simp] theorem State.modCore_errNext (s : State) (c : Nat) (f : Core → Core) : (s.modCore c f).errNext = s.errNext := rfl
@[simp] theorem State.modCore_fatal (s : State) (c : Nat) (f : Core → Core) : (s.modCore c f).fatal = s.fatal := rfl
@[simp] theorem State.modCore_atomicOps (s : State) (c : Nat) (f : Core → Core) : (s.modCore c f).atomicOps = s.atomicOps := rfl
@[simp] theorem State.modCore_linkBad (s : State) (c : Nat) (f : Core → Core) : (s.modCore c f).linkBad = s.linkBad := rfl
@[simp] theorem State.modCore_past (s : State) (c : Nat) (f : Core → Core) : (s.modCore c f).past = s.past := rfl
@[simp] theorem State.modCore_cur (s : State) (c : Nat) (f : Core → Core) : (s.modCore c f).cur = s.cur := rfl
@[simp] theorem State.modCore_agenda (s : State) (c : Nat) (f : Core → Core) : (s.modCore c f).agenda = s.agenda := rfl
@[simp] theorem State.modCore_sched (s : State) (c : Nat) (f : Core → Core) : (s.modCore c f).sched = s.sched := rfl
@[simp] theorem State.modCore_tick (s : State) (c : Nat) (f : Core → Core) : (s.modCore c f).tick = s.tick := rfl
@[simp] theorem State.modCore_nextId (s : State) (c : Nat) (f : Core → Core) : (s.modCore c f).nextId = s.nextId := rfl

@[simp] theorem State.modLayer_units (s : State) (y : Nat) (f : LayerCache → LayerCache) : (s.modLayer y f).units = s.units := rfl
@[simp] theorem State.modLayer_gone (s : State) (y : Nat) (f : LayerCache → LayerCache) : (s.modLayer y f).gone = s.gone := rfl
@[simp] theorem State.modLayer_cores (s : State) (y : Nat) (f : LayerCache → LayerCache) : (s.modLayer y f).cores = s.cores := rfl
@[simp] theorem State.modLayer_mem (s : State) (y : Nat) (f : LayerCache → LayerCache) : (s.modLayer y f).mem = s.mem := rfl
@[simp] theorem State.modLayer_hostMem (s : State) (y : Nat) (f : LayerCache → LayerCache) : (s.modLayer y f).hostMem = s.hostMem := rfl
@[simp] theorem State.modLayer_firm (s : State) (y : Nat) (f : LayerCache → LayerCache) : (s.modLayer y f).firm = s.firm := rfl
@[simp] theorem State.modLayer_poison (s : State) (y : Nat) (f : LayerCache → LayerCache) : (s.modLayer y f).poison = s.poison := rfl
@[simp] theorem State.modLayer_homeSeq (s : State) (y : Nat) (f : LayerCache → LayerCache) : (s.modLayer y f).homeSeq = s.homeSeq := rfl
@[simp] theorem State.modLayer_stamps (s : State) (y : Nat) (f : LayerCache → LayerCache) : (s.modLayer y f).stamps = s.stamps := rfl
@[simp] theorem State.modLayer_hostStamps (s : State) (y : Nat) (f : LayerCache → LayerCache) : (s.modLayer y f).hostStamps = s.hostStamps := rfl
@[simp] theorem State.modLayer_claims (s : State) (y : Nat) (f : LayerCache → LayerCache) : (s.modLayer y f).claims = s.claims := rfl
@[simp] theorem State.modLayer_pkgs (s : State) (y : Nat) (f : LayerCache → LayerCache) : (s.modLayer y f).pkgs = s.pkgs := rfl
@[simp] theorem State.modLayer_left (s : State) (y : Nat) (f : LayerCache → LayerCache) : (s.modLayer y f).left = s.left := rfl
@[simp] theorem State.modLayer_ctx (s : State) (y : Nat) (f : LayerCache → LayerCache) : (s.modLayer y f).ctx = s.ctx := rfl
@[simp] theorem State.modLayer_ctxReg (s : State) (y : Nat) (f : LayerCache → LayerCache) : (s.modLayer y f).ctxReg = s.ctxReg := rfl
@[simp] theorem State.modLayer_ctxNew (s : State) (y : Nat) (f : LayerCache → LayerCache) : (s.modLayer y f).ctxNew = s.ctxNew := rfl
@[simp] theorem State.modLayer_ctxBad (s : State) (y : Nat) (f : LayerCache → LayerCache) : (s.modLayer y f).ctxBad = s.ctxBad := rfl
@[simp] theorem State.modLayer_queues (s : State) (y : Nat) (f : LayerCache → LayerCache) : (s.modLayer y f).queues = s.queues := rfl
@[simp] theorem State.modLayer_jobs (s : State) (y : Nat) (f : LayerCache → LayerCache) : (s.modLayer y f).jobs = s.jobs := rfl
@[simp] theorem State.modLayer_pend (s : State) (y : Nat) (f : LayerCache → LayerCache) : (s.modLayer y f).pend = s.pend := rfl
@[simp] theorem State.modLayer_served (s : State) (y : Nat) (f : LayerCache → LayerCache) : (s.modLayer y f).served = s.served := rfl
@[simp] theorem State.modLayer_saved (s : State) (y : Nat) (f : LayerCache → LayerCache) : (s.modLayer y f).saved = s.saved := rfl
@[simp] theorem State.modLayer_restored (s : State) (y : Nat) (f : LayerCache → LayerCache) : (s.modLayer y f).restored = s.restored := rfl
@[simp] theorem State.modLayer_binding (s : State) (y : Nat) (f : LayerCache → LayerCache) : (s.modLayer y f).binding = s.binding := rfl
@[simp] theorem State.modLayer_slotErr (s : State) (y : Nat) (f : LayerCache → LayerCache) : (s.modLayer y f).slotErr = s.slotErr := rfl
@[simp] theorem State.modLayer_xlt (s : State) (y : Nat) (f : LayerCache → LayerCache) : (s.modLayer y f).xlt = s.xlt := rfl
@[simp] theorem State.modLayer_hubTlb (s : State) (y : Nat) (f : LayerCache → LayerCache) : (s.modLayer y f).hubTlb = s.hubTlb := rfl
@[simp] theorem State.modLayer_mig (s : State) (y : Nat) (f : LayerCache → LayerCache) : (s.modLayer y f).mig = s.mig := rfl
@[simp] theorem State.modLayer_refused (s : State) (y : Nat) (f : LayerCache → LayerCache) : (s.modLayer y f).refused = s.refused := rfl
@[simp] theorem State.modLayer_fsplit (s : State) (y : Nat) (f : LayerCache → LayerCache) : (s.modLayer y f).fsplit = s.fsplit := rfl
@[simp] theorem State.modLayer_fr (s : State) (y : Nat) (f : LayerCache → LayerCache) : (s.modLayer y f).fr = s.fr := rfl
@[simp] theorem State.modLayer_flash (s : State) (y : Nat) (f : LayerCache → LayerCache) : (s.modLayer y f).flash = s.flash := rfl
@[simp] theorem State.modLayer_dlog (s : State) (y : Nat) (f : LayerCache → LayerCache) : (s.modLayer y f).dlog = s.dlog := rfl
@[simp] theorem State.modLayer_hub (s : State) (y : Nat) (f : LayerCache → LayerCache) : (s.modLayer y f).hub = s.hub := rfl
@[simp] theorem State.modLayer_pwrcfg (s : State) (y : Nat) (f : LayerCache → LayerCache) : (s.modLayer y f).pwrcfg = s.pwrcfg := rfl
@[simp] theorem State.modLayer_pch (s : State) (y : Nat) (f : LayerCache → LayerCache) : (s.modLayer y f).pch = s.pch := rfl
@[simp] theorem State.modLayer_pwr (s : State) (y : Nat) (f : LayerCache → LayerCache) : (s.modLayer y f).pwr = s.pwr := rfl
@[simp] theorem State.modLayer_svy (s : State) (y : Nat) (f : LayerCache → LayerCache) : (s.modLayer y f).svy = s.svy := rfl
@[simp] theorem State.modLayer_vxl (s : State) (y : Nat) (f : LayerCache → LayerCache) : (s.modLayer y f).vxl = s.vxl := rfl
@[simp] theorem State.modLayer_drift (s : State) (y : Nat) (f : LayerCache → LayerCache) : (s.modLayer y f).drift = s.drift := rfl
@[simp] theorem State.modLayer_errs (s : State) (y : Nat) (f : LayerCache → LayerCache) : (s.modLayer y f).errs = s.errs := rfl
@[simp] theorem State.modLayer_errNext (s : State) (y : Nat) (f : LayerCache → LayerCache) : (s.modLayer y f).errNext = s.errNext := rfl
@[simp] theorem State.modLayer_fatal (s : State) (y : Nat) (f : LayerCache → LayerCache) : (s.modLayer y f).fatal = s.fatal := rfl
@[simp] theorem State.modLayer_atomicOps (s : State) (y : Nat) (f : LayerCache → LayerCache) : (s.modLayer y f).atomicOps = s.atomicOps := rfl
@[simp] theorem State.modLayer_linkBad (s : State) (y : Nat) (f : LayerCache → LayerCache) : (s.modLayer y f).linkBad = s.linkBad := rfl
@[simp] theorem State.modLayer_past (s : State) (y : Nat) (f : LayerCache → LayerCache) : (s.modLayer y f).past = s.past := rfl
@[simp] theorem State.modLayer_cur (s : State) (y : Nat) (f : LayerCache → LayerCache) : (s.modLayer y f).cur = s.cur := rfl
@[simp] theorem State.modLayer_agenda (s : State) (y : Nat) (f : LayerCache → LayerCache) : (s.modLayer y f).agenda = s.agenda := rfl
@[simp] theorem State.modLayer_sched (s : State) (y : Nat) (f : LayerCache → LayerCache) : (s.modLayer y f).sched = s.sched := rfl
@[simp] theorem State.modLayer_tick (s : State) (y : Nat) (f : LayerCache → LayerCache) : (s.modLayer y f).tick = s.tick := rfl
@[simp] theorem State.modLayer_nextId (s : State) (y : Nat) (f : LayerCache → LayerCache) : (s.modLayer y f).nextId = s.nextId := rfl

@[simp] theorem State.fresh_units (s : State) : (s.fresh).units = s.units := rfl
@[simp] theorem State.fresh_gone (s : State) : (s.fresh).gone = s.gone := rfl
@[simp] theorem State.fresh_cores (s : State) : (s.fresh).cores = s.cores := rfl
@[simp] theorem State.fresh_layers (s : State) : (s.fresh).layers = s.layers := rfl
@[simp] theorem State.fresh_mem (s : State) : (s.fresh).mem = s.mem := rfl
@[simp] theorem State.fresh_hostMem (s : State) : (s.fresh).hostMem = s.hostMem := rfl
@[simp] theorem State.fresh_firm (s : State) : (s.fresh).firm = s.firm := rfl
@[simp] theorem State.fresh_poison (s : State) : (s.fresh).poison = s.poison := rfl
@[simp] theorem State.fresh_homeSeq (s : State) : (s.fresh).homeSeq = s.homeSeq := rfl
@[simp] theorem State.fresh_stamps (s : State) : (s.fresh).stamps = s.stamps := rfl
@[simp] theorem State.fresh_hostStamps (s : State) : (s.fresh).hostStamps = s.hostStamps := rfl
@[simp] theorem State.fresh_claims (s : State) : (s.fresh).claims = s.claims := rfl
@[simp] theorem State.fresh_pkgs (s : State) : (s.fresh).pkgs = s.pkgs := rfl
@[simp] theorem State.fresh_left (s : State) : (s.fresh).left = s.left := rfl
@[simp] theorem State.fresh_ctx (s : State) : (s.fresh).ctx = s.ctx := rfl
@[simp] theorem State.fresh_ctxReg (s : State) : (s.fresh).ctxReg = s.ctxReg := rfl
@[simp] theorem State.fresh_ctxNew (s : State) : (s.fresh).ctxNew = s.ctxNew := rfl
@[simp] theorem State.fresh_ctxBad (s : State) : (s.fresh).ctxBad = s.ctxBad := rfl
@[simp] theorem State.fresh_queues (s : State) : (s.fresh).queues = s.queues := rfl
@[simp] theorem State.fresh_jobs (s : State) : (s.fresh).jobs = s.jobs := rfl
@[simp] theorem State.fresh_pend (s : State) : (s.fresh).pend = s.pend := rfl
@[simp] theorem State.fresh_served (s : State) : (s.fresh).served = s.served := rfl
@[simp] theorem State.fresh_saved (s : State) : (s.fresh).saved = s.saved := rfl
@[simp] theorem State.fresh_restored (s : State) : (s.fresh).restored = s.restored := rfl
@[simp] theorem State.fresh_binding (s : State) : (s.fresh).binding = s.binding := rfl
@[simp] theorem State.fresh_slotErr (s : State) : (s.fresh).slotErr = s.slotErr := rfl
@[simp] theorem State.fresh_xlt (s : State) : (s.fresh).xlt = s.xlt := rfl
@[simp] theorem State.fresh_hubTlb (s : State) : (s.fresh).hubTlb = s.hubTlb := rfl
@[simp] theorem State.fresh_mig (s : State) : (s.fresh).mig = s.mig := rfl
@[simp] theorem State.fresh_refused (s : State) : (s.fresh).refused = s.refused := rfl
@[simp] theorem State.fresh_fsplit (s : State) : (s.fresh).fsplit = s.fsplit := rfl
@[simp] theorem State.fresh_fr (s : State) : (s.fresh).fr = s.fr := rfl
@[simp] theorem State.fresh_flash (s : State) : (s.fresh).flash = s.flash := rfl
@[simp] theorem State.fresh_dlog (s : State) : (s.fresh).dlog = s.dlog := rfl
@[simp] theorem State.fresh_hub (s : State) : (s.fresh).hub = s.hub := rfl
@[simp] theorem State.fresh_pwrcfg (s : State) : (s.fresh).pwrcfg = s.pwrcfg := rfl
@[simp] theorem State.fresh_pch (s : State) : (s.fresh).pch = s.pch := rfl
@[simp] theorem State.fresh_pwr (s : State) : (s.fresh).pwr = s.pwr := rfl
@[simp] theorem State.fresh_svy (s : State) : (s.fresh).svy = s.svy := rfl
@[simp] theorem State.fresh_vxl (s : State) : (s.fresh).vxl = s.vxl := rfl
@[simp] theorem State.fresh_drift (s : State) : (s.fresh).drift = s.drift := rfl
@[simp] theorem State.fresh_errs (s : State) : (s.fresh).errs = s.errs := rfl
@[simp] theorem State.fresh_errNext (s : State) : (s.fresh).errNext = s.errNext := rfl
@[simp] theorem State.fresh_fatal (s : State) : (s.fresh).fatal = s.fatal := rfl
@[simp] theorem State.fresh_atomicOps (s : State) : (s.fresh).atomicOps = s.atomicOps := rfl
@[simp] theorem State.fresh_linkBad (s : State) : (s.fresh).linkBad = s.linkBad := rfl
@[simp] theorem State.fresh_past (s : State) : (s.fresh).past = s.past := rfl
@[simp] theorem State.fresh_cur (s : State) : (s.fresh).cur = s.cur := rfl
@[simp] theorem State.fresh_agenda (s : State) : (s.fresh).agenda = s.agenda := rfl
@[simp] theorem State.fresh_sched (s : State) : (s.fresh).sched = s.sched := rfl
@[simp] theorem State.fresh_tick (s : State) : (s.fresh).tick = s.tick := rfl

@[simp] theorem State.jump_units (s : State) (ip : Word) : (s.jump ip).units = s.units := rfl
@[simp] theorem State.jump_gone (s : State) (ip : Word) : (s.jump ip).gone = s.gone := rfl
@[simp] theorem State.jump_cores (s : State) (ip : Word) : (s.jump ip).cores = s.cores := rfl
@[simp] theorem State.jump_layers (s : State) (ip : Word) : (s.jump ip).layers = s.layers := rfl
@[simp] theorem State.jump_mem (s : State) (ip : Word) : (s.jump ip).mem = s.mem := rfl
@[simp] theorem State.jump_hostMem (s : State) (ip : Word) : (s.jump ip).hostMem = s.hostMem := rfl
@[simp] theorem State.jump_firm (s : State) (ip : Word) : (s.jump ip).firm = s.firm := rfl
@[simp] theorem State.jump_poison (s : State) (ip : Word) : (s.jump ip).poison = s.poison := rfl
@[simp] theorem State.jump_homeSeq (s : State) (ip : Word) : (s.jump ip).homeSeq = s.homeSeq := rfl
@[simp] theorem State.jump_stamps (s : State) (ip : Word) : (s.jump ip).stamps = s.stamps := rfl
@[simp] theorem State.jump_hostStamps (s : State) (ip : Word) : (s.jump ip).hostStamps = s.hostStamps := rfl
@[simp] theorem State.jump_claims (s : State) (ip : Word) : (s.jump ip).claims = s.claims := rfl
@[simp] theorem State.jump_pkgs (s : State) (ip : Word) : (s.jump ip).pkgs = s.pkgs := rfl
@[simp] theorem State.jump_left (s : State) (ip : Word) : (s.jump ip).left = s.left := rfl
@[simp] theorem State.jump_ctx (s : State) (ip : Word) : (s.jump ip).ctx = s.ctx := rfl
@[simp] theorem State.jump_ctxReg (s : State) (ip : Word) : (s.jump ip).ctxReg = s.ctxReg := rfl
@[simp] theorem State.jump_ctxNew (s : State) (ip : Word) : (s.jump ip).ctxNew = s.ctxNew := rfl
@[simp] theorem State.jump_ctxBad (s : State) (ip : Word) : (s.jump ip).ctxBad = s.ctxBad := rfl
@[simp] theorem State.jump_queues (s : State) (ip : Word) : (s.jump ip).queues = s.queues := rfl
@[simp] theorem State.jump_jobs (s : State) (ip : Word) : (s.jump ip).jobs = s.jobs := rfl
@[simp] theorem State.jump_pend (s : State) (ip : Word) : (s.jump ip).pend = s.pend := rfl
@[simp] theorem State.jump_served (s : State) (ip : Word) : (s.jump ip).served = s.served := rfl
@[simp] theorem State.jump_saved (s : State) (ip : Word) : (s.jump ip).saved = s.saved := rfl
@[simp] theorem State.jump_restored (s : State) (ip : Word) : (s.jump ip).restored = s.restored := rfl
@[simp] theorem State.jump_binding (s : State) (ip : Word) : (s.jump ip).binding = s.binding := rfl
@[simp] theorem State.jump_slotErr (s : State) (ip : Word) : (s.jump ip).slotErr = s.slotErr := rfl
@[simp] theorem State.jump_xlt (s : State) (ip : Word) : (s.jump ip).xlt = s.xlt := rfl
@[simp] theorem State.jump_hubTlb (s : State) (ip : Word) : (s.jump ip).hubTlb = s.hubTlb := rfl
@[simp] theorem State.jump_mig (s : State) (ip : Word) : (s.jump ip).mig = s.mig := rfl
@[simp] theorem State.jump_refused (s : State) (ip : Word) : (s.jump ip).refused = s.refused := rfl
@[simp] theorem State.jump_fsplit (s : State) (ip : Word) : (s.jump ip).fsplit = s.fsplit := rfl
@[simp] theorem State.jump_fr (s : State) (ip : Word) : (s.jump ip).fr = s.fr := rfl
@[simp] theorem State.jump_flash (s : State) (ip : Word) : (s.jump ip).flash = s.flash := rfl
@[simp] theorem State.jump_dlog (s : State) (ip : Word) : (s.jump ip).dlog = s.dlog := rfl
@[simp] theorem State.jump_hub (s : State) (ip : Word) : (s.jump ip).hub = s.hub := rfl
@[simp] theorem State.jump_pwrcfg (s : State) (ip : Word) : (s.jump ip).pwrcfg = s.pwrcfg := rfl
@[simp] theorem State.jump_pch (s : State) (ip : Word) : (s.jump ip).pch = s.pch := rfl
@[simp] theorem State.jump_pwr (s : State) (ip : Word) : (s.jump ip).pwr = s.pwr := rfl
@[simp] theorem State.jump_svy (s : State) (ip : Word) : (s.jump ip).svy = s.svy := rfl
@[simp] theorem State.jump_vxl (s : State) (ip : Word) : (s.jump ip).vxl = s.vxl := rfl
@[simp] theorem State.jump_drift (s : State) (ip : Word) : (s.jump ip).drift = s.drift := rfl
@[simp] theorem State.jump_errs (s : State) (ip : Word) : (s.jump ip).errs = s.errs := rfl
@[simp] theorem State.jump_errNext (s : State) (ip : Word) : (s.jump ip).errNext = s.errNext := rfl
@[simp] theorem State.jump_fatal (s : State) (ip : Word) : (s.jump ip).fatal = s.fatal := rfl
@[simp] theorem State.jump_atomicOps (s : State) (ip : Word) : (s.jump ip).atomicOps = s.atomicOps := rfl
@[simp] theorem State.jump_linkBad (s : State) (ip : Word) : (s.jump ip).linkBad = s.linkBad := rfl
@[simp] theorem State.jump_past (s : State) (ip : Word) : (s.jump ip).past = s.past := rfl
@[simp] theorem State.jump_agenda (s : State) (ip : Word) : (s.jump ip).agenda = s.agenda := rfl
@[simp] theorem State.jump_sched (s : State) (ip : Word) : (s.jump ip).sched = s.sched := rfl
@[simp] theorem State.jump_tick (s : State) (ip : Word) : (s.jump ip).tick = s.tick := rfl
@[simp] theorem State.jump_nextId (s : State) (ip : Word) : (s.jump ip).nextId = s.nextId := rfl

@[simp] theorem State.fresh_nextId (s : State) : s.fresh.nextId = s.nextId + 1 := rfl

@[simp] theorem State.answered_units (s : State) (v : Verdict) : (s.answered v).units = s.units := rfl
@[simp] theorem State.answered_gone (s : State) (v : Verdict) : (s.answered v).gone = s.gone := rfl
@[simp] theorem State.answered_cores (s : State) (v : Verdict) : (s.answered v).cores = s.cores := rfl
@[simp] theorem State.answered_layers (s : State) (v : Verdict) : (s.answered v).layers = s.layers := rfl
@[simp] theorem State.answered_mem (s : State) (v : Verdict) : (s.answered v).mem = s.mem := rfl
@[simp] theorem State.answered_hostMem (s : State) (v : Verdict) : (s.answered v).hostMem = s.hostMem := rfl
@[simp] theorem State.answered_firm (s : State) (v : Verdict) : (s.answered v).firm = s.firm := rfl
@[simp] theorem State.answered_poison (s : State) (v : Verdict) : (s.answered v).poison = s.poison := rfl
@[simp] theorem State.answered_homeSeq (s : State) (v : Verdict) : (s.answered v).homeSeq = s.homeSeq := rfl
@[simp] theorem State.answered_stamps (s : State) (v : Verdict) : (s.answered v).stamps = s.stamps := rfl
@[simp] theorem State.answered_hostStamps (s : State) (v : Verdict) : (s.answered v).hostStamps = s.hostStamps := rfl
@[simp] theorem State.answered_claims (s : State) (v : Verdict) : (s.answered v).claims = s.claims := rfl
@[simp] theorem State.answered_pkgs (s : State) (v : Verdict) : (s.answered v).pkgs = s.pkgs := rfl
@[simp] theorem State.answered_left (s : State) (v : Verdict) : (s.answered v).left = s.left := rfl
@[simp] theorem State.answered_ctx (s : State) (v : Verdict) : (s.answered v).ctx = s.ctx := rfl
@[simp] theorem State.answered_ctxReg (s : State) (v : Verdict) : (s.answered v).ctxReg = s.ctxReg := rfl
@[simp] theorem State.answered_ctxNew (s : State) (v : Verdict) : (s.answered v).ctxNew = s.ctxNew := rfl
@[simp] theorem State.answered_ctxBad (s : State) (v : Verdict) : (s.answered v).ctxBad = s.ctxBad := rfl
@[simp] theorem State.answered_queues (s : State) (v : Verdict) : (s.answered v).queues = s.queues := rfl
@[simp] theorem State.answered_jobs (s : State) (v : Verdict) : (s.answered v).jobs = s.jobs := rfl
@[simp] theorem State.answered_pend (s : State) (v : Verdict) : (s.answered v).pend = s.pend := rfl
@[simp] theorem State.answered_served (s : State) (v : Verdict) : (s.answered v).served = s.served := rfl
@[simp] theorem State.answered_saved (s : State) (v : Verdict) : (s.answered v).saved = s.saved := rfl
@[simp] theorem State.answered_restored (s : State) (v : Verdict) : (s.answered v).restored = s.restored := rfl
@[simp] theorem State.answered_binding (s : State) (v : Verdict) : (s.answered v).binding = s.binding := rfl
@[simp] theorem State.answered_slotErr (s : State) (v : Verdict) : (s.answered v).slotErr = s.slotErr := rfl
@[simp] theorem State.answered_xlt (s : State) (v : Verdict) : (s.answered v).xlt = s.xlt := rfl
@[simp] theorem State.answered_hubTlb (s : State) (v : Verdict) : (s.answered v).hubTlb = s.hubTlb := rfl
@[simp] theorem State.answered_mig (s : State) (v : Verdict) : (s.answered v).mig = s.mig := rfl
@[simp] theorem State.answered_refused (s : State) (v : Verdict) : (s.answered v).refused = s.refused := rfl
@[simp] theorem State.answered_fsplit (s : State) (v : Verdict) : (s.answered v).fsplit = s.fsplit := rfl
@[simp] theorem State.answered_fr (s : State) (v : Verdict) : (s.answered v).fr = s.fr := rfl
@[simp] theorem State.answered_flash (s : State) (v : Verdict) : (s.answered v).flash = s.flash := rfl
@[simp] theorem State.answered_dlog (s : State) (v : Verdict) : (s.answered v).dlog = s.dlog := rfl
@[simp] theorem State.answered_hub (s : State) (v : Verdict) : (s.answered v).hub = s.hub := rfl
@[simp] theorem State.answered_pwrcfg (s : State) (v : Verdict) : (s.answered v).pwrcfg = s.pwrcfg := rfl
@[simp] theorem State.answered_pch (s : State) (v : Verdict) : (s.answered v).pch = s.pch := rfl
@[simp] theorem State.answered_pwr (s : State) (v : Verdict) : (s.answered v).pwr = s.pwr := rfl
@[simp] theorem State.answered_svy (s : State) (v : Verdict) : (s.answered v).svy = s.svy := rfl
@[simp] theorem State.answered_vxl (s : State) (v : Verdict) : (s.answered v).vxl = s.vxl := rfl
@[simp] theorem State.answered_drift (s : State) (v : Verdict) : (s.answered v).drift = s.drift := rfl
@[simp] theorem State.answered_errs (s : State) (v : Verdict) : (s.answered v).errs = s.errs := rfl
@[simp] theorem State.answered_errNext (s : State) (v : Verdict) : (s.answered v).errNext = s.errNext := rfl
@[simp] theorem State.answered_fatal (s : State) (v : Verdict) : (s.answered v).fatal = s.fatal := rfl
@[simp] theorem State.answered_atomicOps (s : State) (v : Verdict) : (s.answered v).atomicOps = s.atomicOps := rfl
@[simp] theorem State.answered_linkBad (s : State) (v : Verdict) : (s.answered v).linkBad = s.linkBad := rfl
@[simp] theorem State.answered_past (s : State) (v : Verdict) : (s.answered v).past = s.past := rfl
@[simp] theorem State.answered_agenda (s : State) (v : Verdict) : (s.answered v).agenda = s.agenda := rfl
@[simp] theorem State.answered_sched (s : State) (v : Verdict) : (s.answered v).sched = s.sched := rfl
@[simp] theorem State.answered_tick (s : State) (v : Verdict) : (s.answered v).tick = s.tick := rfl
@[simp] theorem State.answered_nextId (s : State) (v : Verdict) : (s.answered v).nextId = s.nextId := rfl

end Sys2Proof.Machine
end

