-- ==== Sys2Proof/Laws/Matrix.lean ====
section
/-! SUPPORT. The matrix array: the residues of a triple, and what the updates of planes and tiles leave. -/

namespace Sys2Proof.Machine

/-- R95, R96: the residues of a triple packed from residues below their moduli. -/
theorem residues_packRT {a b c : Nat} (ha : a < 511) (hb : b < 512) (hc : c < 513) : residues (packRT a b c) = (a, b, c) := by
  have : c * 2 ^ 18 + b * 2 ^ 9 + a < 2 ^ 28 := by omega
  simp only [residues, packRT, BitVec.toNat_ofNat, Nat.mod_eq_of_lt this]
  ext <;> simp <;> omega

/-- R97: the residues of the triple of an integer. -/
theorem residues_toRT (x : Int) : residues (toRT x) = ((x % 511).toNat, (x % 512).toNat, (x % 513).toNat) := by
  apply residues_packRT <;> omega

@[simp] theorem Matrix.sel_setTile (m : Matrix) (k : Nat) (t : Tile) : (m.setTile k t).sel = m.sel := rfl
@[simp] theorem Matrix.active_setTile (m : Matrix) (k : Nat) (t : Tile) : (m.setTile k t).active = m.active := rfl
@[simp] theorem Matrix.shadow_setTile (m : Matrix) (k : Nat) (t : Tile) : (m.setTile k t).shadow = m.shadow := rfl
@[simp] theorem Matrix.sel_setShadow (m : Matrix) (p : Plane) : (m.setShadow p).sel = m.sel := by unfold Matrix.setShadow; split <;> rfl
@[simp] theorem Matrix.tiles_setShadow (m : Matrix) (p : Plane) : (m.setShadow p).tiles = m.tiles := by unfold Matrix.setShadow; split <;> rfl
@[simp] theorem Matrix.active_setShadow (m : Matrix) (p : Plane) : (m.setShadow p).active = m.active := by cases h : m.sel <;> simp [Matrix.active, Matrix.setShadow, h]
@[simp] theorem Matrix.shadow_setShadow (m : Matrix) (p : Plane) : (m.setShadow p).shadow = p := by cases h : m.sel <;> simp [Matrix.shadow, Matrix.setShadow, h]

end Sys2Proof.Machine
end

