-- ==== Sys2Proof/Laws/Ops.lean ====
section
/-! SUPPORT. What the shared operations do: units and gangs that are there, the issue of a word, the checks, the vector words. -/

namespace Sys2Proof.Machine

/-! ### Units and gangs -/

theorem State.modUnit_eq {s : State} {u : Nat} {x : Unit} (f : Unit → Unit) (h : s.unit? u = some x) :
    s.modUnit u f = { s with units := mput s.units u (f x) } := by
  simp only [State.modUnit, mmodify_of_some _ f h]

theorem State.modGang_eq {s : State} {u g : Nat} {x : Unit} {y : Gang} (f : Gang → Gang) (hu : s.unit? u = some x) (hg : mfind x.gangs g = some y) :
    s.modGang u g f = { s with units := mput s.units u { x with gangs := mput x.gangs g (f y) } } := by
  simp only [State.modGang, State.modUnit_eq _ hu, mmodify_of_some _ f hg]

theorem State.modLead_eq {s : State} {u : Nat} {x : Unit} (f : Lead → Lead) (h : s.unit? u = some x) :
    s.modLead u f = { s with units := mput s.units u { x with lead := f x.lead } } := State.modUnit_eq _ h

theorem State.gang?_eq {s : State} {u g : Nat} {x : Unit} {y : Gang} (hu : s.unit? u = some x) (hg : mfind x.gangs g = some y) : s.gang? u g = some y := by
  simp [State.gang?, hu, hg]

theorem State.withGang_unit {s : State} {u g : Nat} {x : Unit} {z : Gang} {fl : FpFlags} :
    (s.withGang u g x z fl).unit? u = some { x with gangs := mput x.gangs g z } := mfind_mput_self _ _ _

theorem State.withUnit_unit {s : State} {u : Nat} {x : Unit} : (s.withUnit u x).unit? u = some x := mfind_mput_self _ _ _

theorem State.withGang_modGang {s : State} {u g : Nat} {x : Unit} {z : Gang} {fl : FpFlags} (f : Gang → Gang) :
    (s.withGang u g x z fl).modGang u g f = s.withGang u g x (f z) fl := by
  rw [State.modGang_eq f State.withGang_unit (mfind_mput_self _ _ _)]
  simp [State.withGang]

/-! ### A word of a split -/

namespace State.AtSplit

variable {s : State} {u g e : Nat} {x : Unit} {y : Gang}

theorem gang? (h : s.AtSplit u g e x y) : s.gang? u g = some y := State.gang?_eq h.unit h.gang

theorem live (h : s.AtSplit u g e x y) : s.live = true := by simp [State.live, h.stream, h.gang?]

theorem here (h : s.AtSplit u g e x y) : s.here = some (u, x) := by simp [State.here, h.stream, Stream.unit, h.unit]

theorem hereGang (h : s.AtSplit u g e x y) : s.hereGang = some y := by simp [State.hereGang, h.stream, h.gang?]

theorem X (h : s.AtSplit u g e x y) (n : Nat) : s.X n = y.S n := by simp [State.X, h.stream, h.gang?]

/-- The same word once its checks have passed. -/
theorem ok (h : s.AtSplit u g e x y) : (s.answered .ok).AtSplit u g e x y :=
  ⟨h.stream, h.unit, h.gang, h.lanes, h.some_lane, h.first⟩

theorem gangWord (h : s.AtSplit u g e x y) {vs ss : List Nat} (hv : ∀ n ∈ vs, n < x.kte.vregs) (hs : ∀ n ∈ ss, n < x.kte.sregs) :
    s.gangWord vs ss = .ok := by
  have h1 : (vs.all (· < x.kte.vregs) && ss.all (· < x.kte.sregs)) = true := by simpa [List.all_eq_true] using ⟨hv, hs⟩
  simp only [State.gangWord, h.stream, h.here, need, h1, if_true]

theorem scalarWord (h : s.AtSplit u g e x y) {xs : List Nat} (hs : ∀ n ∈ xs, n < x.kte.sregs) : s.scalarWord xs = .ok := by
  have h1 : xs.all (· < x.kte.sregs) = true := by simpa [List.all_eq_true] using hs
  simp only [State.scalarWord, h.stream, h.here, need, h1, if_true]

theorem permuteFree (h : s.AtSplit u g e x y) {dst : List Nat} (hp : y.NoPermute s.cur.mask dst) : s.permuteFree dst = .ok := by
  simp only [State.permuteFree, h.hereGang, need]
  rw [if_pos]
  rw [List.all_eq_true]
  intro o ho
  rcases hp o ho with h0 | h1
  · simp [h0]
  · simp only [Bool.or_eq_true, List.all_eq_true]
    right
    intro r hr
    simpa using h1 r hr

theorem needGood (h : s.AtSplit u g e x y) {rs : List Nat} (hg : ∀ n ∈ rs, y.Good s.cur.mask n) : s.needGood rs = .ok := by
  have hnil : ((lanesOf s.cur.mask).filter fun l => rs.any fun r => y.badRegs.contains (64 * r + l)) = [] := by
    rw [List.filter_eq_nil_iff]
    intro l hl
    have hl' : s.cur.mask.getLsbD l = true := (List.mem_filter.1 hl).2
    simpa using fun n hn => hg n hn l hl'
  simp only [State.needGood, h.hereGang]
  rw [hnil]

theorem tagsOk (h : s.AtSplit u g e x y) {srcs : List (Nat × List Tag)} (ht : ∀ p ∈ srcs, ∀ l, s.cur.mask.getLsbD l = true → y.tag p.1 l = .raw ∨ y.tag p.1 l ∈ p.2) :
    s.tagsOk srcs = .ok := by
  have hnil : ((lanesOf s.cur.mask).filter fun l => srcs.any fun p => let t := y.tag p.1 l; t != .raw && !p.2.contains t) = [] := by
    rw [List.filter_eq_nil_iff]
    intro l hl
    have hl' : s.cur.mask.getLsbD l = true := (List.mem_filter.1 hl).2
    simp only [List.any_eq_true, not_exists]
    rintro p ⟨hp, hc⟩
    rcases ht p hp l hl' with h1 | h2
    · simp [h1] at hc
    · simp at hc
      exact hc.2 h2
  simp only [State.tagsOk, h.hereGang]
  simp only at hnil
  rw [hnil]

theorem needTags (h : s.AtSplit u g e x y) {srcs : List (Nat × List Tag)} (ht : ∀ p ∈ srcs, y.Tagged s.cur.mask p.1 p.2) : s.needTags srcs = .ok := by
  rw [State.needTags, h.tagsOk fun p hp => (ht p hp).1, h.needGood]
  · rfl
  · intro n hn
    obtain ⟨p, hp, hm⟩ := List.mem_flatMap.1 hn
    obtain ⟨-, h1, h2⟩ := ht p hp
    unfold sourceRegs at hm
    split at hm
    · rename_i hf
      rcases List.mem_cons.1 hm with rfl | hm
      · exact h1
      · rw [List.mem_singleton.1 hm]
        exact h2 hf
    · rw [List.mem_singleton.1 hm]
      exact h1

end State.AtSplit

/-- A split's effects one after another on its entry. -/
theorem Gang.entry_setEntry_self (y : Gang) (e : Nat) {p : Split} (h : p.mask ≠ 0) : (y.setEntry e p).entry e = p := by
  simp only [Gang.setEntry, Gang.entry, if_neg h, mget, mfind_mput_self, Option.getD_some]

theorem Gang.entry_setEntry_other (y : Gang) {e k : Nat} (p : Split) (h : k ≠ e) : (y.setEntry e p).entry k = y.entry k := by
  by_cases hp : p.mask = 0
  · simp only [Gang.setEntry, Gang.entry, if_pos hp, mget, mfind_merase_other _ h]
  · simp only [Gang.setEntry, Gang.entry, if_neg hp, mget, mfind_mput_other _ _ h]

theorem Split.awake_mask (p : Split) : p.awake.mask = p.mask := rfl

/-- An issued word whose effect is on the gang alone. -/
theorem State.AtSplit.issue {s : State} {u g e : Nat} {x : Unit} {y y' : Gang} {v : Verdict} {eff : DWord → State → State} {w : State → State} {fl : FpFlags}
    (h : s.AtSplit u g e x y) (hv : v = .ok)
    (he : eff s.cur.mask (s.answered .ok) = s.withGang u g x y' fl) :
    s.issue v eff w = .next (s.withGang u g x (y'.modEntry e (·.moved s.cur)) fl) := by
  subst hv
  have hs : (s.withGang u g x y' fl).cur.stream = .split u g e := h.stream
  simp only [State.issue, State.issueTo, h.live, h.first, Bool.not_true, Bool.false_eq_true, if_false]
  rw [he, State.advance, hs]
  simp only [State.withGang_modGang]
  rfl

/-- A gang whose registers alone have changed moves on. -/
theorem GangMoved.regs {s : State} {u g e : Nat} {x : Unit} {y : Gang} (h : s.AtSplit u g e x y) (r : GangRegs) :
    GangMoved s e y (({ y with regs := r } : Gang).modEntry e (·.moved s.cur)) := by
  have he : ({ y with regs := r } : Gang).entry e = y.entry e := rfl
  have hm : ((y.entry e).moved s.cur).mask ≠ 0 := h.some_lane
  refine ⟨?_, ?_, ?_⟩
  · simp only [Gang.modEntry, Gang.setEntry]
  · simp only [Gang.modEntry, he]
    rw [Gang.entry_setEntry_self _ _ hm]
    simp [Split.moved]
    rfl
  · intro k hk
    rw [Gang.modEntry, Gang.entry_setEntry_other _ _ hk]
    rfl

/-- An issued word whose effect is on the registers of its gang alone. -/
theorem State.AtSplit.done {s : State} {u g e : Nat} {x : Unit} {y : Gang} {i : Instr} {v : Verdict} {eff : DWord → State → State} {w : State → State}
    {r : GangRegs} (h : s.AtSplit u g e x y) (hi : exec i s = s.issue v eff w) (hv : v = .ok)
    (he : eff s.cur.mask (s.answered .ok) = (s.answered .ok).modGang u g fun y => { y with regs := r }) : SplitDone i s u g e x y r := by
  refine ⟨({ y with regs := r } : Gang).modEntry e (·.moved s.cur), ?_, GangMoved.regs h r, rfl⟩
  rw [hi]
  refine h.issue hv (fl := 0) ?_
  rw [he, State.modGang_eq _ h.ok.unit h.gang]
  simp [State.withGang, State.answered]

theorem State.AtSplit.modHere {s : State} {u g e : Nat} {x : Unit} {y : Gang} (h : s.AtSplit u g e x y) (f : Gang → Gang) : s.modHere f = s.modGang u g f := by
  simp only [State.modHere, h.stream]

/-- Two updates of a gang that agree on what it is now. -/
theorem State.AtSplit.modGang_congr {s : State} {u g e : Nat} {x : Unit} {y : Gang} (h : s.AtSplit u g e x y) {f k : Gang → Gang} (hf : f y = k y) :
    s.modGang u g f = s.modGang u g k := by
  rw [State.modGang_eq _ h.unit h.gang, State.modGang_eq _ h.unit h.gang, hf]

/-- A word that writes one scalar register of a gang. -/
theorem State.AtSplit.setX_done {s : State} {u g e : Nat} {x : Unit} {y : Gang} {i : Instr} {v : Verdict} {w : State → State} {n : Nat} {val : DWord}
    (h : s.AtSplit u g e x y) (hi : exec i s = s.issue v (fun _ t => t.setX n val) w) (hv : v = .ok) :
    SplitDone i s u g e x y { y.regs with s := mset 0 y.regs.s n val } := by
  refine h.done hi hv ?_
  simp only [State.setX, h.ok.stream]
  exact h.ok.modGang_congr rfl

/-! ### A word of a lead -/

namespace State.AtLead

variable {s : State} {u : Nat} {x : Unit}

theorem live (h : s.AtLead u x) : s.live = true := by simp [State.live, h.stream, h.unit]

theorem here (h : s.AtLead u x) : s.here = some (u, x) := by simp [State.here, h.stream, Stream.unit, h.unit]

theorem X (h : s.AtLead u x) (n : Nat) : s.X n = x.lead.H n := by simp [State.X, h.stream, h.unit]

theorem scalarWord (h : s.AtLead u x) {xs : List Nat} (hs : ∀ n ∈ xs, n < 32) : s.scalarWord xs = .ok := by
  have h1 : xs.all (· < 32) = true := by simpa [List.all_eq_true] using hs
  simp only [State.scalarWord, h.stream, h.here, need, h1, if_true]

theorem leadWord (h : s.AtLead u x) {xs : List Nat} (hs : ∀ n ∈ xs, n < 32) : s.leadWord xs = .ok := by
  have h1 : xs.all (· < 32) = true := by simpa [List.all_eq_true] using hs
  simp only [State.leadWord, h.stream, need, h1, if_true]

/-- An issued word whose effect is on the unit alone. -/
theorem issue {x' : Unit} {v : Verdict} {eff : DWord → State → State} {w : State → State} (h : s.AtLead u x) (hv : v = .ok)
    (he : eff s.cur.mask (s.answered .ok) = s.withUnit u x') :
    s.issue v eff w = .next (s.withUnit u { x' with lead := x'.lead.moved s.cur }) := by
  subst hv
  have hs : (s.withUnit u x').cur.stream = .lead u := h.stream
  simp only [State.issue, State.issueTo, h.live, h.first, Bool.not_true, Bool.false_eq_true, if_false]
  rw [he, State.advance, hs]
  simp only [State.modLead_eq _ State.withUnit_unit]
  simp [State.withUnit, Lead.moved]

/-- A word that writes one register of the lead. -/
theorem setX_done {i : Instr} {v : Verdict} {w : State → State} {n : Nat} {val : DWord}
    (h : s.AtLead u x) (hi : exec i s = s.issue v (fun _ t => t.setX n val) w) (hv : v = .ok) : LeadDone i s u x (x.lead.setH n val) := by
  rw [LeadDone, hi]
  refine h.issue (x' := { x with lead := x.lead.setH n val }) hv ?_
  have hs : (s.answered .ok).cur.stream = .lead u := h.stream
  simp only [State.setX, hs]
  rw [State.modLead_eq (s := s.answered .ok) _ h.unit]
  rfl

end State.AtLead

/-! ### What issuing a word answers -/

namespace State

variable {s : State} {v : Verdict} {eff : DWord → State → State} {w : State → State}

theorem issueTo_ok (hl : s.live = true) (hc : s.cur.commit = false) : s.issueTo .ok eff w = .next (eff s.cur.mask (s.answered .ok)) := by
  simp [State.issueTo, hl, hc]

theorem issueTo_trap (hl : s.live = true) (hc : s.cur.commit = false) (fs : List LaneFault) :
    s.issueTo (.trap fs) eff w = .next ((s.answered (.trap fs)).takeTrap fs) := by
  simp [State.issueTo, hl, hc]

theorem issueTo_wait (hl : s.live = true) (hc : s.cur.commit = false) : s.issueTo .wait eff w = .next (w (s.answered .wait)).blocked := by
  simp [State.issueTo, hl, hc]

theorem issueTo_hold (hl : s.live = true) (hc : s.cur.commit = false) : s.issueTo .hold eff w = .next (w (s.answered .hold)).interlocked := by
  simp [State.issueTo, hl, hc]

/-- A word whose checks have been made takes its effect. -/
theorem issueTo_commit (hl : s.live = true) (hc : s.cur.commit = true) : s.issueTo v eff w = .next (eff s.cur.mask s) := by
  simp [State.issueTo, hl, hc]

theorem answered_answered (v k : Verdict) : (s.answered v).answered k = s.answered k := rfl

theorem blocked_answered (v : Verdict) : (s.answered v).blocked = s.blocked := rfl

/-- Issue always goes on. -/
theorem issueTo_next (hl : s.live = true) : ∃ t, s.issueTo v eff w = .next t := by
  by_cases hc : s.cur.commit = true
  · rw [issueTo_commit hl hc]
    exact ⟨_, rfl⟩
  · have hc : s.cur.commit = false := by simpa using hc
    cases v with
    | ok => exact ⟨_, issueTo_ok hl hc⟩
    | wait => exact ⟨_, issueTo_wait hl hc⟩
    | hold => exact ⟨_, issueTo_hold hl hc⟩
    | trap fs => exact ⟨_, issueTo_trap hl hc fs⟩
    | part fs =>
      simp only [State.issueTo, hl, hc, Bool.not_true, Bool.false_eq_true, if_false]
      repeat' split
      all_goals exact ⟨_, rfl⟩

theorem issue_next (hl : s.live = true) : ∃ t, s.issue v eff w = .next t := issueTo_next hl

end State

theorem Verdict.ok_andThen (v : Verdict) : Verdict.ok.andThen v = v := rfl

theorem Verdict.trap_andThen (fs : List LaneFault) (v : Verdict) : (Verdict.trap fs).andThen v = .trap fs := rfl

theorem need_true (v : Verdict) : need true v = .ok := rfl

theorem need_false (v : Verdict) : need false v = v := rfl

theorem State.AtSplit.allLanes {s : State} {u g e : Nat} {x : Unit} {y : Gang} (h : s.AtSplit u g e x y) (c : TrapCode) (a : DWord) :
    s.allLanes c a = (lanesOf s.cur.mask).map fun l => ⟨l, c, a⟩ := by
  simp only [State.allLanes, h.stream]

theorem State.AtLead.allLanes {s : State} {u : Nat} {x : Unit} (h : s.AtLead u x) (c : TrapCode) (a : DWord) : s.allLanes c a = [⟨0, c, a⟩] := by
  simp only [State.allLanes, h.stream]

/-- A word of a split that traps. -/
theorem State.AtSplit.traps {s : State} {u g e : Nat} {x : Unit} {y : Gang} {i : Instr} {v : Verdict} {eff : DWord → State → State} {w : State → State}
    {fs : List LaneFault} (h : s.AtSplit u g e x y) (hi : exec i s = s.issueTo v eff w) (hv : v = .trap fs) : Traps i s fs := by
  rw [Traps, hi, hv, State.issueTo_trap h.live h.first]

/-- A word of the lead that traps. -/
theorem State.AtLead.traps {s : State} {u : Nat} {x : Unit} {i : Instr} {v : Verdict} {eff : DWord → State → State} {w : State → State}
    {fs : List LaneFault} (h : s.AtLead u x) (hi : exec i s = s.issueTo v eff w) (hv : v = .trap fs) : Traps i s fs := by
  rw [Traps, hi, hv, State.issueTo_trap h.live h.first]

/-- A word of a split that waits, setting nothing going. -/
theorem State.AtSplit.waits {s : State} {u g e : Nat} {x : Unit} {y : Gang} {i : Instr} {v : Verdict} {eff : DWord → State → State}
    (h : s.AtSplit u g e x y) (hi : exec i s = s.issueTo v eff id) (hv : v = .wait) : Waits i s := by
  rw [Waits, hi, hv, State.issueTo_wait h.live h.first]
  rfl

/-- A word of the lead that waits, setting nothing going. -/
theorem State.AtLead.waits {s : State} {u : Nat} {x : Unit} {i : Instr} {v : Verdict} {eff : DWord → State → State}
    (h : s.AtLead u x) (hi : exec i s = s.issueTo v eff id) (hv : v = .wait) : Waits i s := by
  rw [Waits, hi, hv, State.issueTo_wait h.live h.first]
  rfl

/-- A word of the lead stream in a split, a word of the gang stream in the lead: undefined. -/
theorem State.AtSplit.leadWord {s : State} {u g e : Nat} {x : Unit} {y : Gang} (h : s.AtSplit u g e x y) (hs : List Nat) : s.leadWord hs = s.undefined := by
  simp only [State.leadWord, h.stream]

theorem State.AtLead.gangWord {s : State} {u : Nat} {x : Unit} (h : s.AtLead u x) (vs ss : List Nat) : s.gangWord vs ss = s.undefined := by
  simp only [State.gangWord, h.stream]

/-- A word of a split that goes to word 0 of a packet. -/
theorem State.AtSplit.jumps {s : State} {u g e : Nat} {x : Unit} {y : Gang} {i : Instr} {v : Verdict} {eff : DWord → State → State} {w : State → State}
    {ip : Word} {r : GangRegs} (h : s.AtSplit u g e x y) (hi : exec i s = s.issue v eff w) (hv : v = .ok)
    (he : eff s.cur.mask (s.answered .ok) = ((s.answered .ok).modGang u g fun y => { y with regs := r }).jump ip) : SplitJumps i s u g e x y ip r := by
  have hj : (s.jump ip).AtSplit u g e x y := ⟨h.stream, h.unit, h.gang, h.lanes, h.some_lane, h.first⟩
  refine ⟨_, ?_, GangMoved.regs hj r, rfl⟩
  rw [hi, State.issue, hv, State.issueTo_ok h.live h.first, he, State.modGang_eq _ h.ok.unit h.gang]
  have e1 : (({ s.answered .ok with units := mput (s.answered .ok).units u { x with gangs := mput x.gangs g { y with regs := r } } } : State).jump ip) =
      (s.jump ip).withGang u g x { y with regs := r } := by simp [State.withGang, State.answered, State.jump]
  rw [e1]
  have e2 : ((s.jump ip).withGang u g x { y with regs := r }).cur.stream = .split u g e := h.stream
  simp only [State.advance, e2, State.withGang_modGang]
  rfl

/-- A word of the lead that goes to word 0 of a packet. -/
theorem State.AtLead.jumps {s : State} {u : Nat} {x : Unit} {i : Instr} {v : Verdict} {eff : DWord → State → State} {w : State → State}
    {ip : Word} {l : Lead} (h : s.AtLead u x) (hi : exec i s = s.issue v eff w) (hv : v = .ok)
    (he : eff s.cur.mask (s.answered .ok) = (s.withUnit u { x with lead := l }).jump ip) : LeadJumps i s u x ip l := by
  rw [LeadJumps, hi, State.issue, hv, State.issueTo_ok h.live h.first, he]
  have e2 : ((s.withUnit u { x with lead := l }).jump ip).cur.stream = .lead u := h.stream
  have hu : ((s.withUnit u { x with lead := l }).jump ip).unit? u = some { x with lead := l } := State.withUnit_unit
  rw [State.advance, e2]
  simp only [State.modLead_eq _ hu]
  simp [State.withUnit, State.jump, Lead.moved]

/-- A word of a split that moves on and does nothing else. -/
theorem State.AtSplit.pass {s : State} {u g e : Nat} {x : Unit} {y : Gang} {i : Instr} {v : Verdict} {eff : DWord → State → State} {w : State → State}
    (h : s.AtSplit u g e x y) (hi : exec i s = s.issue v eff w) (hv : v = .ok) (he : eff s.cur.mask (s.answered .ok) = s.answered .ok) :
    SplitDone i s u g e x y y.regs := by
  refine ⟨_, ?_, GangMoved.regs h y.regs, rfl⟩
  rw [hi, State.issue, hv, State.issueTo_ok h.live h.first, he]
  simp only [State.advance, h.ok.stream]
  rw [State.modGang_eq _ h.ok.unit h.gang]
  simp [State.withGang, State.answered]
  rfl

/-- A word of a split that goes to word 0 of a packet and does nothing else. -/
theorem State.AtSplit.passJumps {s : State} {u g e : Nat} {x : Unit} {y : Gang} {i : Instr} {v : Verdict} {eff : DWord → State → State} {w : State → State}
    {ip : Word} (h : s.AtSplit u g e x y) (hi : exec i s = s.issue v eff w) (hv : v = .ok)
    (he : eff s.cur.mask (s.answered .ok) = (s.answered .ok).jump ip) : SplitJumps i s u g e x y ip y.regs := by
  have hj : ((s.answered .ok).jump ip).AtSplit u g e x y := ⟨h.stream, h.unit, h.gang, h.lanes, h.some_lane, h.first⟩
  have hj' : (s.jump ip).AtSplit u g e x y := ⟨h.stream, h.unit, h.gang, h.lanes, h.some_lane, h.first⟩
  refine ⟨_, ?_, GangMoved.regs hj' y.regs, rfl⟩
  rw [hi, State.issue, hv, State.issueTo_ok h.live h.first, he]
  simp only [State.advance, hj.stream]
  rw [State.modGang_eq _ hj.unit h.gang]
  simp [State.withGang, State.answered, State.jump]
  rfl

/-- A word of the lead that moves on and does nothing else. -/
theorem State.AtLead.pass {s : State} {u : Nat} {x : Unit} {i : Instr} {v : Verdict} {eff : DWord → State → State} {w : State → State}
    (h : s.AtLead u x) (hi : exec i s = s.issue v eff w) (hv : v = .ok) (he : eff s.cur.mask (s.answered .ok) = s.answered .ok) :
    LeadDone i s u x x.lead := by
  have hs : (s.answered .ok).cur.stream = .lead u := h.stream
  rw [LeadDone, hi, State.issue, hv, State.issueTo_ok h.live h.first, he]
  simp only [State.advance, hs]
  rw [State.modLead_eq (s := s.answered .ok) _ h.unit]
  simp [State.withUnit, State.answered, Lead.moved]

/-- A word of the lead that goes to word 0 of a packet and does nothing else. -/
theorem State.AtLead.passJumps {s : State} {u : Nat} {x : Unit} {i : Instr} {v : Verdict} {eff : DWord → State → State} {w : State → State}
    {ip : Word} (h : s.AtLead u x) (hi : exec i s = s.issue v eff w) (hv : v = .ok)
    (he : eff s.cur.mask (s.answered .ok) = (s.answered .ok).jump ip) : LeadJumps i s u x ip x.lead := by
  have hs : ((s.answered .ok).jump ip).cur.stream = .lead u := h.stream
  rw [LeadJumps, hi, State.issue, hv, State.issueTo_ok h.live h.first, he]
  simp only [State.advance, hs]
  rw [State.modLead_eq (s := (s.answered .ok).jump ip) _ h.unit]
  simp [State.withUnit, State.answered, State.jump, Lead.moved]

end Sys2Proof.Machine
end

