-- ==== Sys2Proof/Laws/Past.lean ====
section
/-! SUPPORT. What the record of overwritten values leaves alone: a read of bytes that no unseen write touched returns what they hold. -/

namespace Sys2Proof.Machine

theorem State.unseen_nil {s : State} {r : Reader} {sp a n : Nat} (h : s.pasts r sp a n = []) : s.unseen r sp a n = [] := by simp [State.unseen, h]

theorem State.pasts_nil {s : State} (h : s.past = []) (r : Reader) (sp a n : Nat) : s.pasts r sp a n = [] := by simp [State.pasts, h]

@[simp] theorem Past.see_id (p : Past) (t : Sight) : (p.see t).id = p.id := by unfold Past.see; split <;> rfl
@[simp] theorem Past.see_bytes (p : Past) (t : Sight) : (p.see t).bytes = p.bytes := by unfold Past.see; split <;> rfl
@[simp] theorem Past.see_space (p : Past) (t : Sight) : (p.see t).space = p.space := by unfold Past.see; split <;> rfl

/-- R258, R266: a write some reads have seen is not open to a later read of their path and unit, unless the read fetched ahead of it. -/
theorem Past.see_closed {p : Past} {t : Sight} {r : Reader} (hp : t.path = r.path) (hu : t.unit = none ∨ t.unit = some r.unit) (hi : t.id ≤ r.id) (hs : ∀ k ∈ r.since, p.id < k) : (p.see t).open r = false := by
  have late : (r.since.any fun n => decide (n ≤ p.id)) = false := by
    rw [Option.any_eq_false]
    intro n hn
    have := hs n hn
    simpa using this
  have cov : (p.see t).seen.any (·.covers r) = true := by
    unfold Past.see
    split
    · rename_i h
      obtain ⟨q, hq, e⟩ := List.any_eq_true.1 h
      refine List.any_eq_true.2 ⟨q, hq, ?_⟩
      simp only [Bool.and_eq_true, Bool.or_eq_true, beq_iff_eq, decide_eq_true_eq, Option.isNone_iff_eq_none] at e
      obtain ⟨⟨e1, e2⟩, e3⟩ := e
      have : q.unit.all (· == r.unit) = true := by
        rcases e2 with e2 | e2
        · simp [e2]
        · rcases hu with hu | hu <;> simp [e2, hu]
      simp [Sight.covers, e1, hp, this]
      omega
    · refine List.any_eq_true.2 ⟨t, List.mem_cons_self, ?_⟩
      have : t.unit.all (· == r.unit) = true := by rcases hu with hu | hu <;> simp [hu]
      simp [Sight.covers, hp, hi, this]
  simp [Past.open, cov, late]

/-- R266: a read whose path has seen every write of its bytes returns what they hold. -/
theorem State.view_seen {s : State} {r : Reader} {l : Loc} {n v : Nat} (h : ∀ sp a, l.cell = some (sp, a) → s.pasts r sp a n = []) : s.view r l n v = v := by
  unfold State.view
  split
  · rw [State.viewAt, State.unseen_nil (h _ _ ‹_›)]
  · rfl

/-- With nothing remembered a read returns what the bytes hold. -/
theorem State.view_nil {s : State} (h : s.past = []) (r : Reader) (l : Loc) (n v : Nat) : s.view r l n v = v :=
  State.view_seen fun sp a _ => State.pasts_nil h r sp a n

/-- With nothing remembered a read changes nothing. -/
theorem State.viewedAt_nil {s : State} (h : s.past = []) (r : Reader) (ls : List (Loc × Nat)) : s.viewedAt r ls = s := by
  cases s
  simp_all [State.viewedAt]

/-- The same of a poll. -/
theorem State.viewedAll_nil {s : State} (h : s.past = []) (r : Reader) (l : Loc) (n : Nat) : s.viewedAll r l n = s := by
  unfold State.viewedAll
  cases s
  split <;> simp_all

/-- A command reads its request record as it stands when nothing is remembered. -/
theorem State.hubRequest_nil {s : State} (h : s.past = []) (g : HubCmd) (pa v : Nat) :
    s.hubRequest g pa v = leValue ((List.range 4).flatMap fun k => leBytes 8 (v / 2 ^ (64 * k) % 2 ^ 64)) := by
  unfold State.hubRequest
  congr 2
  funext k
  rw [State.view_seen fun sp a _ => State.pasts_nil h _ sp a _]

end Sys2Proof.Machine
end

