-- ==== Sys2Proof/Laws/PerInstr.lean ====
section
/-! SUPPORT. Decoding gives back what was encoded, instruction by instruction: one lemma for each constructor. Before them, for each layout of a word, the fields the decoder reads from it. -/

namespace Sys2Proof.Laws.RoundTrip

open Sys2Proof.Decoding

/-- Decoding the encoded instruction, if it is well-formed and has an encoding, gives it back. -/
def Statement (i : Instr) : Prop := ∀ w, i.wf = true → encode i = some w → decodeBody w = .ok i

theorem append_toNat {m n : Nat} (x : BitVec m) (y : BitVec n) : (x ++ y).toNat = x.toNat * 2 ^ n + y.toNat := by
  rw [BitVec.toNat_append, Nat.shiftLeft_eq, Nat.mul_comm, Nat.two_pow_add_eq_or_of_lt y.isLt]

theorem field_eq {w : BitVec 31} {lo len : Nat} {x : BitVec len} (h : w.toNat / 2 ^ lo % 2 ^ len = x.toNat) : fld w lo len = x := by
  apply BitVec.eq_of_toNat_eq
  rw [fld, BitVec.extractLsb'_toNat, Nat.shiftRight_eq_div_pow, h]

theorem fields_5_6_20 (x0 : BitVec 5) (x1 : BitVec 6) (x2 : BitVec 20) (w : BitVec 31) (h : x0 ++ x1 ++ x2 = w) :
    fld w 26 5 = x0 ∧ fld w 20 6 = x1 ∧ fld w 0 20 = x2 := by
  have hn : w.toNat = ((x0.toNat) * 2 ^ 6 + x1.toNat) * 2 ^ 20 + x2.toNat := h ▸ (by simp only [append_toNat] : (x0 ++ x1 ++ x2).toNat = ((x0.toNat) * 2 ^ 6 + x1.toNat) * 2 ^ 20 + x2.toNat)
  have b : x0.toNat < 2 ^ 5 ∧ x1.toNat < 2 ^ 6 ∧ x2.toNat < 2 ^ 20 := ⟨x0.isLt, x1.isLt, x2.isLt⟩
  refine ⟨?_, ?_, ?_⟩ <;> apply field_eq <;> rw [hn] <;> omega

theorem fields_5_6_8_6_6 (x0 : BitVec 5) (x1 : BitVec 6) (x2 : BitVec 8) (x3 : BitVec 6) (x4 : BitVec 6) (w : BitVec 31) (h : x0 ++ x1 ++ x2 ++ x3 ++ x4 = w) :
    fld w 26 5 = x0 ∧ fld w 20 6 = x1 ∧ fld w 12 8 = x2 ∧ fld w 6 6 = x3 ∧ fld w 0 6 = x4 := by
  have hn : w.toNat = ((((x0.toNat) * 2 ^ 6 + x1.toNat) * 2 ^ 8 + x2.toNat) * 2 ^ 6 + x3.toNat) * 2 ^ 6 + x4.toNat := h ▸ (by simp only [append_toNat] : (x0 ++ x1 ++ x2 ++ x3 ++ x4).toNat = ((((x0.toNat) * 2 ^ 6 + x1.toNat) * 2 ^ 8 + x2.toNat) * 2 ^ 6 + x3.toNat) * 2 ^ 6 + x4.toNat)
  have b : x0.toNat < 2 ^ 5 ∧ x1.toNat < 2 ^ 6 ∧ x2.toNat < 2 ^ 8 ∧ x3.toNat < 2 ^ 6 ∧ x4.toNat < 2 ^ 6 := ⟨x0.isLt, x1.isLt, x2.isLt, x3.isLt, x4.isLt⟩
  refine ⟨?_, ?_, ?_, ?_, ?_⟩ <;> apply field_eq <;> rw [hn] <;> omega

theorem fields_5_6_4_16 (x0 : BitVec 5) (x1 : BitVec 6) (x2 : BitVec 4) (x3 : BitVec 16) (w : BitVec 31) (h : x0 ++ x1 ++ x2 ++ x3 = w) :
    fld w 26 5 = x0 ∧ fld w 20 6 = x1 ∧ fld w 16 4 = x2 ∧ fld w 0 16 = x3 := by
  have hn : w.toNat = (((x0.toNat) * 2 ^ 6 + x1.toNat) * 2 ^ 4 + x2.toNat) * 2 ^ 16 + x3.toNat := h ▸ (by simp only [append_toNat] : (x0 ++ x1 ++ x2 ++ x3).toNat = (((x0.toNat) * 2 ^ 6 + x1.toNat) * 2 ^ 4 + x2.toNat) * 2 ^ 16 + x3.toNat)
  have b : x0.toNat < 2 ^ 5 ∧ x1.toNat < 2 ^ 6 ∧ x2.toNat < 2 ^ 4 ∧ x3.toNat < 2 ^ 16 := ⟨x0.isLt, x1.isLt, x2.isLt, x3.isLt⟩
  refine ⟨?_, ?_, ?_, ?_⟩ <;> apply field_eq <;> rw [hn] <;> omega

theorem fields_5_6_15_5 (x0 : BitVec 5) (x1 : BitVec 6) (x2 : BitVec 15) (x3 : BitVec 5) (w : BitVec 31) (h : x0 ++ x1 ++ x2 ++ x3 = w) :
    fld w 26 5 = x0 ∧ fld w 20 6 = x1 ∧ fld w 5 15 = x2 ∧ fld w 0 5 = x3 := by
  have hn : w.toNat = (((x0.toNat) * 2 ^ 6 + x1.toNat) * 2 ^ 15 + x2.toNat) * 2 ^ 5 + x3.toNat := h ▸ (by simp only [append_toNat] : (x0 ++ x1 ++ x2 ++ x3).toNat = (((x0.toNat) * 2 ^ 6 + x1.toNat) * 2 ^ 15 + x2.toNat) * 2 ^ 5 + x3.toNat)
  have b : x0.toNat < 2 ^ 5 ∧ x1.toNat < 2 ^ 6 ∧ x2.toNat < 2 ^ 15 ∧ x3.toNat < 2 ^ 5 := ⟨x0.isLt, x1.isLt, x2.isLt, x3.isLt⟩
  refine ⟨?_, ?_, ?_, ?_⟩ <;> apply field_eq <;> rw [hn] <;> omega

theorem fields_5_4_6_16 (x0 : BitVec 5) (x1 : BitVec 4) (x2 : BitVec 6) (x3 : BitVec 16) (w : BitVec 31) (h : x0 ++ x1 ++ x2 ++ x3 = w) :
    fld w 26 5 = x0 ∧ fld w 22 4 = x1 ∧ fld w 16 6 = x2 ∧ fld w 0 16 = x3 := by
  have hn : w.toNat = (((x0.toNat) * 2 ^ 4 + x1.toNat) * 2 ^ 6 + x2.toNat) * 2 ^ 16 + x3.toNat := h ▸ (by simp only [append_toNat] : (x0 ++ x1 ++ x2 ++ x3).toNat = (((x0.toNat) * 2 ^ 4 + x1.toNat) * 2 ^ 6 + x2.toNat) * 2 ^ 16 + x3.toNat)
  have b : x0.toNat < 2 ^ 5 ∧ x1.toNat < 2 ^ 4 ∧ x2.toNat < 2 ^ 6 ∧ x3.toNat < 2 ^ 16 := ⟨x0.isLt, x1.isLt, x2.isLt, x3.isLt⟩
  refine ⟨?_, ?_, ?_, ?_⟩ <;> apply field_eq <;> rw [hn] <;> omega

theorem fields_5_4_2_4_16 (x0 : BitVec 5) (x1 : BitVec 4) (x2 : BitVec 2) (x3 : BitVec 4) (x4 : BitVec 16) (w : BitVec 31) (h : x0 ++ x1 ++ x2 ++ x3 ++ x4 = w) :
    fld w 26 5 = x0 ∧ fld w 22 4 = x1 ∧ fld w 20 2 = x2 ∧ fld w 16 4 = x3 ∧ fld w 0 16 = x4 := by
  have hn : w.toNat = ((((x0.toNat) * 2 ^ 4 + x1.toNat) * 2 ^ 2 + x2.toNat) * 2 ^ 4 + x3.toNat) * 2 ^ 16 + x4.toNat := h ▸ (by simp only [append_toNat] : (x0 ++ x1 ++ x2 ++ x3 ++ x4).toNat = ((((x0.toNat) * 2 ^ 4 + x1.toNat) * 2 ^ 2 + x2.toNat) * 2 ^ 4 + x3.toNat) * 2 ^ 16 + x4.toNat)
  have b : x0.toNat < 2 ^ 5 ∧ x1.toNat < 2 ^ 4 ∧ x2.toNat < 2 ^ 2 ∧ x3.toNat < 2 ^ 4 ∧ x4.toNat < 2 ^ 16 := ⟨x0.isLt, x1.isLt, x2.isLt, x3.isLt, x4.isLt⟩
  refine ⟨?_, ?_, ?_, ?_, ?_⟩ <;> apply field_eq <;> rw [hn] <;> omega

theorem fields_5_6_6_6_6_2 (x0 : BitVec 5) (x1 : BitVec 6) (x2 : BitVec 6) (x3 : BitVec 6) (x4 : BitVec 6) (x5 : BitVec 2) (w : BitVec 31) (h : x0 ++ x1 ++ x2 ++ x3 ++ x4 ++ x5 = w) :
    fld w 26 5 = x0 ∧ fld w 20 6 = x1 ∧ fld w 14 6 = x2 ∧ fld w 8 6 = x3 ∧ fld w 2 6 = x4 ∧ fld w 0 2 = x5 := by
  have hn : w.toNat = (((((x0.toNat) * 2 ^ 6 + x1.toNat) * 2 ^ 6 + x2.toNat) * 2 ^ 6 + x3.toNat) * 2 ^ 6 + x4.toNat) * 2 ^ 2 + x5.toNat := h ▸ (by simp only [append_toNat] : (x0 ++ x1 ++ x2 ++ x3 ++ x4 ++ x5).toNat = (((((x0.toNat) * 2 ^ 6 + x1.toNat) * 2 ^ 6 + x2.toNat) * 2 ^ 6 + x3.toNat) * 2 ^ 6 + x4.toNat) * 2 ^ 2 + x5.toNat)
  have b : x0.toNat < 2 ^ 5 ∧ x1.toNat < 2 ^ 6 ∧ x2.toNat < 2 ^ 6 ∧ x3.toNat < 2 ^ 6 ∧ x4.toNat < 2 ^ 6 ∧ x5.toNat < 2 ^ 2 := ⟨x0.isLt, x1.isLt, x2.isLt, x3.isLt, x4.isLt, x5.isLt⟩
  refine ⟨?_, ?_, ?_, ?_, ?_, ?_⟩ <;> apply field_eq <;> rw [hn] <;> omega

theorem fields_5_6_6_6_8 (x0 : BitVec 5) (x1 : BitVec 6) (x2 : BitVec 6) (x3 : BitVec 6) (x4 : BitVec 8) (w : BitVec 31) (h : x0 ++ x1 ++ x2 ++ x3 ++ x4 = w) :
    fld w 26 5 = x0 ∧ fld w 20 6 = x1 ∧ fld w 14 6 = x2 ∧ fld w 8 6 = x3 ∧ fld w 0 8 = x4 := by
  have hn : w.toNat = ((((x0.toNat) * 2 ^ 6 + x1.toNat) * 2 ^ 6 + x2.toNat) * 2 ^ 6 + x3.toNat) * 2 ^ 8 + x4.toNat := h ▸ (by simp only [append_toNat] : (x0 ++ x1 ++ x2 ++ x3 ++ x4).toNat = ((((x0.toNat) * 2 ^ 6 + x1.toNat) * 2 ^ 6 + x2.toNat) * 2 ^ 6 + x3.toNat) * 2 ^ 8 + x4.toNat)
  have b : x0.toNat < 2 ^ 5 ∧ x1.toNat < 2 ^ 6 ∧ x2.toNat < 2 ^ 6 ∧ x3.toNat < 2 ^ 6 ∧ x4.toNat < 2 ^ 8 := ⟨x0.isLt, x1.isLt, x2.isLt, x3.isLt, x4.isLt⟩
  refine ⟨?_, ?_, ?_, ?_, ?_⟩ <;> apply field_eq <;> rw [hn] <;> omega

theorem fields_5_4_6_6_10 (x0 : BitVec 5) (x1 : BitVec 4) (x2 : BitVec 6) (x3 : BitVec 6) (x4 : BitVec 10) (w : BitVec 31) (h : x0 ++ x1 ++ x2 ++ x3 ++ x4 = w) :
    fld w 26 5 = x0 ∧ fld w 22 4 = x1 ∧ fld w 16 6 = x2 ∧ fld w 10 6 = x3 ∧ fld w 0 10 = x4 := by
  have hn : w.toNat = ((((x0.toNat) * 2 ^ 4 + x1.toNat) * 2 ^ 6 + x2.toNat) * 2 ^ 6 + x3.toNat) * 2 ^ 10 + x4.toNat := h ▸ (by simp only [append_toNat] : (x0 ++ x1 ++ x2 ++ x3 ++ x4).toNat = ((((x0.toNat) * 2 ^ 4 + x1.toNat) * 2 ^ 6 + x2.toNat) * 2 ^ 6 + x3.toNat) * 2 ^ 10 + x4.toNat)
  have b : x0.toNat < 2 ^ 5 ∧ x1.toNat < 2 ^ 4 ∧ x2.toNat < 2 ^ 6 ∧ x3.toNat < 2 ^ 6 ∧ x4.toNat < 2 ^ 10 := ⟨x0.isLt, x1.isLt, x2.isLt, x3.isLt, x4.isLt⟩
  refine ⟨?_, ?_, ?_, ?_, ?_⟩ <;> apply field_eq <;> rw [hn] <;> omega

theorem fields_5_4_6_6_4_6 (x0 : BitVec 5) (x1 : BitVec 4) (x2 : BitVec 6) (x3 : BitVec 6) (x4 : BitVec 4) (x5 : BitVec 6) (w : BitVec 31) (h : x0 ++ x1 ++ x2 ++ x3 ++ x4 ++ x5 = w) :
    fld w 26 5 = x0 ∧ fld w 22 4 = x1 ∧ fld w 16 6 = x2 ∧ fld w 10 6 = x3 ∧ fld w 6 4 = x4 ∧ fld w 0 6 = x5 := by
  have hn : w.toNat = (((((x0.toNat) * 2 ^ 4 + x1.toNat) * 2 ^ 6 + x2.toNat) * 2 ^ 6 + x3.toNat) * 2 ^ 4 + x4.toNat) * 2 ^ 6 + x5.toNat := h ▸ (by simp only [append_toNat] : (x0 ++ x1 ++ x2 ++ x3 ++ x4 ++ x5).toNat = (((((x0.toNat) * 2 ^ 4 + x1.toNat) * 2 ^ 6 + x2.toNat) * 2 ^ 6 + x3.toNat) * 2 ^ 4 + x4.toNat) * 2 ^ 6 + x5.toNat)
  have b : x0.toNat < 2 ^ 5 ∧ x1.toNat < 2 ^ 4 ∧ x2.toNat < 2 ^ 6 ∧ x3.toNat < 2 ^ 6 ∧ x4.toNat < 2 ^ 4 ∧ x5.toNat < 2 ^ 6 := ⟨x0.isLt, x1.isLt, x2.isLt, x3.isLt, x4.isLt, x5.isLt⟩
  refine ⟨?_, ?_, ?_, ?_, ?_, ?_⟩ <;> apply field_eq <;> rw [hn] <;> omega

theorem fields_5_1_6_2_1_16 (x0 : BitVec 5) (x1 : BitVec 1) (x2 : BitVec 6) (x3 : BitVec 2) (x4 : BitVec 1) (x5 : BitVec 16) (w : BitVec 31) (h : x0 ++ x1 ++ x2 ++ x3 ++ x4 ++ x5 = w) :
    fld w 26 5 = x0 ∧ fld w 25 1 = x1 ∧ fld w 19 6 = x2 ∧ fld w 17 2 = x3 ∧ fld w 16 1 = x4 ∧ fld w 0 16 = x5 := by
  have hn : w.toNat = (((((x0.toNat) * 2 ^ 1 + x1.toNat) * 2 ^ 6 + x2.toNat) * 2 ^ 2 + x3.toNat) * 2 ^ 1 + x4.toNat) * 2 ^ 16 + x5.toNat := h ▸ (by simp only [append_toNat] : (x0 ++ x1 ++ x2 ++ x3 ++ x4 ++ x5).toNat = (((((x0.toNat) * 2 ^ 1 + x1.toNat) * 2 ^ 6 + x2.toNat) * 2 ^ 2 + x3.toNat) * 2 ^ 1 + x4.toNat) * 2 ^ 16 + x5.toNat)
  have b : x0.toNat < 2 ^ 5 ∧ x1.toNat < 2 ^ 1 ∧ x2.toNat < 2 ^ 6 ∧ x3.toNat < 2 ^ 2 ∧ x4.toNat < 2 ^ 1 ∧ x5.toNat < 2 ^ 16 := ⟨x0.isLt, x1.isLt, x2.isLt, x3.isLt, x4.isLt, x5.isLt⟩
  refine ⟨?_, ?_, ?_, ?_, ?_, ?_⟩ <;> apply field_eq <;> rw [hn] <;> omega

theorem fields_5_2_6_10_8 (x0 : BitVec 5) (x1 : BitVec 2) (x2 : BitVec 6) (x3 : BitVec 10) (x4 : BitVec 8) (w : BitVec 31) (h : x0 ++ x1 ++ x2 ++ x3 ++ x4 = w) :
    fld w 26 5 = x0 ∧ fld w 24 2 = x1 ∧ fld w 18 6 = x2 ∧ fld w 8 10 = x3 ∧ fld w 0 8 = x4 := by
  have hn : w.toNat = ((((x0.toNat) * 2 ^ 2 + x1.toNat) * 2 ^ 6 + x2.toNat) * 2 ^ 10 + x3.toNat) * 2 ^ 8 + x4.toNat := h ▸ (by simp only [append_toNat] : (x0 ++ x1 ++ x2 ++ x3 ++ x4).toNat = ((((x0.toNat) * 2 ^ 2 + x1.toNat) * 2 ^ 6 + x2.toNat) * 2 ^ 10 + x3.toNat) * 2 ^ 8 + x4.toNat)
  have b : x0.toNat < 2 ^ 5 ∧ x1.toNat < 2 ^ 2 ∧ x2.toNat < 2 ^ 6 ∧ x3.toNat < 2 ^ 10 ∧ x4.toNat < 2 ^ 8 := ⟨x0.isLt, x1.isLt, x2.isLt, x3.isLt, x4.isLt⟩
  refine ⟨?_, ?_, ?_, ?_, ?_⟩ <;> apply field_eq <;> rw [hn] <;> omega

theorem fields_5_5_7_7_7 (x0 : BitVec 5) (x1 : BitVec 5) (x2 : BitVec 7) (x3 : BitVec 7) (x4 : BitVec 7) (w : BitVec 31) (h : x0 ++ x1 ++ x2 ++ x3 ++ x4 = w) :
    fld w 26 5 = x0 ∧ fld w 21 5 = x1 ∧ fld w 14 7 = x2 ∧ fld w 7 7 = x3 ∧ fld w 0 7 = x4 := by
  have hn : w.toNat = ((((x0.toNat) * 2 ^ 5 + x1.toNat) * 2 ^ 7 + x2.toNat) * 2 ^ 7 + x3.toNat) * 2 ^ 7 + x4.toNat := h ▸ (by simp only [append_toNat] : (x0 ++ x1 ++ x2 ++ x3 ++ x4).toNat = ((((x0.toNat) * 2 ^ 5 + x1.toNat) * 2 ^ 7 + x2.toNat) * 2 ^ 7 + x3.toNat) * 2 ^ 7 + x4.toNat)
  have b : x0.toNat < 2 ^ 5 ∧ x1.toNat < 2 ^ 5 ∧ x2.toNat < 2 ^ 7 ∧ x3.toNat < 2 ^ 7 ∧ x4.toNat < 2 ^ 7 := ⟨x0.isLt, x1.isLt, x2.isLt, x3.isLt, x4.isLt⟩
  refine ⟨?_, ?_, ?_, ?_, ?_⟩ <;> apply field_eq <;> rw [hn] <;> omega

theorem fields_5_3_4_4_7_7_1 (x0 : BitVec 5) (x1 : BitVec 3) (x2 : BitVec 4) (x3 : BitVec 4) (x4 : BitVec 7) (x5 : BitVec 7) (x6 : BitVec 1) (w : BitVec 31) (h : x0 ++ x1 ++ x2 ++ x3 ++ x4 ++ x5 ++ x6 = w) :
    fld w 26 5 = x0 ∧ fld w 23 3 = x1 ∧ fld w 19 4 = x2 ∧ fld w 15 4 = x3 ∧ fld w 8 7 = x4 ∧ fld w 1 7 = x5 ∧ fld w 0 1 = x6 := by
  have hn : w.toNat = ((((((x0.toNat) * 2 ^ 3 + x1.toNat) * 2 ^ 4 + x2.toNat) * 2 ^ 4 + x3.toNat) * 2 ^ 7 + x4.toNat) * 2 ^ 7 + x5.toNat) * 2 ^ 1 + x6.toNat := h ▸ (by simp only [append_toNat] : (x0 ++ x1 ++ x2 ++ x3 ++ x4 ++ x5 ++ x6).toNat = ((((((x0.toNat) * 2 ^ 3 + x1.toNat) * 2 ^ 4 + x2.toNat) * 2 ^ 4 + x3.toNat) * 2 ^ 7 + x4.toNat) * 2 ^ 7 + x5.toNat) * 2 ^ 1 + x6.toNat)
  have b : x0.toNat < 2 ^ 5 ∧ x1.toNat < 2 ^ 3 ∧ x2.toNat < 2 ^ 4 ∧ x3.toNat < 2 ^ 4 ∧ x4.toNat < 2 ^ 7 ∧ x5.toNat < 2 ^ 7 ∧ x6.toNat < 2 ^ 1 := ⟨x0.isLt, x1.isLt, x2.isLt, x3.isLt, x4.isLt, x5.isLt, x6.isLt⟩
  refine ⟨?_, ?_, ?_, ?_, ?_, ?_, ?_⟩ <;> apply field_eq <;> rw [hn] <;> omega

theorem fields_5_7_7_7_4_1 (x0 : BitVec 5) (x1 : BitVec 7) (x2 : BitVec 7) (x3 : BitVec 7) (x4 : BitVec 4) (x5 : BitVec 1) (w : BitVec 31) (h : x0 ++ x1 ++ x2 ++ x3 ++ x4 ++ x5 = w) :
    fld w 26 5 = x0 ∧ fld w 19 7 = x1 ∧ fld w 12 7 = x2 ∧ fld w 5 7 = x3 ∧ fld w 1 4 = x4 ∧ fld w 0 1 = x5 := by
  have hn : w.toNat = (((((x0.toNat) * 2 ^ 7 + x1.toNat) * 2 ^ 7 + x2.toNat) * 2 ^ 7 + x3.toNat) * 2 ^ 4 + x4.toNat) * 2 ^ 1 + x5.toNat := h ▸ (by simp only [append_toNat] : (x0 ++ x1 ++ x2 ++ x3 ++ x4 ++ x5).toNat = (((((x0.toNat) * 2 ^ 7 + x1.toNat) * 2 ^ 7 + x2.toNat) * 2 ^ 7 + x3.toNat) * 2 ^ 4 + x4.toNat) * 2 ^ 1 + x5.toNat)
  have b : x0.toNat < 2 ^ 5 ∧ x1.toNat < 2 ^ 7 ∧ x2.toNat < 2 ^ 7 ∧ x3.toNat < 2 ^ 7 ∧ x4.toNat < 2 ^ 4 ∧ x5.toNat < 2 ^ 1 := ⟨x0.isLt, x1.isLt, x2.isLt, x3.isLt, x4.isLt, x5.isLt⟩
  refine ⟨?_, ?_, ?_, ?_, ?_, ?_⟩ <;> apply field_eq <;> rw [hn] <;> omega

theorem fields_5_5_7_7_3_4 (x0 : BitVec 5) (x1 : BitVec 5) (x2 : BitVec 7) (x3 : BitVec 7) (x4 : BitVec 3) (x5 : BitVec 4) (w : BitVec 31) (h : x0 ++ x1 ++ x2 ++ x3 ++ x4 ++ x5 = w) :
    fld w 26 5 = x0 ∧ fld w 21 5 = x1 ∧ fld w 14 7 = x2 ∧ fld w 7 7 = x3 ∧ fld w 4 3 = x4 ∧ fld w 0 4 = x5 := by
  have hn : w.toNat = (((((x0.toNat) * 2 ^ 5 + x1.toNat) * 2 ^ 7 + x2.toNat) * 2 ^ 7 + x3.toNat) * 2 ^ 3 + x4.toNat) * 2 ^ 4 + x5.toNat := h ▸ (by simp only [append_toNat] : (x0 ++ x1 ++ x2 ++ x3 ++ x4 ++ x5).toNat = (((((x0.toNat) * 2 ^ 5 + x1.toNat) * 2 ^ 7 + x2.toNat) * 2 ^ 7 + x3.toNat) * 2 ^ 3 + x4.toNat) * 2 ^ 4 + x5.toNat)
  have b : x0.toNat < 2 ^ 5 ∧ x1.toNat < 2 ^ 5 ∧ x2.toNat < 2 ^ 7 ∧ x3.toNat < 2 ^ 7 ∧ x4.toNat < 2 ^ 3 ∧ x5.toNat < 2 ^ 4 := ⟨x0.isLt, x1.isLt, x2.isLt, x3.isLt, x4.isLt, x5.isLt⟩
  refine ⟨?_, ?_, ?_, ?_, ?_, ?_⟩ <;> apply field_eq <;> rw [hn] <;> omega

theorem fields_5_5_7_1_6_3_4 (x0 : BitVec 5) (x1 : BitVec 5) (x2 : BitVec 7) (x3 : BitVec 1) (x4 : BitVec 6) (x5 : BitVec 3) (x6 : BitVec 4) (w : BitVec 31) (h : x0 ++ x1 ++ x2 ++ x3 ++ x4 ++ x5 ++ x6 = w) :
    fld w 26 5 = x0 ∧ fld w 21 5 = x1 ∧ fld w 14 7 = x2 ∧ fld w 13 1 = x3 ∧ fld w 7 6 = x4 ∧ fld w 4 3 = x5 ∧ fld w 0 4 = x6 := by
  have hn : w.toNat = ((((((x0.toNat) * 2 ^ 5 + x1.toNat) * 2 ^ 7 + x2.toNat) * 2 ^ 1 + x3.toNat) * 2 ^ 6 + x4.toNat) * 2 ^ 3 + x5.toNat) * 2 ^ 4 + x6.toNat := h ▸ (by simp only [append_toNat] : (x0 ++ x1 ++ x2 ++ x3 ++ x4 ++ x5 ++ x6).toNat = ((((((x0.toNat) * 2 ^ 5 + x1.toNat) * 2 ^ 7 + x2.toNat) * 2 ^ 1 + x3.toNat) * 2 ^ 6 + x4.toNat) * 2 ^ 3 + x5.toNat) * 2 ^ 4 + x6.toNat)
  have b : x0.toNat < 2 ^ 5 ∧ x1.toNat < 2 ^ 5 ∧ x2.toNat < 2 ^ 7 ∧ x3.toNat < 2 ^ 1 ∧ x4.toNat < 2 ^ 6 ∧ x5.toNat < 2 ^ 3 ∧ x6.toNat < 2 ^ 4 := ⟨x0.isLt, x1.isLt, x2.isLt, x3.isLt, x4.isLt, x5.isLt, x6.isLt⟩
  refine ⟨?_, ?_, ?_, ?_, ?_, ?_, ?_⟩ <;> apply field_eq <;> rw [hn] <;> omega

theorem fields_5_5_7_7_1_6 (x0 : BitVec 5) (x1 : BitVec 5) (x2 : BitVec 7) (x3 : BitVec 7) (x4 : BitVec 1) (x5 : BitVec 6) (w : BitVec 31) (h : x0 ++ x1 ++ x2 ++ x3 ++ x4 ++ x5 = w) :
    fld w 26 5 = x0 ∧ fld w 21 5 = x1 ∧ fld w 14 7 = x2 ∧ fld w 7 7 = x3 ∧ fld w 6 1 = x4 ∧ fld w 0 6 = x5 := by
  have hn : w.toNat = (((((x0.toNat) * 2 ^ 5 + x1.toNat) * 2 ^ 7 + x2.toNat) * 2 ^ 7 + x3.toNat) * 2 ^ 1 + x4.toNat) * 2 ^ 6 + x5.toNat := h ▸ (by simp only [append_toNat] : (x0 ++ x1 ++ x2 ++ x3 ++ x4 ++ x5).toNat = (((((x0.toNat) * 2 ^ 5 + x1.toNat) * 2 ^ 7 + x2.toNat) * 2 ^ 7 + x3.toNat) * 2 ^ 1 + x4.toNat) * 2 ^ 6 + x5.toNat)
  have b : x0.toNat < 2 ^ 5 ∧ x1.toNat < 2 ^ 5 ∧ x2.toNat < 2 ^ 7 ∧ x3.toNat < 2 ^ 7 ∧ x4.toNat < 2 ^ 1 ∧ x5.toNat < 2 ^ 6 := ⟨x0.isLt, x1.isLt, x2.isLt, x3.isLt, x4.isLt, x5.isLt⟩
  refine ⟨?_, ?_, ?_, ?_, ?_, ?_⟩ <;> apply field_eq <;> rw [hn] <;> omega

theorem fields_5_5_1_6_7_7 (x0 : BitVec 5) (x1 : BitVec 5) (x2 : BitVec 1) (x3 : BitVec 6) (x4 : BitVec 7) (x5 : BitVec 7) (w : BitVec 31) (h : x0 ++ x1 ++ x2 ++ x3 ++ x4 ++ x5 = w) :
    fld w 26 5 = x0 ∧ fld w 21 5 = x1 ∧ fld w 20 1 = x2 ∧ fld w 14 6 = x3 ∧ fld w 7 7 = x4 ∧ fld w 0 7 = x5 := by
  have hn : w.toNat = (((((x0.toNat) * 2 ^ 5 + x1.toNat) * 2 ^ 1 + x2.toNat) * 2 ^ 6 + x3.toNat) * 2 ^ 7 + x4.toNat) * 2 ^ 7 + x5.toNat := h ▸ (by simp only [append_toNat] : (x0 ++ x1 ++ x2 ++ x3 ++ x4 ++ x5).toNat = (((((x0.toNat) * 2 ^ 5 + x1.toNat) * 2 ^ 1 + x2.toNat) * 2 ^ 6 + x3.toNat) * 2 ^ 7 + x4.toNat) * 2 ^ 7 + x5.toNat)
  have b : x0.toNat < 2 ^ 5 ∧ x1.toNat < 2 ^ 5 ∧ x2.toNat < 2 ^ 1 ∧ x3.toNat < 2 ^ 6 ∧ x4.toNat < 2 ^ 7 ∧ x5.toNat < 2 ^ 7 := ⟨x0.isLt, x1.isLt, x2.isLt, x3.isLt, x4.isLt, x5.isLt⟩
  refine ⟨?_, ?_, ?_, ?_, ?_, ?_⟩ <;> apply field_eq <;> rw [hn] <;> omega

theorem fields_5_1_4_7_7_6_1 (x0 : BitVec 5) (x1 : BitVec 1) (x2 : BitVec 4) (x3 : BitVec 7) (x4 : BitVec 7) (x5 : BitVec 6) (x6 : BitVec 1) (w : BitVec 31) (h : x0 ++ x1 ++ x2 ++ x3 ++ x4 ++ x5 ++ x6 = w) :
    fld w 26 5 = x0 ∧ fld w 25 1 = x1 ∧ fld w 21 4 = x2 ∧ fld w 14 7 = x3 ∧ fld w 7 7 = x4 ∧ fld w 1 6 = x5 ∧ fld w 0 1 = x6 := by
  have hn : w.toNat = ((((((x0.toNat) * 2 ^ 1 + x1.toNat) * 2 ^ 4 + x2.toNat) * 2 ^ 7 + x3.toNat) * 2 ^ 7 + x4.toNat) * 2 ^ 6 + x5.toNat) * 2 ^ 1 + x6.toNat := h ▸ (by simp only [append_toNat] : (x0 ++ x1 ++ x2 ++ x3 ++ x4 ++ x5 ++ x6).toNat = ((((((x0.toNat) * 2 ^ 1 + x1.toNat) * 2 ^ 4 + x2.toNat) * 2 ^ 7 + x3.toNat) * 2 ^ 7 + x4.toNat) * 2 ^ 6 + x5.toNat) * 2 ^ 1 + x6.toNat)
  have b : x0.toNat < 2 ^ 5 ∧ x1.toNat < 2 ^ 1 ∧ x2.toNat < 2 ^ 4 ∧ x3.toNat < 2 ^ 7 ∧ x4.toNat < 2 ^ 7 ∧ x5.toNat < 2 ^ 6 ∧ x6.toNat < 2 ^ 1 := ⟨x0.isLt, x1.isLt, x2.isLt, x3.isLt, x4.isLt, x5.isLt, x6.isLt⟩
  refine ⟨?_, ?_, ?_, ?_, ?_, ?_, ?_⟩ <;> apply field_eq <;> rw [hn] <;> omega

theorem fields_5_3_2_3_7_7_2_2 (x0 : BitVec 5) (x1 : BitVec 3) (x2 : BitVec 2) (x3 : BitVec 3) (x4 : BitVec 7) (x5 : BitVec 7) (x6 : BitVec 2) (x7 : BitVec 2) (w : BitVec 31) (h : x0 ++ x1 ++ x2 ++ x3 ++ x4 ++ x5 ++ x6 ++ x7 = w) :
    fld w 26 5 = x0 ∧ fld w 23 3 = x1 ∧ fld w 21 2 = x2 ∧ fld w 18 3 = x3 ∧ fld w 11 7 = x4 ∧ fld w 4 7 = x5 ∧ fld w 2 2 = x6 ∧ fld w 0 2 = x7 := by
  have hn : w.toNat = (((((((x0.toNat) * 2 ^ 3 + x1.toNat) * 2 ^ 2 + x2.toNat) * 2 ^ 3 + x3.toNat) * 2 ^ 7 + x4.toNat) * 2 ^ 7 + x5.toNat) * 2 ^ 2 + x6.toNat) * 2 ^ 2 + x7.toNat := h ▸ (by simp only [append_toNat] : (x0 ++ x1 ++ x2 ++ x3 ++ x4 ++ x5 ++ x6 ++ x7).toNat = (((((((x0.toNat) * 2 ^ 3 + x1.toNat) * 2 ^ 2 + x2.toNat) * 2 ^ 3 + x3.toNat) * 2 ^ 7 + x4.toNat) * 2 ^ 7 + x5.toNat) * 2 ^ 2 + x6.toNat) * 2 ^ 2 + x7.toNat)
  have b : x0.toNat < 2 ^ 5 ∧ x1.toNat < 2 ^ 3 ∧ x2.toNat < 2 ^ 2 ∧ x3.toNat < 2 ^ 3 ∧ x4.toNat < 2 ^ 7 ∧ x5.toNat < 2 ^ 7 ∧ x6.toNat < 2 ^ 2 ∧ x7.toNat < 2 ^ 2 := ⟨x0.isLt, x1.isLt, x2.isLt, x3.isLt, x4.isLt, x5.isLt, x6.isLt, x7.isLt⟩
  refine ⟨?_, ?_, ?_, ?_, ?_, ?_, ?_, ?_⟩ <;> apply field_eq <;> rw [hn] <;> omega

theorem fields_5_4_2_3_17 (x0 : BitVec 5) (x1 : BitVec 4) (x2 : BitVec 2) (x3 : BitVec 3) (x4 : BitVec 17) (w : BitVec 31) (h : x0 ++ x1 ++ x2 ++ x3 ++ x4 = w) :
    fld w 26 5 = x0 ∧ fld w 22 4 = x1 ∧ fld w 20 2 = x2 ∧ fld w 17 3 = x3 ∧ fld w 0 17 = x4 := by
  have hn : w.toNat = ((((x0.toNat) * 2 ^ 4 + x1.toNat) * 2 ^ 2 + x2.toNat) * 2 ^ 3 + x3.toNat) * 2 ^ 17 + x4.toNat := h ▸ (by simp only [append_toNat] : (x0 ++ x1 ++ x2 ++ x3 ++ x4).toNat = ((((x0.toNat) * 2 ^ 4 + x1.toNat) * 2 ^ 2 + x2.toNat) * 2 ^ 3 + x3.toNat) * 2 ^ 17 + x4.toNat)
  have b : x0.toNat < 2 ^ 5 ∧ x1.toNat < 2 ^ 4 ∧ x2.toNat < 2 ^ 2 ∧ x3.toNat < 2 ^ 3 ∧ x4.toNat < 2 ^ 17 := ⟨x0.isLt, x1.isLt, x2.isLt, x3.isLt, x4.isLt⟩
  refine ⟨?_, ?_, ?_, ?_, ?_⟩ <;> apply field_eq <;> rw [hn] <;> omega

theorem fields_5_4_3_3_16 (x0 : BitVec 5) (x1 : BitVec 4) (x2 : BitVec 3) (x3 : BitVec 3) (x4 : BitVec 16) (w : BitVec 31) (h : x0 ++ x1 ++ x2 ++ x3 ++ x4 = w) :
    fld w 26 5 = x0 ∧ fld w 22 4 = x1 ∧ fld w 19 3 = x2 ∧ fld w 16 3 = x3 ∧ fld w 0 16 = x4 := by
  have hn : w.toNat = ((((x0.toNat) * 2 ^ 4 + x1.toNat) * 2 ^ 3 + x2.toNat) * 2 ^ 3 + x3.toNat) * 2 ^ 16 + x4.toNat := h ▸ (by simp only [append_toNat] : (x0 ++ x1 ++ x2 ++ x3 ++ x4).toNat = ((((x0.toNat) * 2 ^ 4 + x1.toNat) * 2 ^ 3 + x2.toNat) * 2 ^ 3 + x3.toNat) * 2 ^ 16 + x4.toNat)
  have b : x0.toNat < 2 ^ 5 ∧ x1.toNat < 2 ^ 4 ∧ x2.toNat < 2 ^ 3 ∧ x3.toNat < 2 ^ 3 ∧ x4.toNat < 2 ^ 16 := ⟨x0.isLt, x1.isLt, x2.isLt, x3.isLt, x4.isLt⟩
  refine ⟨?_, ?_, ?_, ?_, ?_⟩ <;> apply field_eq <;> rw [hn] <;> omega

theorem fields_5_4_6_3_4_9 (x0 : BitVec 5) (x1 : BitVec 4) (x2 : BitVec 6) (x3 : BitVec 3) (x4 : BitVec 4) (x5 : BitVec 9) (w : BitVec 31) (h : x0 ++ x1 ++ x2 ++ x3 ++ x4 ++ x5 = w) :
    fld w 26 5 = x0 ∧ fld w 22 4 = x1 ∧ fld w 16 6 = x2 ∧ fld w 13 3 = x3 ∧ fld w 9 4 = x4 ∧ fld w 0 9 = x5 := by
  have hn : w.toNat = (((((x0.toNat) * 2 ^ 4 + x1.toNat) * 2 ^ 6 + x2.toNat) * 2 ^ 3 + x3.toNat) * 2 ^ 4 + x4.toNat) * 2 ^ 9 + x5.toNat := h ▸ (by simp only [append_toNat] : (x0 ++ x1 ++ x2 ++ x3 ++ x4 ++ x5).toNat = (((((x0.toNat) * 2 ^ 4 + x1.toNat) * 2 ^ 6 + x2.toNat) * 2 ^ 3 + x3.toNat) * 2 ^ 4 + x4.toNat) * 2 ^ 9 + x5.toNat)
  have b : x0.toNat < 2 ^ 5 ∧ x1.toNat < 2 ^ 4 ∧ x2.toNat < 2 ^ 6 ∧ x3.toNat < 2 ^ 3 ∧ x4.toNat < 2 ^ 4 ∧ x5.toNat < 2 ^ 9 := ⟨x0.isLt, x1.isLt, x2.isLt, x3.isLt, x4.isLt, x5.isLt⟩
  refine ⟨?_, ?_, ?_, ?_, ?_, ?_⟩ <;> apply field_eq <;> rw [hn] <;> omega

theorem fields_5_4_6_6_6_4 (x0 : BitVec 5) (x1 : BitVec 4) (x2 : BitVec 6) (x3 : BitVec 6) (x4 : BitVec 6) (x5 : BitVec 4) (w : BitVec 31) (h : x0 ++ x1 ++ x2 ++ x3 ++ x4 ++ x5 = w) :
    fld w 26 5 = x0 ∧ fld w 22 4 = x1 ∧ fld w 16 6 = x2 ∧ fld w 10 6 = x3 ∧ fld w 4 6 = x4 ∧ fld w 0 4 = x5 := by
  have hn : w.toNat = (((((x0.toNat) * 2 ^ 4 + x1.toNat) * 2 ^ 6 + x2.toNat) * 2 ^ 6 + x3.toNat) * 2 ^ 6 + x4.toNat) * 2 ^ 4 + x5.toNat := h ▸ (by simp only [append_toNat] : (x0 ++ x1 ++ x2 ++ x3 ++ x4 ++ x5).toNat = (((((x0.toNat) * 2 ^ 4 + x1.toNat) * 2 ^ 6 + x2.toNat) * 2 ^ 6 + x3.toNat) * 2 ^ 6 + x4.toNat) * 2 ^ 4 + x5.toNat)
  have b : x0.toNat < 2 ^ 5 ∧ x1.toNat < 2 ^ 4 ∧ x2.toNat < 2 ^ 6 ∧ x3.toNat < 2 ^ 6 ∧ x4.toNat < 2 ^ 6 ∧ x5.toNat < 2 ^ 4 := ⟨x0.isLt, x1.isLt, x2.isLt, x3.isLt, x4.isLt, x5.isLt⟩
  refine ⟨?_, ?_, ?_, ?_, ?_, ?_⟩ <;> apply field_eq <;> rw [hn] <;> omega

theorem fields_5_4_6_10_6 (x0 : BitVec 5) (x1 : BitVec 4) (x2 : BitVec 6) (x3 : BitVec 10) (x4 : BitVec 6) (w : BitVec 31) (h : x0 ++ x1 ++ x2 ++ x3 ++ x4 = w) :
    fld w 26 5 = x0 ∧ fld w 22 4 = x1 ∧ fld w 16 6 = x2 ∧ fld w 6 10 = x3 ∧ fld w 0 6 = x4 := by
  have hn : w.toNat = ((((x0.toNat) * 2 ^ 4 + x1.toNat) * 2 ^ 6 + x2.toNat) * 2 ^ 10 + x3.toNat) * 2 ^ 6 + x4.toNat := h ▸ (by simp only [append_toNat] : (x0 ++ x1 ++ x2 ++ x3 ++ x4).toNat = ((((x0.toNat) * 2 ^ 4 + x1.toNat) * 2 ^ 6 + x2.toNat) * 2 ^ 10 + x3.toNat) * 2 ^ 6 + x4.toNat)
  have b : x0.toNat < 2 ^ 5 ∧ x1.toNat < 2 ^ 4 ∧ x2.toNat < 2 ^ 6 ∧ x3.toNat < 2 ^ 10 ∧ x4.toNat < 2 ^ 6 := ⟨x0.isLt, x1.isLt, x2.isLt, x3.isLt, x4.isLt⟩
  refine ⟨?_, ?_, ?_, ?_, ?_⟩ <;> apply field_eq <;> rw [hn] <;> omega

theorem fields_5_5_5_10_2_1_3 (x0 : BitVec 5) (x1 : BitVec 5) (x2 : BitVec 5) (x3 : BitVec 10) (x4 : BitVec 2) (x5 : BitVec 1) (x6 : BitVec 3) (w : BitVec 31) (h : x0 ++ x1 ++ x2 ++ x3 ++ x4 ++ x5 ++ x6 = w) :
    fld w 26 5 = x0 ∧ fld w 21 5 = x1 ∧ fld w 16 5 = x2 ∧ fld w 6 10 = x3 ∧ fld w 4 2 = x4 ∧ fld w 3 1 = x5 ∧ fld w 0 3 = x6 := by
  have hn : w.toNat = ((((((x0.toNat) * 2 ^ 5 + x1.toNat) * 2 ^ 5 + x2.toNat) * 2 ^ 10 + x3.toNat) * 2 ^ 2 + x4.toNat) * 2 ^ 1 + x5.toNat) * 2 ^ 3 + x6.toNat := h ▸ (by simp only [append_toNat] : (x0 ++ x1 ++ x2 ++ x3 ++ x4 ++ x5 ++ x6).toNat = ((((((x0.toNat) * 2 ^ 5 + x1.toNat) * 2 ^ 5 + x2.toNat) * 2 ^ 10 + x3.toNat) * 2 ^ 2 + x4.toNat) * 2 ^ 1 + x5.toNat) * 2 ^ 3 + x6.toNat)
  have b : x0.toNat < 2 ^ 5 ∧ x1.toNat < 2 ^ 5 ∧ x2.toNat < 2 ^ 5 ∧ x3.toNat < 2 ^ 10 ∧ x4.toNat < 2 ^ 2 ∧ x5.toNat < 2 ^ 1 ∧ x6.toNat < 2 ^ 3 := ⟨x0.isLt, x1.isLt, x2.isLt, x3.isLt, x4.isLt, x5.isLt, x6.isLt⟩
  refine ⟨?_, ?_, ?_, ?_, ?_, ?_, ?_⟩ <;> apply field_eq <;> rw [hn] <;> omega

theorem fields_5_5_5_5_7_1_3 (x0 : BitVec 5) (x1 : BitVec 5) (x2 : BitVec 5) (x3 : BitVec 5) (x4 : BitVec 7) (x5 : BitVec 1) (x6 : BitVec 3) (w : BitVec 31) (h : x0 ++ x1 ++ x2 ++ x3 ++ x4 ++ x5 ++ x6 = w) :
    fld w 26 5 = x0 ∧ fld w 21 5 = x1 ∧ fld w 16 5 = x2 ∧ fld w 11 5 = x3 ∧ fld w 4 7 = x4 ∧ fld w 3 1 = x5 ∧ fld w 0 3 = x6 := by
  have hn : w.toNat = ((((((x0.toNat) * 2 ^ 5 + x1.toNat) * 2 ^ 5 + x2.toNat) * 2 ^ 5 + x3.toNat) * 2 ^ 7 + x4.toNat) * 2 ^ 1 + x5.toNat) * 2 ^ 3 + x6.toNat := h ▸ (by simp only [append_toNat] : (x0 ++ x1 ++ x2 ++ x3 ++ x4 ++ x5 ++ x6).toNat = ((((((x0.toNat) * 2 ^ 5 + x1.toNat) * 2 ^ 5 + x2.toNat) * 2 ^ 5 + x3.toNat) * 2 ^ 7 + x4.toNat) * 2 ^ 1 + x5.toNat) * 2 ^ 3 + x6.toNat)
  have b : x0.toNat < 2 ^ 5 ∧ x1.toNat < 2 ^ 5 ∧ x2.toNat < 2 ^ 5 ∧ x3.toNat < 2 ^ 5 ∧ x4.toNat < 2 ^ 7 ∧ x5.toNat < 2 ^ 1 ∧ x6.toNat < 2 ^ 3 := ⟨x0.isLt, x1.isLt, x2.isLt, x3.isLt, x4.isLt, x5.isLt, x6.isLt⟩
  refine ⟨?_, ?_, ?_, ?_, ?_, ?_, ?_⟩ <;> apply field_eq <;> rw [hn] <;> omega

theorem fields_5_5_21 (x0 : BitVec 5) (x1 : BitVec 5) (x2 : BitVec 21) (w : BitVec 31) (h : x0 ++ x1 ++ x2 = w) :
    fld w 26 5 = x0 ∧ fld w 21 5 = x1 ∧ fld w 0 21 = x2 := by
  have hn : w.toNat = ((x0.toNat) * 2 ^ 5 + x1.toNat) * 2 ^ 21 + x2.toNat := h ▸ (by simp only [append_toNat] : (x0 ++ x1 ++ x2).toNat = ((x0.toNat) * 2 ^ 5 + x1.toNat) * 2 ^ 21 + x2.toNat)
  have b : x0.toNat < 2 ^ 5 ∧ x1.toNat < 2 ^ 5 ∧ x2.toNat < 2 ^ 21 := ⟨x0.isLt, x1.isLt, x2.isLt⟩
  refine ⟨?_, ?_, ?_⟩ <;> apply field_eq <;> rw [hn] <;> omega

theorem fields_5_5_5_5_5_2_1_3 (x0 : BitVec 5) (x1 : BitVec 5) (x2 : BitVec 5) (x3 : BitVec 5) (x4 : BitVec 5) (x5 : BitVec 2) (x6 : BitVec 1) (x7 : BitVec 3) (w : BitVec 31) (h : x0 ++ x1 ++ x2 ++ x3 ++ x4 ++ x5 ++ x6 ++ x7 = w) :
    fld w 26 5 = x0 ∧ fld w 21 5 = x1 ∧ fld w 16 5 = x2 ∧ fld w 11 5 = x3 ∧ fld w 6 5 = x4 ∧ fld w 4 2 = x5 ∧ fld w 3 1 = x6 ∧ fld w 0 3 = x7 := by
  have hn : w.toNat = (((((((x0.toNat) * 2 ^ 5 + x1.toNat) * 2 ^ 5 + x2.toNat) * 2 ^ 5 + x3.toNat) * 2 ^ 5 + x4.toNat) * 2 ^ 2 + x5.toNat) * 2 ^ 1 + x6.toNat) * 2 ^ 3 + x7.toNat := h ▸ (by simp only [append_toNat] : (x0 ++ x1 ++ x2 ++ x3 ++ x4 ++ x5 ++ x6 ++ x7).toNat = (((((((x0.toNat) * 2 ^ 5 + x1.toNat) * 2 ^ 5 + x2.toNat) * 2 ^ 5 + x3.toNat) * 2 ^ 5 + x4.toNat) * 2 ^ 2 + x5.toNat) * 2 ^ 1 + x6.toNat) * 2 ^ 3 + x7.toNat)
  have b : x0.toNat < 2 ^ 5 ∧ x1.toNat < 2 ^ 5 ∧ x2.toNat < 2 ^ 5 ∧ x3.toNat < 2 ^ 5 ∧ x4.toNat < 2 ^ 5 ∧ x5.toNat < 2 ^ 2 ∧ x6.toNat < 2 ^ 1 ∧ x7.toNat < 2 ^ 3 := ⟨x0.isLt, x1.isLt, x2.isLt, x3.isLt, x4.isLt, x5.isLt, x6.isLt, x7.isLt⟩
  refine ⟨?_, ?_, ?_, ?_, ?_, ?_, ?_, ?_⟩ <;> apply field_eq <;> rw [hn] <;> omega

theorem fields_5_5_5_5_5_3_3 (x0 : BitVec 5) (x1 : BitVec 5) (x2 : BitVec 5) (x3 : BitVec 5) (x4 : BitVec 5) (x5 : BitVec 3) (x6 : BitVec 3) (w : BitVec 31) (h : x0 ++ x1 ++ x2 ++ x3 ++ x4 ++ x5 ++ x6 = w) :
    fld w 26 5 = x0 ∧ fld w 21 5 = x1 ∧ fld w 16 5 = x2 ∧ fld w 11 5 = x3 ∧ fld w 6 5 = x4 ∧ fld w 3 3 = x5 ∧ fld w 0 3 = x6 := by
  have hn : w.toNat = ((((((x0.toNat) * 2 ^ 5 + x1.toNat) * 2 ^ 5 + x2.toNat) * 2 ^ 5 + x3.toNat) * 2 ^ 5 + x4.toNat) * 2 ^ 3 + x5.toNat) * 2 ^ 3 + x6.toNat := h ▸ (by simp only [append_toNat] : (x0 ++ x1 ++ x2 ++ x3 ++ x4 ++ x5 ++ x6).toNat = ((((((x0.toNat) * 2 ^ 5 + x1.toNat) * 2 ^ 5 + x2.toNat) * 2 ^ 5 + x3.toNat) * 2 ^ 5 + x4.toNat) * 2 ^ 3 + x5.toNat) * 2 ^ 3 + x6.toNat)
  have b : x0.toNat < 2 ^ 5 ∧ x1.toNat < 2 ^ 5 ∧ x2.toNat < 2 ^ 5 ∧ x3.toNat < 2 ^ 5 ∧ x4.toNat < 2 ^ 5 ∧ x5.toNat < 2 ^ 3 ∧ x6.toNat < 2 ^ 3 := ⟨x0.isLt, x1.isLt, x2.isLt, x3.isLt, x4.isLt, x5.isLt, x6.isLt⟩
  refine ⟨?_, ?_, ?_, ?_, ?_, ?_, ?_⟩ <;> apply field_eq <;> rw [hn] <;> omega

theorem fields_5_5_5_5_5_6 (x0 : BitVec 5) (x1 : BitVec 5) (x2 : BitVec 5) (x3 : BitVec 5) (x4 : BitVec 5) (x5 : BitVec 6) (w : BitVec 31) (h : x0 ++ x1 ++ x2 ++ x3 ++ x4 ++ x5 = w) :
    fld w 26 5 = x0 ∧ fld w 21 5 = x1 ∧ fld w 16 5 = x2 ∧ fld w 11 5 = x3 ∧ fld w 6 5 = x4 ∧ fld w 0 6 = x5 := by
  have hn : w.toNat = (((((x0.toNat) * 2 ^ 5 + x1.toNat) * 2 ^ 5 + x2.toNat) * 2 ^ 5 + x3.toNat) * 2 ^ 5 + x4.toNat) * 2 ^ 6 + x5.toNat := h ▸ (by simp only [append_toNat] : (x0 ++ x1 ++ x2 ++ x3 ++ x4 ++ x5).toNat = (((((x0.toNat) * 2 ^ 5 + x1.toNat) * 2 ^ 5 + x2.toNat) * 2 ^ 5 + x3.toNat) * 2 ^ 5 + x4.toNat) * 2 ^ 6 + x5.toNat)
  have b : x0.toNat < 2 ^ 5 ∧ x1.toNat < 2 ^ 5 ∧ x2.toNat < 2 ^ 5 ∧ x3.toNat < 2 ^ 5 ∧ x4.toNat < 2 ^ 5 ∧ x5.toNat < 2 ^ 6 := ⟨x0.isLt, x1.isLt, x2.isLt, x3.isLt, x4.isLt, x5.isLt⟩
  refine ⟨?_, ?_, ?_, ?_, ?_, ?_⟩ <;> apply field_eq <;> rw [hn] <;> omega

theorem nop : Statement .nop := fun w hwf h => by
  obtain ⟨h0, h1, h2⟩ := fields_5_6_20 _ _ _ w (Option.some.inj h)
  simp [decodeBody, decodeCtl, accept, h0, h1, h2, hwf]
theorem exit : Statement .exit := fun w hwf h => by
  obtain ⟨h0, h1, h2⟩ := fields_5_6_20 _ _ _ w (Option.some.inj h)
  simp [decodeBody, decodeCtl, accept, h0, h1, h2, hwf]
theorem gbar : Statement .gbar := fun w hwf h => by
  obtain ⟨h0, h1, h2⟩ := fields_5_6_20 _ _ _ w (Option.some.inj h)
  simp [decodeBody, decodeCtl, accept, h0, h1, h2, hwf]
theorem ubar : Statement .ubar := fun w hwf h => by
  obtain ⟨h0, h1, h2⟩ := fields_5_6_20 _ _ _ w (Option.some.inj h)
  simp [decodeBody, decodeCtl, accept, h0, h1, h2, hwf]
theorem wait (vm : BitVec 6) (sp : BitVec 6) : Statement (.wait vm sp) := fun w hwf h => by
  obtain ⟨h0, h1, h2, h3, h4⟩ := fields_5_6_8_6_6 _ _ _ _ _ w (Option.some.inj h)
  simp [decodeBody, decodeCtl, accept, h0, h1, h2, h3, h4, hwf]
theorem trap (code : BitVec 16) : Statement (.trap code) := fun w hwf h => by
  obtain ⟨h0, h1, h2, h3⟩ := fields_5_6_4_16 _ _ _ _ w (Option.some.inj h)
  simp [decodeBody, decodeCtl, accept, h0, h1, h2, h3, hwf]
theorem bkpt (tag : BitVec 16) : Statement (.bkpt tag) := fun w hwf h => by
  obtain ⟨h0, h1, h2, h3⟩ := fields_5_6_4_16 _ _ _ _ w (Option.some.inj h)
  simp [decodeBody, decodeCtl, accept, h0, h1, h2, h3, hwf]
theorem rett : Statement .rett := fun w hwf h => by
  obtain ⟨h0, h1, h2⟩ := fields_5_6_20 _ _ _ w (Option.some.inj h)
  simp [decodeBody, decodeCtl, accept, h0, h1, h2, hwf]
theorem cancelGraph (h : BitVec 5) : Statement (.cancelGraph h) := fun w hwf h => by
  obtain ⟨h0, h1, h2, h3⟩ := fields_5_6_15_5 _ _ _ _ w (Option.some.inj h)
  simp [decodeBody, decodeCtl, accept, h0, h1, h2, h3, hwf]
theorem cancelPhase (h : BitVec 5) : Statement (.cancelPhase h) := fun w hwf h => by
  obtain ⟨h0, h1, h2, h3⟩ := fields_5_6_15_5 _ _ _ _ w (Option.some.inj h)
  simp [decodeBody, decodeCtl, accept, h0, h1, h2, h3, hwf]
theorem cancelJob (h : BitVec 5) : Statement (.cancelJob h) := fun w hwf h => by
  obtain ⟨h0, h1, h2, h3⟩ := fields_5_6_15_5 _ _ _ _ w (Option.some.inj h)
  simp [decodeBody, decodeCtl, accept, h0, h1, h2, h3, hwf]
theorem ctxsv (h : BitVec 5) : Statement (.ctxsv h) := fun w hwf h => by
  obtain ⟨h0, h1, h2, h3⟩ := fields_5_6_15_5 _ _ _ _ w (Option.some.inj h)
  simp [decodeBody, decodeCtl, accept, h0, h1, h2, h3, hwf]
theorem br (disp : BitVec 16) : Statement (.br disp) := fun w hwf h => by
  obtain ⟨h0, h1, h2, h3⟩ := fields_5_4_6_16 _ _ _ _ w (Option.some.inj h)
  simp [decodeBody, decodeBranch, accept, h0, h1, h2, h3, hwf]
theorem brZ (c : BitVec 6) (disp : BitVec 16) : Statement (.brZ c disp) := fun w hwf h => by
  obtain ⟨h0, h1, h2, h3⟩ := fields_5_4_6_16 _ _ _ _ w (Option.some.inj h)
  simp [decodeBody, decodeBranch, accept, h0, h1, h2, h3, hwf]
theorem brNz (c : BitVec 6) (disp : BitVec 16) : Statement (.brNz c disp) := fun w hwf h => by
  obtain ⟨h0, h1, h2, h3⟩ := fields_5_4_6_16 _ _ _ _ w (Option.some.inj h)
  simp [decodeBody, decodeBranch, accept, h0, h1, h2, h3, hwf]
theorem brd (m : BitVec 4) (disp : BitVec 16) : Statement (.brd m disp) := fun w hwf h => by
  obtain ⟨h0, h1, h2, h3, h4⟩ := fields_5_4_2_4_16 _ _ _ _ _ w (Option.some.inj h)
  simp [decodeBody, decodeBranch, accept, h0, h1, h2, h3, h4, hwf]
theorem brdN (m : BitVec 4) (disp : BitVec 16) : Statement (.brdN m disp) := fun w hwf h => by
  obtain ⟨h0, h1, h2, h3, h4⟩ := fields_5_4_2_4_16 _ _ _ _ _ w (Option.some.inj h)
  simp [decodeBody, decodeBranch, accept, h0, h1, h2, h3, h4, hwf]
theorem call (link : BitVec 6) (disp : BitVec 16) : Statement (.call link disp) := fun w hwf h => by
  obtain ⟨h0, h1, h2, h3⟩ := fields_5_4_6_16 _ _ _ _ w (Option.some.inj h)
  simp [decodeBody, decodeBranch, accept, h0, h1, h2, h3, hwf]
theorem ret (link : BitVec 6) : Statement (.ret link) := fun w hwf h => by
  obtain ⟨h0, h1, h2, h3⟩ := fields_5_4_6_16 _ _ _ _ w (Option.some.inj h)
  simp [decodeBody, decodeBranch, accept, h0, h1, h2, h3, hwf]
theorem spawn (c : BitVec 6) (disp : BitVec 16) : Statement (.spawn c disp) := fun w hwf h => by
  obtain ⟨h0, h1, h2, h3⟩ := fields_5_4_6_16 _ _ _ _ w (Option.some.inj h)
  simp [decodeBody, decodeBranch, accept, h0, h1, h2, h3, hwf]
theorem add (d : BitVec 6) (a : BitVec 6) (b : BitVec 6) : Statement (.add d a b) := fun w hwf h => by
  obtain ⟨h0, h1, h2, h3, h4, h5⟩ := fields_5_6_6_6_6_2 _ _ _ _ _ _ w (Option.some.inj h)
  simp [decodeBody, decodeSalu, accept, h0, h1, h2, h3, h4, h5, hwf]
theorem sub (d : BitVec 6) (a : BitVec 6) (b : BitVec 6) : Statement (.sub d a b) := fun w hwf h => by
  obtain ⟨h0, h1, h2, h3, h4, h5⟩ := fields_5_6_6_6_6_2 _ _ _ _ _ _ w (Option.some.inj h)
  simp [decodeBody, decodeSalu, accept, h0, h1, h2, h3, h4, h5, hwf]
theorem mul (d : BitVec 6) (a : BitVec 6) (b : BitVec 6) : Statement (.mul d a b) := fun w hwf h => by
  obtain ⟨h0, h1, h2, h3, h4, h5⟩ := fields_5_6_6_6_6_2 _ _ _ _ _ _ w (Option.some.inj h)
  simp [decodeBody, decodeSalu, accept, h0, h1, h2, h3, h4, h5, hwf]
theorem mulhiI64 (d : BitVec 6) (a : BitVec 6) (b : BitVec 6) : Statement (.mulhiI64 d a b) := fun w hwf h => by
  obtain ⟨h0, h1, h2, h3, h4, h5⟩ := fields_5_6_6_6_6_2 _ _ _ _ _ _ w (Option.some.inj h)
  simp [decodeBody, decodeSalu, accept, h0, h1, h2, h3, h4, h5, hwf]
theorem mulhiN64 (d : BitVec 6) (a : BitVec 6) (b : BitVec 6) : Statement (.mulhiN64 d a b) := fun w hwf h => by
  obtain ⟨h0, h1, h2, h3, h4, h5⟩ := fields_5_6_6_6_6_2 _ _ _ _ _ _ w (Option.some.inj h)
  simp [decodeBody, decodeSalu, accept, h0, h1, h2, h3, h4, h5, hwf]
theorem and (d : BitVec 6) (a : BitVec 6) (b : BitVec 6) : Statement (.and d a b) := fun w hwf h => by
  obtain ⟨h0, h1, h2, h3, h4, h5⟩ := fields_5_6_6_6_6_2 _ _ _ _ _ _ w (Option.some.inj h)
  simp [decodeBody, decodeSalu, accept, h0, h1, h2, h3, h4, h5, hwf]
theorem or (d : BitVec 6) (a : BitVec 6) (b : BitVec 6) : Statement (.or d a b) := fun w hwf h => by
  obtain ⟨h0, h1, h2, h3, h4, h5⟩ := fields_5_6_6_6_6_2 _ _ _ _ _ _ w (Option.some.inj h)
  simp [decodeBody, decodeSalu, accept, h0, h1, h2, h3, h4, h5, hwf]
theorem xor (d : BitVec 6) (a : BitVec 6) (b : BitVec 6) : Statement (.xor d a b) := fun w hwf h => by
  obtain ⟨h0, h1, h2, h3, h4, h5⟩ := fields_5_6_6_6_6_2 _ _ _ _ _ _ w (Option.some.inj h)
  simp [decodeBody, decodeSalu, accept, h0, h1, h2, h3, h4, h5, hwf]
theorem shl (d : BitVec 6) (a : BitVec 6) (b : BitVec 6) : Statement (.shl d a b) := fun w hwf h => by
  obtain ⟨h0, h1, h2, h3, h4, h5⟩ := fields_5_6_6_6_6_2 _ _ _ _ _ _ w (Option.some.inj h)
  simp [decodeBody, decodeSalu, accept, h0, h1, h2, h3, h4, h5, hwf]
theorem shr (d : BitVec 6) (a : BitVec 6) (b : BitVec 6) : Statement (.shr d a b) := fun w hwf h => by
  obtain ⟨h0, h1, h2, h3, h4, h5⟩ := fields_5_6_6_6_6_2 _ _ _ _ _ _ w (Option.some.inj h)
  simp [decodeBody, decodeSalu, accept, h0, h1, h2, h3, h4, h5, hwf]
theorem sar (d : BitVec 6) (a : BitVec 6) (b : BitVec 6) : Statement (.sar d a b) := fun w hwf h => by
  obtain ⟨h0, h1, h2, h3, h4, h5⟩ := fields_5_6_6_6_6_2 _ _ _ _ _ _ w (Option.some.inj h)
  simp [decodeBody, decodeSalu, accept, h0, h1, h2, h3, h4, h5, hwf]
theorem minI64 (d : BitVec 6) (a : BitVec 6) (b : BitVec 6) : Statement (.minI64 d a b) := fun w hwf h => by
  obtain ⟨h0, h1, h2, h3, h4, h5⟩ := fields_5_6_6_6_6_2 _ _ _ _ _ _ w (Option.some.inj h)
  simp [decodeBody, decodeSalu, accept, h0, h1, h2, h3, h4, h5, hwf]
theorem minN64 (d : BitVec 6) (a : BitVec 6) (b : BitVec 6) : Statement (.minN64 d a b) := fun w hwf h => by
  obtain ⟨h0, h1, h2, h3, h4, h5⟩ := fields_5_6_6_6_6_2 _ _ _ _ _ _ w (Option.some.inj h)
  simp [decodeBody, decodeSalu, accept, h0, h1, h2, h3, h4, h5, hwf]
theorem maxI64 (d : BitVec 6) (a : BitVec 6) (b : BitVec 6) : Statement (.maxI64 d a b) := fun w hwf h => by
  obtain ⟨h0, h1, h2, h3, h4, h5⟩ := fields_5_6_6_6_6_2 _ _ _ _ _ _ w (Option.some.inj h)
  simp [decodeBody, decodeSalu, accept, h0, h1, h2, h3, h4, h5, hwf]
theorem maxN64 (d : BitVec 6) (a : BitVec 6) (b : BitVec 6) : Statement (.maxN64 d a b) := fun w hwf h => by
  obtain ⟨h0, h1, h2, h3, h4, h5⟩ := fields_5_6_6_6_6_2 _ _ _ _ _ _ w (Option.some.inj h)
  simp [decodeBody, decodeSalu, accept, h0, h1, h2, h3, h4, h5, hwf]
theorem seq (d : BitVec 6) (a : BitVec 6) (b : BitVec 6) : Statement (.seq d a b) := fun w hwf h => by
  obtain ⟨h0, h1, h2, h3, h4, h5⟩ := fields_5_6_6_6_6_2 _ _ _ _ _ _ w (Option.some.inj h)
  simp [decodeBody, decodeSalu, accept, h0, h1, h2, h3, h4, h5, hwf]
theorem sltI64 (d : BitVec 6) (a : BitVec 6) (b : BitVec 6) : Statement (.sltI64 d a b) := fun w hwf h => by
  obtain ⟨h0, h1, h2, h3, h4, h5⟩ := fields_5_6_6_6_6_2 _ _ _ _ _ _ w (Option.some.inj h)
  simp [decodeBody, decodeSalu, accept, h0, h1, h2, h3, h4, h5, hwf]
theorem sltN64 (d : BitVec 6) (a : BitVec 6) (b : BitVec 6) : Statement (.sltN64 d a b) := fun w hwf h => by
  obtain ⟨h0, h1, h2, h3, h4, h5⟩ := fields_5_6_6_6_6_2 _ _ _ _ _ _ w (Option.some.inj h)
  simp [decodeBody, decodeSalu, accept, h0, h1, h2, h3, h4, h5, hwf]
theorem mov (d : BitVec 6) (a : BitVec 6) : Statement (.mov d a) := fun w hwf h => by
  obtain ⟨h0, h1, h2, h3, h4⟩ := fields_5_6_6_6_8 _ _ _ _ _ w (Option.some.inj h)
  simp [decodeBody, decodeSalu, accept, h0, h1, h2, h3, h4, hwf]
theorem popc (d : BitVec 6) (a : BitVec 6) : Statement (.popc d a) := fun w hwf h => by
  obtain ⟨h0, h1, h2, h3, h4⟩ := fields_5_6_6_6_8 _ _ _ _ _ w (Option.some.inj h)
  simp [decodeBody, decodeSalu, accept, h0, h1, h2, h3, h4, hwf]
theorem clz (d : BitVec 6) (a : BitVec 6) : Statement (.clz d a) := fun w hwf h => by
  obtain ⟨h0, h1, h2, h3, h4⟩ := fields_5_6_6_6_8 _ _ _ _ _ w (Option.some.inj h)
  simp [decodeBody, decodeSalu, accept, h0, h1, h2, h3, h4, hwf]
theorem mtos (d : BitVec 6) (a : BitVec 6) : Statement (.mtos d a) := fun w hwf h => by
  obtain ⟨h0, h1, h2, h3, h4⟩ := fields_5_6_6_6_8 _ _ _ _ _ w (Option.some.inj h)
  simp [decodeBody, decodeSalu, accept, h0, h1, h2, h3, h4, hwf]
theorem stom (d : BitVec 6) (a : BitVec 6) : Statement (.stom d a) := fun w hwf h => by
  obtain ⟨h0, h1, h2, h3, h4⟩ := fields_5_6_6_6_8 _ _ _ _ _ w (Option.some.inj h)
  simp [decodeBody, decodeSalu, accept, h0, h1, h2, h3, h4, hwf]
theorem mand (d : BitVec 6) (a : BitVec 6) (b : BitVec 6) : Statement (.mand d a b) := fun w hwf h => by
  obtain ⟨h0, h1, h2, h3, h4, h5⟩ := fields_5_6_6_6_6_2 _ _ _ _ _ _ w (Option.some.inj h)
  simp [decodeBody, decodeSalu, accept, h0, h1, h2, h3, h4, h5, hwf]
theorem mor (d : BitVec 6) (a : BitVec 6) (b : BitVec 6) : Statement (.mor d a b) := fun w hwf h => by
  obtain ⟨h0, h1, h2, h3, h4, h5⟩ := fields_5_6_6_6_6_2 _ _ _ _ _ _ w (Option.some.inj h)
  simp [decodeBody, decodeSalu, accept, h0, h1, h2, h3, h4, h5, hwf]
theorem mxor (d : BitVec 6) (a : BitVec 6) (b : BitVec 6) : Statement (.mxor d a b) := fun w hwf h => by
  obtain ⟨h0, h1, h2, h3, h4, h5⟩ := fields_5_6_6_6_6_2 _ _ _ _ _ _ w (Option.some.inj h)
  simp [decodeBody, decodeSalu, accept, h0, h1, h2, h3, h4, h5, hwf]
theorem mnot (d : BitVec 6) (a : BitVec 6) : Statement (.mnot d a) := fun w hwf h => by
  obtain ⟨h0, h1, h2, h3, h4⟩ := fields_5_6_6_6_8 _ _ _ _ _ w (Option.some.inj h)
  simp [decodeBody, decodeSalu, accept, h0, h1, h2, h3, h4, hwf]
theorem addi (d : BitVec 6) (a : BitVec 6) (imm : BitVec 10) : Statement (.addi d a imm) := fun w hwf h => by
  obtain ⟨h0, h1, h2, h3, h4⟩ := fields_5_4_6_6_10 _ _ _ _ _ w (Option.some.inj h)
  simp [decodeBody, decodeSalui, accept, h0, h1, h2, h3, h4, hwf]
theorem andi (d : BitVec 6) (a : BitVec 6) (imm : BitVec 10) : Statement (.andi d a imm) := fun w hwf h => by
  obtain ⟨h0, h1, h2, h3, h4⟩ := fields_5_4_6_6_10 _ _ _ _ _ w (Option.some.inj h)
  simp [decodeBody, decodeSalui, accept, h0, h1, h2, h3, h4, hwf]
theorem ori (d : BitVec 6) (a : BitVec 6) (imm : BitVec 10) : Statement (.ori d a imm) := fun w hwf h => by
  obtain ⟨h0, h1, h2, h3, h4⟩ := fields_5_4_6_6_10 _ _ _ _ _ w (Option.some.inj h)
  simp [decodeBody, decodeSalui, accept, h0, h1, h2, h3, h4, hwf]
theorem xori (d : BitVec 6) (a : BitVec 6) (imm : BitVec 10) : Statement (.xori d a imm) := fun w hwf h => by
  obtain ⟨h0, h1, h2, h3, h4⟩ := fields_5_4_6_6_10 _ _ _ _ _ w (Option.some.inj h)
  simp [decodeBody, decodeSalui, accept, h0, h1, h2, h3, h4, hwf]
theorem shli (d : BitVec 6) (a : BitVec 6) (n : BitVec 6) : Statement (.shli d a n) := fun w hwf h => by
  obtain ⟨h0, h1, h2, h3, h4, h5⟩ := fields_5_4_6_6_4_6 _ _ _ _ _ _ w (Option.some.inj h)
  simp [decodeBody, decodeSalui, accept, h0, h1, h2, h3, h4, h5, hwf]
theorem shri (d : BitVec 6) (a : BitVec 6) (n : BitVec 6) : Statement (.shri d a n) := fun w hwf h => by
  obtain ⟨h0, h1, h2, h3, h4, h5⟩ := fields_5_4_6_6_4_6 _ _ _ _ _ _ w (Option.some.inj h)
  simp [decodeBody, decodeSalui, accept, h0, h1, h2, h3, h4, h5, hwf]
theorem sari (d : BitVec 6) (a : BitVec 6) (n : BitVec 6) : Statement (.sari d a n) := fun w hwf h => by
  obtain ⟨h0, h1, h2, h3, h4, h5⟩ := fields_5_4_6_6_4_6 _ _ _ _ _ _ w (Option.some.inj h)
  simp [decodeBody, decodeSalui, accept, h0, h1, h2, h3, h4, h5, hwf]
theorem seqi (d : BitVec 6) (a : BitVec 6) (imm : BitVec 10) : Statement (.seqi d a imm) := fun w hwf h => by
  obtain ⟨h0, h1, h2, h3, h4⟩ := fields_5_4_6_6_10 _ _ _ _ _ w (Option.some.inj h)
  simp [decodeBody, decodeSalui, accept, h0, h1, h2, h3, h4, hwf]
theorem sltiI64 (d : BitVec 6) (a : BitVec 6) (imm : BitVec 10) : Statement (.sltiI64 d a imm) := fun w hwf h => by
  obtain ⟨h0, h1, h2, h3, h4⟩ := fields_5_4_6_6_10 _ _ _ _ _ w (Option.some.inj h)
  simp [decodeBody, decodeSalui, accept, h0, h1, h2, h3, h4, hwf]
theorem sltiN64 (d : BitVec 6) (a : BitVec 6) (imm : BitVec 10) : Statement (.sltiN64 d a imm) := fun w hwf h => by
  obtain ⟨h0, h1, h2, h3, h4⟩ := fields_5_4_6_6_10 _ _ _ _ _ w (Option.some.inj h)
  simp [decodeBody, decodeSalui, accept, h0, h1, h2, h3, h4, hwf]
theorem ldi (d : BitVec 6) (k : BitVec 2) (imm : BitVec 16) : Statement (.ldi d k imm) := fun w hwf h => by
  obtain ⟨h0, h1, h2, h3, h4, h5⟩ := fields_5_1_6_2_1_16 _ _ _ _ _ _ w (Option.some.inj h)
  simp [decodeBody, decodeLdi, accept, h0, h1, h2, h3, h4, h5, hwf]
theorem ldih (d : BitVec 6) (k : BitVec 2) (imm : BitVec 16) : Statement (.ldih d k imm) := fun w hwf h => by
  obtain ⟨h0, h1, h2, h3, h4, h5⟩ := fields_5_1_6_2_1_16 _ _ _ _ _ _ w (Option.some.inj h)
  simp [decodeBody, decodeLdi, accept, h0, h1, h2, h3, h4, h5, hwf]
theorem srd (d : BitVec 6) (num : BitVec 8) : Statement (.srd d num) := fun w hwf h => by
  obtain ⟨h0, h1, h2, h3, h4⟩ := fields_5_2_6_10_8 _ _ _ _ _ w (Option.some.inj h)
  simp [decodeBody, decodeSreg, accept, h0, h1, h2, h3, h4, hwf]
theorem swr (d : BitVec 6) (num : BitVec 8) : Statement (.swr d num) := fun w hwf h => by
  obtain ⟨h0, h1, h2, h3, h4⟩ := fields_5_2_6_10_8 _ _ _ _ _ w (Option.some.inj h)
  simp [decodeBody, decodeSreg, accept, h0, h1, h2, h3, h4, hwf]
theorem sldB64 (d : BitVec 6) (a : BitVec 6) (imm : BitVec 10) : Statement (.sldB64 d a imm) := fun w hwf h => by
  obtain ⟨h0, h1, h2, h3, h4⟩ := fields_5_4_6_6_10 _ _ _ _ _ w (Option.some.inj h)
  simp [decodeBody, decodeSmem, accept, h0, h1, h2, h3, h4, hwf]
theorem sldN32 (d : BitVec 6) (a : BitVec 6) (imm : BitVec 10) : Statement (.sldN32 d a imm) := fun w hwf h => by
  obtain ⟨h0, h1, h2, h3, h4⟩ := fields_5_4_6_6_10 _ _ _ _ _ w (Option.some.inj h)
  simp [decodeBody, decodeSmem, accept, h0, h1, h2, h3, h4, hwf]
theorem sldI32 (d : BitVec 6) (a : BitVec 6) (imm : BitVec 10) : Statement (.sldI32 d a imm) := fun w hwf h => by
  obtain ⟨h0, h1, h2, h3, h4⟩ := fields_5_4_6_6_10 _ _ _ _ _ w (Option.some.inj h)
  simp [decodeBody, decodeSmem, accept, h0, h1, h2, h3, h4, hwf]
theorem sstB64 (d : BitVec 6) (a : BitVec 6) (imm : BitVec 10) : Statement (.sstB64 d a imm) := fun w hwf h => by
  obtain ⟨h0, h1, h2, h3, h4⟩ := fields_5_4_6_6_10 _ _ _ _ _ w (Option.some.inj h)
  simp [decodeBody, decodeSmem, accept, h0, h1, h2, h3, h4, hwf]
theorem sstB32 (d : BitVec 6) (a : BitVec 6) (imm : BitVec 10) : Statement (.sstB32 d a imm) := fun w hwf h => by
  obtain ⟨h0, h1, h2, h3, h4⟩ := fields_5_4_6_6_10 _ _ _ _ _ w (Option.some.inj h)
  simp [decodeBody, decodeSmem, accept, h0, h1, h2, h3, h4, hwf]
theorem dsld (d : BitVec 6) (a : BitVec 6) (imm : BitVec 10) : Statement (.dsld d a imm) := fun w hwf h => by
  obtain ⟨h0, h1, h2, h3, h4⟩ := fields_5_4_6_6_10 _ _ _ _ _ w (Option.some.inj h)
  simp [decodeBody, decodeSmem, accept, h0, h1, h2, h3, h4, hwf]
theorem dsst (d : BitVec 6) (a : BitVec 6) (imm : BitVec 10) : Statement (.dsst d a imm) := fun w hwf h => by
  obtain ⟨h0, h1, h2, h3, h4⟩ := fields_5_4_6_6_10 _ _ _ _ _ w (Option.some.inj h)
  simp [decodeBody, decodeSmem, accept, h0, h1, h2, h3, h4, hwf]
theorem sldsB64 (d : BitVec 6) (a : BitVec 6) (imm : BitVec 10) : Statement (.sldsB64 d a imm) := fun w hwf h => by
  obtain ⟨h0, h1, h2, h3, h4⟩ := fields_5_4_6_6_10 _ _ _ _ _ w (Option.some.inj h)
  simp [decodeBody, decodeSmem, accept, h0, h1, h2, h3, h4, hwf]
theorem sstsB64 (d : BitVec 6) (a : BitVec 6) (imm : BitVec 10) : Statement (.sstsB64 d a imm) := fun w hwf h => by
  obtain ⟨h0, h1, h2, h3, h4⟩ := fields_5_4_6_6_10 _ _ _ _ _ w (Option.some.inj h)
  simp [decodeBody, decodeSmem, accept, h0, h1, h2, h3, h4, hwf]
theorem vaddI32 (d : BitVec 7) (a : BitVec 7) (b : BitVec 7) : Statement (.vaddI32 d a b) := fun w hwf h => by
  obtain ⟨h0, h1, h2, h3, h4⟩ := fields_5_5_7_7_7 _ _ _ _ _ w (Option.some.inj h)
  simp [decodeBody, decodeVint, accept, h0, h1, h2, h3, h4, hwf]
theorem vaddN32 (d : BitVec 7) (a : BitVec 7) (b : BitVec 7) : Statement (.vaddN32 d a b) := fun w hwf h => by
  obtain ⟨h0, h1, h2, h3, h4⟩ := fields_5_5_7_7_7 _ _ _ _ _ w (Option.some.inj h)
  simp [decodeBody, decodeVint, accept, h0, h1, h2, h3, h4, hwf]
theorem vsubI32 (d : BitVec 7) (a : BitVec 7) (b : BitVec 7) : Statement (.vsubI32 d a b) := fun w hwf h => by
  obtain ⟨h0, h1, h2, h3, h4⟩ := fields_5_5_7_7_7 _ _ _ _ _ w (Option.some.inj h)
  simp [decodeBody, decodeVint, accept, h0, h1, h2, h3, h4, hwf]
theorem vsubN32 (d : BitVec 7) (a : BitVec 7) (b : BitVec 7) : Statement (.vsubN32 d a b) := fun w hwf h => by
  obtain ⟨h0, h1, h2, h3, h4⟩ := fields_5_5_7_7_7 _ _ _ _ _ w (Option.some.inj h)
  simp [decodeBody, decodeVint, accept, h0, h1, h2, h3, h4, hwf]
theorem vmulI32 (d : BitVec 7) (a : BitVec 7) (b : BitVec 7) : Statement (.vmulI32 d a b) := fun w hwf h => by
  obtain ⟨h0, h1, h2, h3, h4⟩ := fields_5_5_7_7_7 _ _ _ _ _ w (Option.some.inj h)
  simp [decodeBody, decodeVint, accept, h0, h1, h2, h3, h4, hwf]
theorem vmulN32 (d : BitVec 7) (a : BitVec 7) (b : BitVec 7) : Statement (.vmulN32 d a b) := fun w hwf h => by
  obtain ⟨h0, h1, h2, h3, h4⟩ := fields_5_5_7_7_7 _ _ _ _ _ w (Option.some.inj h)
  simp [decodeBody, decodeVint, accept, h0, h1, h2, h3, h4, hwf]
theorem vmulhiI32 (d : BitVec 7) (a : BitVec 7) (b : BitVec 7) : Statement (.vmulhiI32 d a b) := fun w hwf h => by
  obtain ⟨h0, h1, h2, h3, h4⟩ := fields_5_5_7_7_7 _ _ _ _ _ w (Option.some.inj h)
  simp [decodeBody, decodeVint, accept, h0, h1, h2, h3, h4, hwf]
theorem vmulhiN32 (d : BitVec 7) (a : BitVec 7) (b : BitVec 7) : Statement (.vmulhiN32 d a b) := fun w hwf h => by
  obtain ⟨h0, h1, h2, h3, h4⟩ := fields_5_5_7_7_7 _ _ _ _ _ w (Option.some.inj h)
  simp [decodeBody, decodeVint, accept, h0, h1, h2, h3, h4, hwf]
theorem vaddsI32 (d : BitVec 7) (a : BitVec 7) (b : BitVec 7) : Statement (.vaddsI32 d a b) := fun w hwf h => by
  obtain ⟨h0, h1, h2, h3, h4⟩ := fields_5_5_7_7_7 _ _ _ _ _ w (Option.some.inj h)
  simp [decodeBody, decodeVint, accept, h0, h1, h2, h3, h4, hwf]
theorem vaddsN32 (d : BitVec 7) (a : BitVec 7) (b : BitVec 7) : Statement (.vaddsN32 d a b) := fun w hwf h => by
  obtain ⟨h0, h1, h2, h3, h4⟩ := fields_5_5_7_7_7 _ _ _ _ _ w (Option.some.inj h)
  simp [decodeBody, decodeVint, accept, h0, h1, h2, h3, h4, hwf]
theorem vsubsI32 (d : BitVec 7) (a : BitVec 7) (b : BitVec 7) : Statement (.vsubsI32 d a b) := fun w hwf h => by
  obtain ⟨h0, h1, h2, h3, h4⟩ := fields_5_5_7_7_7 _ _ _ _ _ w (Option.some.inj h)
  simp [decodeBody, decodeVint, accept, h0, h1, h2, h3, h4, hwf]
theorem vsubsN32 (d : BitVec 7) (a : BitVec 7) (b : BitVec 7) : Statement (.vsubsN32 d a b) := fun w hwf h => by
  obtain ⟨h0, h1, h2, h3, h4⟩ := fields_5_5_7_7_7 _ _ _ _ _ w (Option.some.inj h)
  simp [decodeBody, decodeVint, accept, h0, h1, h2, h3, h4, hwf]
theorem vminI32 (d : BitVec 7) (a : BitVec 7) (b : BitVec 7) : Statement (.vminI32 d a b) := fun w hwf h => by
  obtain ⟨h0, h1, h2, h3, h4⟩ := fields_5_5_7_7_7 _ _ _ _ _ w (Option.some.inj h)
  simp [decodeBody, decodeVint, accept, h0, h1, h2, h3, h4, hwf]
theorem vminN32 (d : BitVec 7) (a : BitVec 7) (b : BitVec 7) : Statement (.vminN32 d a b) := fun w hwf h => by
  obtain ⟨h0, h1, h2, h3, h4⟩ := fields_5_5_7_7_7 _ _ _ _ _ w (Option.some.inj h)
  simp [decodeBody, decodeVint, accept, h0, h1, h2, h3, h4, hwf]
theorem vmaxI32 (d : BitVec 7) (a : BitVec 7) (b : BitVec 7) : Statement (.vmaxI32 d a b) := fun w hwf h => by
  obtain ⟨h0, h1, h2, h3, h4⟩ := fields_5_5_7_7_7 _ _ _ _ _ w (Option.some.inj h)
  simp [decodeBody, decodeVint, accept, h0, h1, h2, h3, h4, hwf]
theorem vmaxN32 (d : BitVec 7) (a : BitVec 7) (b : BitVec 7) : Statement (.vmaxN32 d a b) := fun w hwf h => by
  obtain ⟨h0, h1, h2, h3, h4⟩ := fields_5_5_7_7_7 _ _ _ _ _ w (Option.some.inj h)
  simp [decodeBody, decodeVint, accept, h0, h1, h2, h3, h4, hwf]
theorem vandB32 (d : BitVec 7) (a : BitVec 7) (b : BitVec 7) : Statement (.vandB32 d a b) := fun w hwf h => by
  obtain ⟨h0, h1, h2, h3, h4⟩ := fields_5_5_7_7_7 _ _ _ _ _ w (Option.some.inj h)
  simp [decodeBody, decodeVint, accept, h0, h1, h2, h3, h4, hwf]
theorem vorB32 (d : BitVec 7) (a : BitVec 7) (b : BitVec 7) : Statement (.vorB32 d a b) := fun w hwf h => by
  obtain ⟨h0, h1, h2, h3, h4⟩ := fields_5_5_7_7_7 _ _ _ _ _ w (Option.some.inj h)
  simp [decodeBody, decodeVint, accept, h0, h1, h2, h3, h4, hwf]
theorem vxorB32 (d : BitVec 7) (a : BitVec 7) (b : BitVec 7) : Statement (.vxorB32 d a b) := fun w hwf h => by
  obtain ⟨h0, h1, h2, h3, h4⟩ := fields_5_5_7_7_7 _ _ _ _ _ w (Option.some.inj h)
  simp [decodeBody, decodeVint, accept, h0, h1, h2, h3, h4, hwf]
theorem vnotB32 (d : BitVec 7) (a : BitVec 7) : Statement (.vnotB32 d a) := fun w hwf h => by
  obtain ⟨h0, h1, h2, h3, h4⟩ := fields_5_5_7_7_7 _ _ _ _ _ w (Option.some.inj h)
  simp [decodeBody, decodeVint, accept, h0, h1, h2, h3, h4, hwf]
theorem vshlB32 (d : BitVec 7) (a : BitVec 7) (b : BitVec 7) : Statement (.vshlB32 d a b) := fun w hwf h => by
  obtain ⟨h0, h1, h2, h3, h4⟩ := fields_5_5_7_7_7 _ _ _ _ _ w (Option.some.inj h)
  simp [decodeBody, decodeVint, accept, h0, h1, h2, h3, h4, hwf]
theorem vshrN32 (d : BitVec 7) (a : BitVec 7) (b : BitVec 7) : Statement (.vshrN32 d a b) := fun w hwf h => by
  obtain ⟨h0, h1, h2, h3, h4⟩ := fields_5_5_7_7_7 _ _ _ _ _ w (Option.some.inj h)
  simp [decodeBody, decodeVint, accept, h0, h1, h2, h3, h4, hwf]
theorem vshrI32 (d : BitVec 7) (a : BitVec 7) (b : BitVec 7) : Statement (.vshrI32 d a b) := fun w hwf h => by
  obtain ⟨h0, h1, h2, h3, h4⟩ := fields_5_5_7_7_7 _ _ _ _ _ w (Option.some.inj h)
  simp [decodeBody, decodeVint, accept, h0, h1, h2, h3, h4, hwf]
theorem vpopcB32 (d : BitVec 7) (a : BitVec 7) : Statement (.vpopcB32 d a) := fun w hwf h => by
  obtain ⟨h0, h1, h2, h3, h4⟩ := fields_5_5_7_7_7 _ _ _ _ _ w (Option.some.inj h)
  simp [decodeBody, decodeVint, accept, h0, h1, h2, h3, h4, hwf]
theorem vclzB32 (d : BitVec 7) (a : BitVec 7) : Statement (.vclzB32 d a) := fun w hwf h => by
  obtain ⟨h0, h1, h2, h3, h4⟩ := fields_5_5_7_7_7 _ _ _ _ _ w (Option.some.inj h)
  simp [decodeBody, decodeVint, accept, h0, h1, h2, h3, h4, hwf]
theorem vaddF32 (d : BitVec 7) (a : BitVec 7) (b : BitVec 7) : Statement (.vaddF32 d a b) := fun w hwf h => by
  obtain ⟨h0, h1, h2, h3, h4⟩ := fields_5_5_7_7_7 _ _ _ _ _ w (Option.some.inj h)
  simp [decodeBody, decodeVf32, accept, h0, h1, h2, h3, h4, hwf]
theorem vsubF32 (d : BitVec 7) (a : BitVec 7) (b : BitVec 7) : Statement (.vsubF32 d a b) := fun w hwf h => by
  obtain ⟨h0, h1, h2, h3, h4⟩ := fields_5_5_7_7_7 _ _ _ _ _ w (Option.some.inj h)
  simp [decodeBody, decodeVf32, accept, h0, h1, h2, h3, h4, hwf]
theorem vmulF32 (d : BitVec 7) (a : BitVec 7) (b : BitVec 7) : Statement (.vmulF32 d a b) := fun w hwf h => by
  obtain ⟨h0, h1, h2, h3, h4⟩ := fields_5_5_7_7_7 _ _ _ _ _ w (Option.some.inj h)
  simp [decodeBody, decodeVf32, accept, h0, h1, h2, h3, h4, hwf]
theorem vminF32 (d : BitVec 7) (a : BitVec 7) (b : BitVec 7) : Statement (.vminF32 d a b) := fun w hwf h => by
  obtain ⟨h0, h1, h2, h3, h4⟩ := fields_5_5_7_7_7 _ _ _ _ _ w (Option.some.inj h)
  simp [decodeBody, decodeVf32, accept, h0, h1, h2, h3, h4, hwf]
theorem vmaxF32 (d : BitVec 7) (a : BitVec 7) (b : BitVec 7) : Statement (.vmaxF32 d a b) := fun w hwf h => by
  obtain ⟨h0, h1, h2, h3, h4⟩ := fields_5_5_7_7_7 _ _ _ _ _ w (Option.some.inj h)
  simp [decodeBody, decodeVf32, accept, h0, h1, h2, h3, h4, hwf]
theorem vfmaF32 (d : BitVec 7) (a : BitVec 7) (b : BitVec 7) : Statement (.vfmaF32 d a b) := fun w hwf h => by
  obtain ⟨h0, h1, h2, h3, h4⟩ := fields_5_5_7_7_7 _ _ _ _ _ w (Option.some.inj h)
  simp [decodeBody, decodeVf32, accept, h0, h1, h2, h3, h4, hwf]
theorem vfmsF32 (d : BitVec 7) (a : BitVec 7) (b : BitVec 7) : Statement (.vfmsF32 d a b) := fun w hwf h => by
  obtain ⟨h0, h1, h2, h3, h4⟩ := fields_5_5_7_7_7 _ _ _ _ _ w (Option.some.inj h)
  simp [decodeBody, decodeVf32, accept, h0, h1, h2, h3, h4, hwf]
theorem vfnmaF32 (d : BitVec 7) (a : BitVec 7) (b : BitVec 7) : Statement (.vfnmaF32 d a b) := fun w hwf h => by
  obtain ⟨h0, h1, h2, h3, h4⟩ := fields_5_5_7_7_7 _ _ _ _ _ w (Option.some.inj h)
  simp [decodeBody, decodeVf32, accept, h0, h1, h2, h3, h4, hwf]
theorem vfnmsF32 (d : BitVec 7) (a : BitVec 7) (b : BitVec 7) : Statement (.vfnmsF32 d a b) := fun w hwf h => by
  obtain ⟨h0, h1, h2, h3, h4⟩ := fields_5_5_7_7_7 _ _ _ _ _ w (Option.some.inj h)
  simp [decodeBody, decodeVf32, accept, h0, h1, h2, h3, h4, hwf]
theorem vabsF32 (d : BitVec 7) (a : BitVec 7) : Statement (.vabsF32 d a) := fun w hwf h => by
  obtain ⟨h0, h1, h2, h3, h4⟩ := fields_5_5_7_7_7 _ _ _ _ _ w (Option.some.inj h)
  simp [decodeBody, decodeVf32, accept, h0, h1, h2, h3, h4, hwf]
theorem vnegF32 (d : BitVec 7) (a : BitVec 7) : Statement (.vnegF32 d a) := fun w hwf h => by
  obtain ⟨h0, h1, h2, h3, h4⟩ := fields_5_5_7_7_7 _ _ _ _ _ w (Option.some.inj h)
  simp [decodeBody, decodeVf32, accept, h0, h1, h2, h3, h4, hwf]
theorem vaddF64 (d : BitVec 7) (a : BitVec 7) (b : BitVec 7) : Statement (.vaddF64 d a b) := fun w hwf h => by
  obtain ⟨h0, h1, h2, h3, h4⟩ := fields_5_5_7_7_7 _ _ _ _ _ w (Option.some.inj h)
  simp [decodeBody, decodeVf64, accept, h0, h1, h2, h3, h4, hwf]
theorem vsubF64 (d : BitVec 7) (a : BitVec 7) (b : BitVec 7) : Statement (.vsubF64 d a b) := fun w hwf h => by
  obtain ⟨h0, h1, h2, h3, h4⟩ := fields_5_5_7_7_7 _ _ _ _ _ w (Option.some.inj h)
  simp [decodeBody, decodeVf64, accept, h0, h1, h2, h3, h4, hwf]
theorem vmulF64 (d : BitVec 7) (a : BitVec 7) (b : BitVec 7) : Statement (.vmulF64 d a b) := fun w hwf h => by
  obtain ⟨h0, h1, h2, h3, h4⟩ := fields_5_5_7_7_7 _ _ _ _ _ w (Option.some.inj h)
  simp [decodeBody, decodeVf64, accept, h0, h1, h2, h3, h4, hwf]
theorem vminF64 (d : BitVec 7) (a : BitVec 7) (b : BitVec 7) : Statement (.vminF64 d a b) := fun w hwf h => by
  obtain ⟨h0, h1, h2, h3, h4⟩ := fields_5_5_7_7_7 _ _ _ _ _ w (Option.some.inj h)
  simp [decodeBody, decodeVf64, accept, h0, h1, h2, h3, h4, hwf]
theorem vmaxF64 (d : BitVec 7) (a : BitVec 7) (b : BitVec 7) : Statement (.vmaxF64 d a b) := fun w hwf h => by
  obtain ⟨h0, h1, h2, h3, h4⟩ := fields_5_5_7_7_7 _ _ _ _ _ w (Option.some.inj h)
  simp [decodeBody, decodeVf64, accept, h0, h1, h2, h3, h4, hwf]
theorem vfmaF64 (d : BitVec 7) (a : BitVec 7) (b : BitVec 7) : Statement (.vfmaF64 d a b) := fun w hwf h => by
  obtain ⟨h0, h1, h2, h3, h4⟩ := fields_5_5_7_7_7 _ _ _ _ _ w (Option.some.inj h)
  simp [decodeBody, decodeVf64, accept, h0, h1, h2, h3, h4, hwf]
theorem vfmsF64 (d : BitVec 7) (a : BitVec 7) (b : BitVec 7) : Statement (.vfmsF64 d a b) := fun w hwf h => by
  obtain ⟨h0, h1, h2, h3, h4⟩ := fields_5_5_7_7_7 _ _ _ _ _ w (Option.some.inj h)
  simp [decodeBody, decodeVf64, accept, h0, h1, h2, h3, h4, hwf]
theorem vfnmaF64 (d : BitVec 7) (a : BitVec 7) (b : BitVec 7) : Statement (.vfnmaF64 d a b) := fun w hwf h => by
  obtain ⟨h0, h1, h2, h3, h4⟩ := fields_5_5_7_7_7 _ _ _ _ _ w (Option.some.inj h)
  simp [decodeBody, decodeVf64, accept, h0, h1, h2, h3, h4, hwf]
theorem vfnmsF64 (d : BitVec 7) (a : BitVec 7) (b : BitVec 7) : Statement (.vfnmsF64 d a b) := fun w hwf h => by
  obtain ⟨h0, h1, h2, h3, h4⟩ := fields_5_5_7_7_7 _ _ _ _ _ w (Option.some.inj h)
  simp [decodeBody, decodeVf64, accept, h0, h1, h2, h3, h4, hwf]
theorem vabsF64 (d : BitVec 7) (a : BitVec 7) : Statement (.vabsF64 d a) := fun w hwf h => by
  obtain ⟨h0, h1, h2, h3, h4⟩ := fields_5_5_7_7_7 _ _ _ _ _ w (Option.some.inj h)
  simp [decodeBody, decodeVf64, accept, h0, h1, h2, h3, h4, hwf]
theorem vnegF64 (d : BitVec 7) (a : BitVec 7) : Statement (.vnegF64 d a) := fun w hwf h => by
  obtain ⟨h0, h1, h2, h3, h4⟩ := fields_5_5_7_7_7 _ _ _ _ _ w (Option.some.inj h)
  simp [decodeBody, decodeVf64, accept, h0, h1, h2, h3, h4, hwf]
theorem vaddBf16 (d : BitVec 7) (a : BitVec 7) (b : BitVec 7) : Statement (.vaddBf16 d a b) := fun w hwf h => by
  obtain ⟨h0, h1, h2, h3, h4⟩ := fields_5_5_7_7_7 _ _ _ _ _ w (Option.some.inj h)
  simp [decodeBody, decodeVhalf, accept, h0, h1, h2, h3, h4, hwf]
theorem vsubBf16 (d : BitVec 7) (a : BitVec 7) (b : BitVec 7) : Statement (.vsubBf16 d a b) := fun w hwf h => by
  obtain ⟨h0, h1, h2, h3, h4⟩ := fields_5_5_7_7_7 _ _ _ _ _ w (Option.some.inj h)
  simp [decodeBody, decodeVhalf, accept, h0, h1, h2, h3, h4, hwf]
theorem vmulBf16 (d : BitVec 7) (a : BitVec 7) (b : BitVec 7) : Statement (.vmulBf16 d a b) := fun w hwf h => by
  obtain ⟨h0, h1, h2, h3, h4⟩ := fields_5_5_7_7_7 _ _ _ _ _ w (Option.some.inj h)
  simp [decodeBody, decodeVhalf, accept, h0, h1, h2, h3, h4, hwf]
theorem vminBf16 (d : BitVec 7) (a : BitVec 7) (b : BitVec 7) : Statement (.vminBf16 d a b) := fun w hwf h => by
  obtain ⟨h0, h1, h2, h3, h4⟩ := fields_5_5_7_7_7 _ _ _ _ _ w (Option.some.inj h)
  simp [decodeBody, decodeVhalf, accept, h0, h1, h2, h3, h4, hwf]
theorem vmaxBf16 (d : BitVec 7) (a : BitVec 7) (b : BitVec 7) : Statement (.vmaxBf16 d a b) := fun w hwf h => by
  obtain ⟨h0, h1, h2, h3, h4⟩ := fields_5_5_7_7_7 _ _ _ _ _ w (Option.some.inj h)
  simp [decodeBody, decodeVhalf, accept, h0, h1, h2, h3, h4, hwf]
theorem vfmaBf16 (d : BitVec 7) (a : BitVec 7) (b : BitVec 7) : Statement (.vfmaBf16 d a b) := fun w hwf h => by
  obtain ⟨h0, h1, h2, h3, h4⟩ := fields_5_5_7_7_7 _ _ _ _ _ w (Option.some.inj h)
  simp [decodeBody, decodeVhalf, accept, h0, h1, h2, h3, h4, hwf]
theorem vfmsBf16 (d : BitVec 7) (a : BitVec 7) (b : BitVec 7) : Statement (.vfmsBf16 d a b) := fun w hwf h => by
  obtain ⟨h0, h1, h2, h3, h4⟩ := fields_5_5_7_7_7 _ _ _ _ _ w (Option.some.inj h)
  simp [decodeBody, decodeVhalf, accept, h0, h1, h2, h3, h4, hwf]
theorem vfnmaBf16 (d : BitVec 7) (a : BitVec 7) (b : BitVec 7) : Statement (.vfnmaBf16 d a b) := fun w hwf h => by
  obtain ⟨h0, h1, h2, h3, h4⟩ := fields_5_5_7_7_7 _ _ _ _ _ w (Option.some.inj h)
  simp [decodeBody, decodeVhalf, accept, h0, h1, h2, h3, h4, hwf]
theorem vfnmsBf16 (d : BitVec 7) (a : BitVec 7) (b : BitVec 7) : Statement (.vfnmsBf16 d a b) := fun w hwf h => by
  obtain ⟨h0, h1, h2, h3, h4⟩ := fields_5_5_7_7_7 _ _ _ _ _ w (Option.some.inj h)
  simp [decodeBody, decodeVhalf, accept, h0, h1, h2, h3, h4, hwf]
theorem vabsBf16 (d : BitVec 7) (a : BitVec 7) : Statement (.vabsBf16 d a) := fun w hwf h => by
  obtain ⟨h0, h1, h2, h3, h4⟩ := fields_5_5_7_7_7 _ _ _ _ _ w (Option.some.inj h)
  simp [decodeBody, decodeVhalf, accept, h0, h1, h2, h3, h4, hwf]
theorem vnegBf16 (d : BitVec 7) (a : BitVec 7) : Statement (.vnegBf16 d a) := fun w hwf h => by
  obtain ⟨h0, h1, h2, h3, h4⟩ := fields_5_5_7_7_7 _ _ _ _ _ w (Option.some.inj h)
  simp [decodeBody, decodeVhalf, accept, h0, h1, h2, h3, h4, hwf]
theorem vaddF16 (d : BitVec 7) (a : BitVec 7) (b : BitVec 7) : Statement (.vaddF16 d a b) := fun w hwf h => by
  obtain ⟨h0, h1, h2, h3, h4⟩ := fields_5_5_7_7_7 _ _ _ _ _ w (Option.some.inj h)
  simp [decodeBody, decodeVhalf, accept, h0, h1, h2, h3, h4, hwf]
theorem vsubF16 (d : BitVec 7) (a : BitVec 7) (b : BitVec 7) : Statement (.vsubF16 d a b) := fun w hwf h => by
  obtain ⟨h0, h1, h2, h3, h4⟩ := fields_5_5_7_7_7 _ _ _ _ _ w (Option.some.inj h)
  simp [decodeBody, decodeVhalf, accept, h0, h1, h2, h3, h4, hwf]
theorem vmulF16 (d : BitVec 7) (a : BitVec 7) (b : BitVec 7) : Statement (.vmulF16 d a b) := fun w hwf h => by
  obtain ⟨h0, h1, h2, h3, h4⟩ := fields_5_5_7_7_7 _ _ _ _ _ w (Option.some.inj h)
  simp [decodeBody, decodeVhalf, accept, h0, h1, h2, h3, h4, hwf]
theorem vminF16 (d : BitVec 7) (a : BitVec 7) (b : BitVec 7) : Statement (.vminF16 d a b) := fun w hwf h => by
  obtain ⟨h0, h1, h2, h3, h4⟩ := fields_5_5_7_7_7 _ _ _ _ _ w (Option.some.inj h)
  simp [decodeBody, decodeVhalf, accept, h0, h1, h2, h3, h4, hwf]
theorem vmaxF16 (d : BitVec 7) (a : BitVec 7) (b : BitVec 7) : Statement (.vmaxF16 d a b) := fun w hwf h => by
  obtain ⟨h0, h1, h2, h3, h4⟩ := fields_5_5_7_7_7 _ _ _ _ _ w (Option.some.inj h)
  simp [decodeBody, decodeVhalf, accept, h0, h1, h2, h3, h4, hwf]
theorem vfmaF16 (d : BitVec 7) (a : BitVec 7) (b : BitVec 7) : Statement (.vfmaF16 d a b) := fun w hwf h => by
  obtain ⟨h0, h1, h2, h3, h4⟩ := fields_5_5_7_7_7 _ _ _ _ _ w (Option.some.inj h)
  simp [decodeBody, decodeVhalf, accept, h0, h1, h2, h3, h4, hwf]
theorem vfmsF16 (d : BitVec 7) (a : BitVec 7) (b : BitVec 7) : Statement (.vfmsF16 d a b) := fun w hwf h => by
  obtain ⟨h0, h1, h2, h3, h4⟩ := fields_5_5_7_7_7 _ _ _ _ _ w (Option.some.inj h)
  simp [decodeBody, decodeVhalf, accept, h0, h1, h2, h3, h4, hwf]
theorem vfnmaF16 (d : BitVec 7) (a : BitVec 7) (b : BitVec 7) : Statement (.vfnmaF16 d a b) := fun w hwf h => by
  obtain ⟨h0, h1, h2, h3, h4⟩ := fields_5_5_7_7_7 _ _ _ _ _ w (Option.some.inj h)
  simp [decodeBody, decodeVhalf, accept, h0, h1, h2, h3, h4, hwf]
theorem vfnmsF16 (d : BitVec 7) (a : BitVec 7) (b : BitVec 7) : Statement (.vfnmsF16 d a b) := fun w hwf h => by
  obtain ⟨h0, h1, h2, h3, h4⟩ := fields_5_5_7_7_7 _ _ _ _ _ w (Option.some.inj h)
  simp [decodeBody, decodeVhalf, accept, h0, h1, h2, h3, h4, hwf]
theorem vabsF16 (d : BitVec 7) (a : BitVec 7) : Statement (.vabsF16 d a) := fun w hwf h => by
  obtain ⟨h0, h1, h2, h3, h4⟩ := fields_5_5_7_7_7 _ _ _ _ _ w (Option.some.inj h)
  simp [decodeBody, decodeVhalf, accept, h0, h1, h2, h3, h4, hwf]
theorem vnegF16 (d : BitVec 7) (a : BitVec 7) : Statement (.vnegF16 d a) := fun w hwf h => by
  obtain ⟨h0, h1, h2, h3, h4⟩ := fields_5_5_7_7_7 _ _ _ _ _ w (Option.some.inj h)
  simp [decodeBody, decodeVhalf, accept, h0, h1, h2, h3, h4, hwf]
theorem vcmp (ty : BitVec 3) (cc : BitVec 4) (md : BitVec 4) (a : BitVec 7) (b : BitVec 7) : Statement (.vcmp ty cc md a b) := fun w hwf h => by
  obtain ⟨h0, h1, h2, h3, h4, h5, h6⟩ := fields_5_3_4_4_7_7_1 _ _ _ _ _ _ _ w (Option.some.inj h)
  simp [decodeBody, decodeVcmp, accept, h0, h1, h2, h3, h4, h5, h6, hwf]
theorem vsel (d : BitVec 7) (a : BitVec 7) (b : BitVec 7) (mk : BitVec 4) : Statement (.vsel d a b mk) := fun w hwf h => by
  obtain ⟨h0, h1, h2, h3, h4, h5⟩ := fields_5_7_7_7_4_1 _ _ _ _ _ _ w (Option.some.inj h)
  simp [decodeBody, decodeVsel, accept, h0, h1, h2, h3, h4, h5, hwf]
theorem vcvt (d : BitVec 7) (a : BitVec 7) (code : BitVec 7) : Statement (.vcvt d a code) := fun w hwf h => by
  obtain ⟨h0, h1, h2, h3, h4⟩ := fields_5_5_7_7_7 _ _ _ _ _ w (Option.some.inj h)
  simp [decodeBody, decodeVcvt, accept, h0, h1, h2, h3, h4, hwf]
theorem vqnt (d : BitVec 7) (a : BitVec 7) (b : BitVec 7) : Statement (.vqnt d a b) := fun w hwf h => by
  obtain ⟨h0, h1, h2, h3, h4⟩ := fields_5_5_7_7_7 _ _ _ _ _ w (Option.some.inj h)
  simp [decodeBody, decodeVcvt, accept, h0, h1, h2, h3, h4, hwf]
theorem vcvtMov (d : BitVec 7) (a : BitVec 7) : Statement (.vcvtMov d a) := fun w hwf h => by
  obtain ⟨h0, h1, h2, h3, h4⟩ := fields_5_5_7_7_7 _ _ _ _ _ w (Option.some.inj h)
  simp [decodeBody, decodeVcvt, accept, h0, h1, h2, h3, h4, hwf]
theorem retag (d : BitVec 7) (a : BitVec 7) (tag : BitVec 4) : Statement (.retag d a tag) := fun w hwf h => by
  obtain ⟨h0, h1, h2, h3, h4, h5⟩ := fields_5_5_7_7_3_4 _ _ _ _ _ _ w (Option.some.inj h)
  simp [decodeBody, decodeVcvt, accept, h0, h1, h2, h3, h4, h5, hwf]
theorem vmovs (d : BitVec 7) (a : BitVec 6) (tag : BitVec 4) : Statement (.vmovs d a tag) := fun w hwf h => by
  obtain ⟨h0, h1, h2, h3, h4, h5, h6⟩ := fields_5_5_7_1_6_3_4 _ _ _ _ _ _ _ w (Option.some.inj h)
  simp [decodeBody, decodeVcvt, accept, h0, h1, h2, h3, h4, h5, h6, hwf]
theorem vrcpF32 (d : BitVec 7) (a : BitVec 7) : Statement (.vrcpF32 d a) := fun w hwf h => by
  obtain ⟨h0, h1, h2, h3, h4⟩ := fields_5_5_7_7_7 _ _ _ _ _ w (Option.some.inj h)
  simp [decodeBody, decodeVsfu, accept, h0, h1, h2, h3, h4, hwf]
theorem vrsqF32 (d : BitVec 7) (a : BitVec 7) : Statement (.vrsqF32 d a) := fun w hwf h => by
  obtain ⟨h0, h1, h2, h3, h4⟩ := fields_5_5_7_7_7 _ _ _ _ _ w (Option.some.inj h)
  simp [decodeBody, decodeVsfu, accept, h0, h1, h2, h3, h4, hwf]
theorem vsqrtF32 (d : BitVec 7) (a : BitVec 7) : Statement (.vsqrtF32 d a) := fun w hwf h => by
  obtain ⟨h0, h1, h2, h3, h4⟩ := fields_5_5_7_7_7 _ _ _ _ _ w (Option.some.inj h)
  simp [decodeBody, decodeVsfu, accept, h0, h1, h2, h3, h4, hwf]
theorem vexp2F32 (d : BitVec 7) (a : BitVec 7) : Statement (.vexp2F32 d a) := fun w hwf h => by
  obtain ⟨h0, h1, h2, h3, h4⟩ := fields_5_5_7_7_7 _ _ _ _ _ w (Option.some.inj h)
  simp [decodeBody, decodeVsfu, accept, h0, h1, h2, h3, h4, hwf]
theorem vlog2F32 (d : BitVec 7) (a : BitVec 7) : Statement (.vlog2F32 d a) := fun w hwf h => by
  obtain ⟨h0, h1, h2, h3, h4⟩ := fields_5_5_7_7_7 _ _ _ _ _ w (Option.some.inj h)
  simp [decodeBody, decodeVsfu, accept, h0, h1, h2, h3, h4, hwf]
theorem vsinF32 (d : BitVec 7) (a : BitVec 7) : Statement (.vsinF32 d a) := fun w hwf h => by
  obtain ⟨h0, h1, h2, h3, h4⟩ := fields_5_5_7_7_7 _ _ _ _ _ w (Option.some.inj h)
  simp [decodeBody, decodeVsfu, accept, h0, h1, h2, h3, h4, hwf]
theorem vcosF32 (d : BitVec 7) (a : BitVec 7) : Statement (.vcosF32 d a) := fun w hwf h => by
  obtain ⟨h0, h1, h2, h3, h4⟩ := fields_5_5_7_7_7 _ _ _ _ _ w (Option.some.inj h)
  simp [decodeBody, decodeVsfu, accept, h0, h1, h2, h3, h4, hwf]
theorem vtanhF32 (d : BitVec 7) (a : BitVec 7) : Statement (.vtanhF32 d a) := fun w hwf h => by
  obtain ⟨h0, h1, h2, h3, h4⟩ := fields_5_5_7_7_7 _ _ _ _ _ w (Option.some.inj h)
  simp [decodeBody, decodeVsfu, accept, h0, h1, h2, h3, h4, hwf]
theorem shflIdx (d : BitVec 7) (a : BitVec 7) (b : BitVec 7) : Statement (.shflIdx d a b) := fun w hwf h => by
  obtain ⟨h0, h1, h2, h3, h4⟩ := fields_5_5_7_7_7 _ _ _ _ _ w (Option.some.inj h)
  simp [decodeBody, decodeXlane, accept, h0, h1, h2, h3, h4, hwf]
theorem shflUp (d : BitVec 7) (a : BitVec 7) (n : BitVec 6) : Statement (.shflUp d a n) := fun w hwf h => by
  obtain ⟨h0, h1, h2, h3, h4, h5⟩ := fields_5_5_7_7_1_6 _ _ _ _ _ _ w (Option.some.inj h)
  simp [decodeBody, decodeXlane, accept, h0, h1, h2, h3, h4, h5, hwf]
theorem shflDn (d : BitVec 7) (a : BitVec 7) (n : BitVec 6) : Statement (.shflDn d a n) := fun w hwf h => by
  obtain ⟨h0, h1, h2, h3, h4, h5⟩ := fields_5_5_7_7_1_6 _ _ _ _ _ _ w (Option.some.inj h)
  simp [decodeBody, decodeXlane, accept, h0, h1, h2, h3, h4, h5, hwf]
theorem shflXor (d : BitVec 7) (a : BitVec 7) (n : BitVec 6) : Statement (.shflXor d a n) := fun w hwf h => by
  obtain ⟨h0, h1, h2, h3, h4, h5⟩ := fields_5_5_7_7_1_6 _ _ _ _ _ _ w (Option.some.inj h)
  simp [decodeBody, decodeXlane, accept, h0, h1, h2, h3, h4, h5, hwf]
theorem shflBc (d : BitVec 7) (a : BitVec 7) (n : BitVec 6) : Statement (.shflBc d a n) := fun w hwf h => by
  obtain ⟨h0, h1, h2, h3, h4, h5⟩ := fields_5_5_7_7_1_6 _ _ _ _ _ _ w (Option.some.inj h)
  simp [decodeBody, decodeXlane, accept, h0, h1, h2, h3, h4, h5, hwf]
theorem voteAny (d : BitVec 6) (a : BitVec 7) : Statement (.voteAny d a) := fun w hwf h => by
  obtain ⟨h0, h1, h2, h3, h4, h5⟩ := fields_5_5_1_6_7_7 _ _ _ _ _ _ w (Option.some.inj h)
  simp [decodeBody, decodeXlane, accept, h0, h1, h2, h3, h4, h5, hwf]
theorem voteAll (d : BitVec 6) (a : BitVec 7) : Statement (.voteAll d a) := fun w hwf h => by
  obtain ⟨h0, h1, h2, h3, h4, h5⟩ := fields_5_5_1_6_7_7 _ _ _ _ _ _ w (Option.some.inj h)
  simp [decodeBody, decodeXlane, accept, h0, h1, h2, h3, h4, h5, hwf]
theorem voteBal (d : BitVec 6) (a : BitVec 7) : Statement (.voteBal d a) := fun w hwf h => by
  obtain ⟨h0, h1, h2, h3, h4, h5⟩ := fields_5_5_1_6_7_7 _ _ _ _ _ _ w (Option.some.inj h)
  simp [decodeBody, decodeXlane, accept, h0, h1, h2, h3, h4, h5, hwf]
theorem redl (d : BitVec 7) (a : BitVec 7) (code : BitVec 7) : Statement (.redl d a code) := fun w hwf h => by
  obtain ⟨h0, h1, h2, h3, h4⟩ := fields_5_5_7_7_7 _ _ _ _ _ w (Option.some.inj h)
  simp [decodeBody, decodeXlane, accept, h0, h1, h2, h3, h4, hwf]
theorem vpop (d : BitVec 7) (ch : BitVec 7) : Statement (.vpop d ch) := fun w hwf h => by
  obtain ⟨h0, h1, h2, h3, h4⟩ := fields_5_5_7_7_7 _ _ _ _ _ w (Option.some.inj h)
  simp [decodeBody, decodeXlane, accept, h0, h1, h2, h3, h4, hwf]
theorem vld (ty : BitVec 4) (d : BitVec 7) (a : BitVec 7) (b : BitVec 6) (x : BitVec 1) : Statement (.vld ty d a b x) := fun w hwf h => by
  obtain ⟨h0, h1, h2, h3, h4, h5, h6⟩ := fields_5_1_4_7_7_6_1 _ _ _ _ _ _ _ w (Option.some.inj h)
  simp [decodeBody, decodeVld, accept, h0, h1, h2, h3, h4, h5, h6, hwf]
theorem vst (ty : BitVec 4) (d : BitVec 7) (a : BitVec 7) (b : BitVec 6) (x : BitVec 1) : Statement (.vst ty d a b x) := fun w hwf h => by
  obtain ⟨h0, h1, h2, h3, h4, h5, h6⟩ := fields_5_1_4_7_7_6_1 _ _ _ _ _ _ _ w (Option.some.inj h)
  simp [decodeBody, decodeVst, accept, h0, h1, h2, h3, h4, h5, h6, hwf]
theorem vlds (ty : BitVec 4) (d : BitVec 7) (a : BitVec 7) (b : BitVec 6) (x : BitVec 1) : Statement (.vlds ty d a b x) := fun w hwf h => by
  obtain ⟨h0, h1, h2, h3, h4, h5, h6⟩ := fields_5_1_4_7_7_6_1 _ _ _ _ _ _ _ w (Option.some.inj h)
  simp [decodeBody, decodeVscr, accept, h0, h1, h2, h3, h4, h5, h6, hwf]
theorem vsts (ty : BitVec 4) (d : BitVec 7) (a : BitVec 7) (b : BitVec 6) (x : BitVec 1) : Statement (.vsts ty d a b x) := fun w hwf h => by
  obtain ⟨h0, h1, h2, h3, h4, h5, h6⟩ := fields_5_1_4_7_7_6_1 _ _ _ _ _ _ _ w (Option.some.inj h)
  simp [decodeBody, decodeVscr, accept, h0, h1, h2, h3, h4, h5, h6, hwf]
theorem vldpN32 (d : BitVec 7) (a : BitVec 7) (b : BitVec 7) : Statement (.vldpN32 d a b) := fun w hwf h => by
  obtain ⟨h0, h1, h2, h3, h4⟩ := fields_5_5_7_7_7 _ _ _ _ _ w (Option.some.inj h)
  simp [decodeBody, decodeVmisc, accept, h0, h1, h2, h3, h4, hwf]
theorem sevict (a : BitVec 7) : Statement (.sevict a) := fun w hwf h => by
  obtain ⟨h0, h1, h2, h3, h4⟩ := fields_5_5_7_7_7 _ _ _ _ _ w (Option.some.inj h)
  simp [decodeBody, decodeVmisc, accept, h0, h1, h2, h3, h4, hwf]
theorem vldtB8 (d : BitVec 7) (a : BitVec 7) : Statement (.vldtB8 d a) := fun w hwf h => by
  obtain ⟨h0, h1, h2, h3, h4⟩ := fields_5_5_7_7_7 _ _ _ _ _ w (Option.some.inj h)
  simp [decodeBody, decodeVmisc, accept, h0, h1, h2, h3, h4, hwf]
theorem vldtB16 (d : BitVec 7) (a : BitVec 7) : Statement (.vldtB16 d a) := fun w hwf h => by
  obtain ⟨h0, h1, h2, h3, h4⟩ := fields_5_5_7_7_7 _ _ _ _ _ w (Option.some.inj h)
  simp [decodeBody, decodeVmisc, accept, h0, h1, h2, h3, h4, hwf]
theorem vldtB32 (d : BitVec 7) (a : BitVec 7) : Statement (.vldtB32 d a) := fun w hwf h => by
  obtain ⟨h0, h1, h2, h3, h4⟩ := fields_5_5_7_7_7 _ _ _ _ _ w (Option.some.inj h)
  simp [decodeBody, decodeVmisc, accept, h0, h1, h2, h3, h4, hwf]
theorem atomAdd (ty : BitVec 2) (lvl : BitVec 3) (d : BitVec 7) (a : BitVec 7) (sp : BitVec 2) : Statement (.atomAdd ty lvl d a sp) := fun w hwf h => by
  obtain ⟨h0, h1, h2, h3, h4, h5, h6, h7⟩ := fields_5_3_2_3_7_7_2_2 _ _ _ _ _ _ _ _ w (Option.some.inj h)
  simp [decodeBody, decodeAtom, accept, h0, h1, h2, h3, h4, h5, h6, h7, hwf]
theorem atomMin (ty : BitVec 2) (lvl : BitVec 3) (d : BitVec 7) (a : BitVec 7) (sp : BitVec 2) : Statement (.atomMin ty lvl d a sp) := fun w hwf h => by
  obtain ⟨h0, h1, h2, h3, h4, h5, h6, h7⟩ := fields_5_3_2_3_7_7_2_2 _ _ _ _ _ _ _ _ w (Option.some.inj h)
  simp [decodeBody, decodeAtom, accept, h0, h1, h2, h3, h4, h5, h6, h7, hwf]
theorem atomMax (ty : BitVec 2) (lvl : BitVec 3) (d : BitVec 7) (a : BitVec 7) (sp : BitVec 2) : Statement (.atomMax ty lvl d a sp) := fun w hwf h => by
  obtain ⟨h0, h1, h2, h3, h4, h5, h6, h7⟩ := fields_5_3_2_3_7_7_2_2 _ _ _ _ _ _ _ _ w (Option.some.inj h)
  simp [decodeBody, decodeAtom, accept, h0, h1, h2, h3, h4, h5, h6, h7, hwf]
theorem atomAnd (ty : BitVec 2) (lvl : BitVec 3) (d : BitVec 7) (a : BitVec 7) (sp : BitVec 2) : Statement (.atomAnd ty lvl d a sp) := fun w hwf h => by
  obtain ⟨h0, h1, h2, h3, h4, h5, h6, h7⟩ := fields_5_3_2_3_7_7_2_2 _ _ _ _ _ _ _ _ w (Option.some.inj h)
  simp [decodeBody, decodeAtom, accept, h0, h1, h2, h3, h4, h5, h6, h7, hwf]
theorem atomOr (ty : BitVec 2) (lvl : BitVec 3) (d : BitVec 7) (a : BitVec 7) (sp : BitVec 2) : Statement (.atomOr ty lvl d a sp) := fun w hwf h => by
  obtain ⟨h0, h1, h2, h3, h4, h5, h6, h7⟩ := fields_5_3_2_3_7_7_2_2 _ _ _ _ _ _ _ _ w (Option.some.inj h)
  simp [decodeBody, decodeAtom, accept, h0, h1, h2, h3, h4, h5, h6, h7, hwf]
theorem atomXor (ty : BitVec 2) (lvl : BitVec 3) (d : BitVec 7) (a : BitVec 7) (sp : BitVec 2) : Statement (.atomXor ty lvl d a sp) := fun w hwf h => by
  obtain ⟨h0, h1, h2, h3, h4, h5, h6, h7⟩ := fields_5_3_2_3_7_7_2_2 _ _ _ _ _ _ _ _ w (Option.some.inj h)
  simp [decodeBody, decodeAtom, accept, h0, h1, h2, h3, h4, h5, h6, h7, hwf]
theorem atomXchg (ty : BitVec 2) (lvl : BitVec 3) (d : BitVec 7) (a : BitVec 7) (sp : BitVec 2) : Statement (.atomXchg ty lvl d a sp) := fun w hwf h => by
  obtain ⟨h0, h1, h2, h3, h4, h5, h6, h7⟩ := fields_5_3_2_3_7_7_2_2 _ _ _ _ _ _ _ _ w (Option.some.inj h)
  simp [decodeBody, decodeAtom, accept, h0, h1, h2, h3, h4, h5, h6, h7, hwf]
theorem atomCas (ty : BitVec 2) (lvl : BitVec 3) (d : BitVec 7) (a : BitVec 7) (sp : BitVec 2) : Statement (.atomCas ty lvl d a sp) := fun w hwf h => by
  obtain ⟨h0, h1, h2, h3, h4, h5, h6, h7⟩ := fields_5_3_2_3_7_7_2_2 _ _ _ _ _ _ _ _ w (Option.some.inj h)
  simp [decodeBody, decodeAtom, accept, h0, h1, h2, h3, h4, h5, h6, h7, hwf]
theorem fenceAcq (lvl : BitVec 3) : Statement (.fenceAcq lvl) := fun w hwf h => by
  obtain ⟨h0, h1, h2, h3, h4⟩ := fields_5_4_2_3_17 _ _ _ _ _ w (Option.some.inj h)
  simp [decodeBody, decodeSync, accept, h0, h1, h2, h3, h4, hwf]
theorem fenceRel (lvl : BitVec 3) : Statement (.fenceRel lvl) := fun w hwf h => by
  obtain ⟨h0, h1, h2, h3, h4⟩ := fields_5_4_2_3_17 _ _ _ _ _ w (Option.some.inj h)
  simp [decodeBody, decodeSync, accept, h0, h1, h2, h3, h4, hwf]
theorem fenceAr (lvl : BitVec 3) : Statement (.fenceAr lvl) := fun w hwf h => by
  obtain ⟨h0, h1, h2, h3, h4⟩ := fields_5_4_2_3_17 _ _ _ _ _ w (Option.some.inj h)
  simp [decodeBody, decodeSync, accept, h0, h1, h2, h3, h4, hwf]
theorem xfence (p : BitVec 3) (q : BitVec 3) : Statement (.xfence p q) := fun w hwf h => by
  obtain ⟨h0, h1, h2, h3, h4⟩ := fields_5_4_3_3_16 _ _ _ _ _ w (Option.some.inj h)
  simp [decodeBody, decodeSync, accept, h0, h1, h2, h3, h4, hwf]
theorem lvlq (d : BitVec 6) (lvl : BitVec 3) (f : BitVec 4) : Statement (.lvlq d lvl f) := fun w hwf h => by
  obtain ⟨h0, h1, h2, h3, h4, h5⟩ := fields_5_4_6_3_4_9 _ _ _ _ _ _ w (Option.some.inj h)
  simp [decodeBody, decodeSync, accept, h0, h1, h2, h3, h4, h5, hwf]
theorem boinit (obj : BitVec 6) (v : BitVec 6) : Statement (.boinit obj v) := fun w hwf h => by
  obtain ⟨h0, h1, h2, h3, h4, h5⟩ := fields_5_4_6_6_6_4 _ _ _ _ _ _ w (Option.some.inj h)
  simp [decodeBody, decodeSync, accept, h0, h1, h2, h3, h4, h5, hwf]
theorem boexpect (obj : BitVec 6) (v : BitVec 6) : Statement (.boexpect obj v) := fun w hwf h => by
  obtain ⟨h0, h1, h2, h3, h4, h5⟩ := fields_5_4_6_6_6_4 _ _ _ _ _ _ w (Option.some.inj h)
  simp [decodeBody, decodeSync, accept, h0, h1, h2, h3, h4, h5, hwf]
theorem boarrive (obj : BitVec 6) (v : BitVec 6) : Statement (.boarrive obj v) := fun w hwf h => by
  obtain ⟨h0, h1, h2, h3, h4, h5⟩ := fields_5_4_6_6_6_4 _ _ _ _ _ _ w (Option.some.inj h)
  simp [decodeBody, decodeSync, accept, h0, h1, h2, h3, h4, h5, hwf]
theorem bowait (obj : BitVec 6) (v : BitVec 6) : Statement (.bowait obj v) := fun w hwf h => by
  obtain ⟨h0, h1, h2, h3, h4, h5⟩ := fields_5_4_6_6_6_4 _ _ _ _ _ _ w (Option.some.inj h)
  simp [decodeBody, decodeSync, accept, h0, h1, h2, h3, h4, h5, hwf]
theorem send (a : BitVec 6) (ch : BitVec 6) : Statement (.send a ch) := fun w hwf h => by
  obtain ⟨h0, h1, h2, h3, h4, h5⟩ := fields_5_4_6_6_4_6 _ _ _ _ _ _ w (Option.some.inj h)
  simp [decodeBody, decodeChan, accept, h0, h1, h2, h3, h4, h5, hwf]
theorem recv (d : BitVec 6) (ch : BitVec 6) : Statement (.recv d ch) := fun w hwf h => by
  obtain ⟨h0, h1, h2, h3, h4⟩ := fields_5_4_6_10_6 _ _ _ _ _ w (Option.some.inj h)
  simp [decodeBody, decodeChan, accept, h0, h1, h2, h3, h4, hwf]
theorem chwp (d : BitVec 6) (ch : BitVec 6) : Statement (.chwp d ch) := fun w hwf h => by
  obtain ⟨h0, h1, h2, h3, h4⟩ := fields_5_4_6_10_6 _ _ _ _ _ w (Option.some.inj h)
  simp [decodeBody, decodeChan, accept, h0, h1, h2, h3, h4, hwf]
theorem dqpush (a : BitVec 6) : Statement (.dqpush a) := fun w _ h => by
  obtain ⟨h0, h1, h2, h3, h4⟩ := fields_5_4_6_6_10 _ _ _ _ _ w (Option.some.inj h)
  have q : w.toNat % 2 ^ 10 = 48 := by simpa [fld] using congrArg BitVec.toNat h4
  have p : fld w 6 4 = 0 := field_eq (by simp; omega)
  have r : fld w 0 6 = 48 := field_eq (by simp; omega)
  simp [decodeBody, decodeChan, accept, Instr.wf, h0, h1, h2, h3, p, r]
theorem dqpop (d : BitVec 6) : Statement (.dqpop d) := fun w _ h => by
  obtain ⟨h0, h1, h2, h3⟩ := fields_5_4_6_16 _ _ _ _ w (Option.some.inj h)
  have q : w.toNat % 2 ^ 16 = 48 := by simpa [fld] using congrArg BitVec.toNat h3
  have p : fld w 6 10 = 0 := field_eq (by simp; omega)
  have r : fld w 0 6 = 48 := field_eq (by simp; omega)
  simp [decodeBody, decodeChan, accept, Instr.wf, h0, h1, h2, p, r]
theorem trec (a : BitVec 5) (space : BitVec 2) (slot : BitVec 3) : Statement (.trec a space slot) := fun w hwf h => by
  obtain ⟨h0, h1, h2, h3, h4, h5, h6⟩ := fields_5_5_5_10_2_1_3 _ _ _ _ _ _ _ w (Option.some.inj h)
  simp [decodeBody, decodeEng, accept, h0, h1, h2, h3, h4, h5, h6, hwf]
theorem mldw (a : BitVec 5) (b : BitVec 5) (arr : BitVec 1) (slot : BitVec 3) : Statement (.mldw a b arr slot) := fun w hwf h => by
  obtain ⟨h0, h1, h2, h3, h4, h5, h6⟩ := fields_5_5_5_5_7_1_3 _ _ _ _ _ _ _ w (Option.some.inj h)
  simp [decodeBody, decodeEng, accept, h0, h1, h2, h3, h4, h5, h6, hwf]
theorem mswap : Statement .mswap := fun w hwf h => by
  obtain ⟨h0, h1, h2⟩ := fields_5_5_21 _ _ _ w (Option.some.inj h)
  simp [decodeBody, decodeEng, accept, h0, h1, h2, hwf]
theorem mma (a : BitVec 5) (b : BitVec 5) (tile : BitVec 2) (arr : BitVec 1) (slot : BitVec 3) : Statement (.mma a b tile arr slot) := fun w hwf h => by
  obtain ⟨h0, h1, h2, h3, h4, h5, h6, h7⟩ := fields_5_5_5_5_5_2_1_3 _ _ _ _ _ _ _ _ w (Option.some.inj h)
  simp [decodeBody, decodeEng, accept, h0, h1, h2, h3, h4, h5, h6, h7, hwf]
theorem mdrain (a : BitVec 5) (b : BitVec 5) (c : BitVec 5) (tile : BitVec 2) (arr : BitVec 1) (slot : BitVec 3) : Statement (.mdrain a b c tile arr slot) := fun w hwf h => by
  obtain ⟨h0, h1, h2, h3, h4, h5, h6, h7⟩ := fields_5_5_5_5_5_2_1_3 _ _ _ _ _ _ _ _ w (Option.some.inj h)
  simp [decodeBody, decodeEng, accept, h0, h1, h2, h3, h4, h5, h6, h7, hwf]
theorem tcopy (a : BitVec 5) (b : BitVec 5) (c : BitVec 5) (dst : BitVec 3) (src : BitVec 3) : Statement (.tcopy a b c dst src) := fun w hwf h => by
  obtain ⟨h0, h1, h2, h3, h4, h5, h6⟩ := fields_5_5_5_5_5_3_3 _ _ _ _ _ _ _ w (Option.some.inj h)
  simp [decodeBody, decodeEng, accept, h0, h1, h2, h3, h4, h5, h6, hwf]
theorem strm (a : BitVec 5) (b : BitVec 5) (c : BitVec 5) (slot : BitVec 3) : Statement (.strm a b c slot) := fun w hwf h => by
  obtain ⟨h0, h1, h2, h3, h4, h5, h6⟩ := fields_5_5_5_5_5_3_3 _ _ _ _ _ _ _ w (Option.some.inj h)
  simp [decodeBody, decodeEng, accept, h0, h1, h2, h3, h4, h5, h6, hwf]
theorem nmc (a : BitVec 5) (b : BitVec 5) (c : BitVec 5) : Statement (.nmc a b c) := fun w hwf h => by
  obtain ⟨h0, h1, h2, h3, h4, h5⟩ := fields_5_5_5_5_5_6 _ _ _ _ _ _ w (Option.some.inj h)
  simp [decodeBody, decodeEng, accept, h0, h1, h2, h3, h4, h5, hwf]
theorem dread (a : BitVec 5) (b : BitVec 5) (c : BitVec 5) : Statement (.dread a b c) := fun w hwf h => by
  obtain ⟨h0, h1, h2, h3, h4, h5⟩ := fields_5_5_5_5_5_6 _ _ _ _ _ _ w (Option.some.inj h)
  simp [decodeBody, decodeEng, accept, h0, h1, h2, h3, h4, h5, hwf]
theorem dappend (a : BitVec 5) (b : BitVec 5) (c : BitVec 5) : Statement (.dappend a b c) := fun w hwf h => by
  obtain ⟨h0, h1, h2, h3, h4, h5⟩ := fields_5_5_5_5_5_6 _ _ _ _ _ _ w (Option.some.inj h)
  simp [decodeBody, decodeEng, accept, h0, h1, h2, h3, h4, h5, hwf]
theorem splitRaise (u g e : Nat) : Statement (.splitRaise u g e) := fun _ _ h => by cases h
theorem gangContextFree (u g : Nat) : Statement (.gangContextFree u g) := fun _ _ h => by cases h
theorem gangBarrierComplete (u g : Nat) : Statement (.gangBarrierComplete u g) := fun _ _ h => by cases h
theorem unitBarrierComplete (u : Nat) : Statement (.unitBarrierComplete u) := fun _ _ h => by cases h
theorem unitEnd (u : Nat) : Statement (.unitEnd u) := fun _ _ h => by cases h
theorem loadReturn (u g op l : Nat) (hit : Bool) : Statement (.loadReturn u g op l hit) := fun _ _ h => by cases h
theorem permuteComplete (u g op : Nat) : Statement (.permuteComplete u g op) := fun _ _ h => by cases h
theorem writeAtHome (y k : Nat) : Statement (.writeAtHome y k) := fun _ _ h => by cases h
theorem forwardedWriteApply (y k : Nat) : Statement (.forwardedWriteApply y k) := fun _ _ h => by cases h
theorem remoteWrite (pa : Nat) (bytes : List (BitVec 8)) : Statement (.remoteWrite pa bytes) := fun _ _ h => by cases h
theorem atomicAtSite (u g op l : Nat) : Statement (.atomicAtSite u g op l) := fun _ _ h => by cases h
theorem atomicopCompletion (u g op l : Nat) (ok : Bool) : Statement (.atomicopCompletion u g op l ok) := fun _ _ h => by cases h
theorem seamClaimRequest (c sidx blk : Nat) : Statement (.seamClaimRequest c sidx blk) := fun _ _ h => by cases h
theorem seamRecall (c saddr : Nat) : Statement (.seamRecall c saddr) := fun _ _ h => by cases h
theorem recallComplete (saddr : Nat) : Statement (.recallComplete saddr) := fun _ _ h => by cases h
theorem claimRelease (c saddr : Nat) : Statement (.claimRelease c saddr) := fun _ _ h => by cases h
theorem seamBlockFill (c sidx blk : Nat) : Statement (.seamBlockFill c sidx blk) := fun _ _ h => by cases h
theorem dressingCacheEviction (c sidx blk : Nat) : Statement (.dressingCacheEviction c sidx blk) := fun _ _ h => by cases h
theorem seamWritebackAck (c saddr : Nat) : Statement (.seamWritebackAck c saddr) := fun _ _ h => by cases h
theorem firstTouchService (u : Nat) (va : BitVec 64) : Statement (.firstTouchService u va) := fun _ _ h => by cases h
theorem tileCommandStart (u k : Nat) : Statement (.tileCommandStart u k) := fun _ _ h => by cases h
theorem tileCommandComplete (u k : Nat) : Statement (.tileCommandComplete u k) := fun _ _ h => by cases h
theorem engineFault (u k : Nat) : Statement (.engineFault u k) := fun _ _ h => by cases h
theorem tcopyElementWrite (u k e : Nat) : Statement (.tcopyElementWrite u k e) := fun _ _ h => by cases h
theorem streamSectorFetch (u k : Nat) : Statement (.streamSectorFetch u k) := fun _ _ h => by cases h
theorem nmcStart (k : Nat) : Statement (.nmcStart k) := fun _ _ h => by cases h
theorem nmcSubcommandComplete (k sub : Nat) (badY badX : List Nat) : Statement (.nmcSubcommandComplete k sub badY badX) := fun _ _ h => by cases h
theorem deepPageFetchComplete (k page : Nat) (ok : Bool) : Statement (.deepPageFetchComplete k page ok) := fun _ _ h => by cases h
theorem dappendExecute (k : Nat) : Statement (.dappendExecute k) := fun _ _ h => by cases h
theorem dappendDurable (k : Nat) : Statement (.dappendDurable k) := fun _ _ h => by cases h
theorem preemption (u : Nat) (area : BitVec 64) : Statement (.preemption u area) := fun _ _ h => by cases h
theorem sqTail (door : Nat × Nat) (v : BitVec 64) : Statement (.sqTail door v) := fun _ _ h => by cases h
theorem sqBase (q : Nat) (v : BitVec 64) : Statement (.sqBase q v) := fun _ _ h => by cases h
theorem sqSize (q : Nat) (v : BitVec 64) : Statement (.sqSize q v) := fun _ _ h => by cases h
theorem sqEnable (q : Nat) (v : BitVec 64) : Statement (.sqEnable q v) := fun _ _ h => by cases h
theorem sqDisable (q : Nat) (v : BitVec 64) : Statement (.sqDisable q v) := fun _ _ h => by cases h
theorem ctxDesc (v : BitVec 64) : Statement (.ctxDesc v) := fun _ _ h => by cases h
theorem xltInvPage (v : BitVec 64) : Statement (.xltInvPage v) := fun _ _ h => by cases h
theorem xltInvAll (v : BitVec 64) : Statement (.xltInvAll v) := fun _ _ h => by cases h
theorem xltInvComplete : Statement .xltInvComplete := fun _ _ h => by cases h
theorem migReqHbm (v : BitVec 64) : Statement (.migReqHbm v) := fun _ _ h => by cases h
theorem migReqLpddr (v : BitVec 64) : Statement (.migReqLpddr v) := fun _ _ h => by cases h
theorem migrationLineMove (line : Nat) : Statement (.migrationLineMove line) := fun _ _ h => by cases h
theorem sltBindDispatch (slot : Nat) (v : BitVec 64) (pend : Option Nat) (spbase tlbbase tlbsets : Nat) : Statement (.sltBindDispatch slot v pend spbase tlbbase tlbsets) := fun _ _ h => by cases h
theorem sltBindRestore (slot : Nat) (v : BitVec 64) : Statement (.sltBindRestore slot v) := fun _ _ h => by cases h
theorem qpoolLim (slot cls : Nat) (v : BitVec 64) : Statement (.qpoolLim slot cls v) := fun _ _ h => by cases h
theorem fsplit (v : BitVec 64) : Statement (.fsplit v) := fun _ _ h => by cases h
theorem frBase (v : BitVec 64) : Statement (.frBase v) := fun _ _ h => by cases h
theorem frSize (v : BitVec 64) : Statement (.frSize v) := fun _ _ h => by cases h
theorem frAckVerdict0 (seq : BitVec 32) : Statement (.frAckVerdict0 seq) := fun _ _ h => by cases h
theorem frAckVerdict1 (seq : BitVec 32) : Statement (.frAckVerdict1 seq) := fun _ _ h => by cases h
theorem dlogTrim (v : BitVec 64) : Statement (.dlogTrim v) := fun _ _ h => by cases h
theorem dlogCtl (v : BitVec 64) : Statement (.dlogCtl v) := fun _ _ h => by cases h
theorem compactionComplete (phys : Nat) : Statement (.compactionComplete phys) := fun _ _ h => by cases h
theorem hbmPwrcfg (v : BitVec 64) : Statement (.hbmPwrcfg v) := fun _ _ h => by cases h
theorem pwrCtl (v : BitVec 64) : Statement (.pwrCtl v) := fun _ _ h => by cases h
theorem registerWrite (at_ : Nat × BitVec 64) (v : BitVec 64) : Statement (.registerWrite at_ v) := fun _ _ h => by cases h
theorem powerMeasurement (watts : BitVec 12) (near5 near10 : Bool) : Statement (.powerMeasurement watts near5 near10) := fun _ _ h => by cases h
theorem powerDownEntry (p : Nat) : Statement (.powerDownEntry p) := fun _ _ h => by cases h
theorem selfRefreshEntry (p : Nat) : Statement (.selfRefreshEntry p) := fun _ _ h => by cases h
theorem pseudoChannelWake (p : Nat) : Statement (.pseudoChannelWake p) := fun _ _ h => by cases h
theorem pseudoChannelExitComplete (p : Nat) : Statement (.pseudoChannelExitComplete p) := fun _ _ h => by cases h
theorem jobAccept (q : Nat) : Statement (.jobAccept q) := fun _ _ h => by cases h
theorem nodeStart (j k : Nat) : Statement (.nodeStart j k) := fun _ _ h => by cases h
theorem waitNodePoll (j k : Nat) : Statement (.waitNodePoll j k) := fun _ _ h => by cases h
theorem nodeFinish (j k : Nat) : Statement (.nodeFinish j k) := fun _ _ h => by cases h
theorem packageReset : Statement .packageReset := fun _ _ h => by cases h
theorem linkTrainingTimeout (link : Nat) : Statement (.linkTrainingTimeout link) := fun _ _ h => by cases h
theorem linkAuthentication (link whyA whyB : Nat) : Statement (.linkAuthentication link whyA whyB) := fun _ _ h => by cases h
theorem surveyMessage (die origin : Nat) : Statement (.surveyMessage die origin) := fun _ _ h => by cases h
theorem surveyCollect : Statement .surveyCollect := fun _ _ h => by cases h
theorem podSurvey (n : Nat) (peers : List (Nat × Nat)) : Statement (.podSurvey n peers) := fun _ _ h => by cases h
theorem linkLoss (link : Nat) : Statement (.linkLoss link) := fun _ _ h => by cases h
theorem vexlisDataFlit (p : Nat) (seq ack : BitVec 12) (ph intact : Bool) : Statement (.vexlisDataFlit p seq ack ph intact) := fun _ _ h => by cases h
theorem vexlisAckFlit (p : Nat) (ack : BitVec 12) : Statement (.vexlisAckFlit p ack) := fun _ _ h => by cases h
theorem vexlisReplayRequest (p : Nat) (seq : BitVec 12) : Statement (.vexlisReplayRequest p seq) := fun _ _ h => by cases h
theorem vexlisKeyRetire (p : Nat) (seq : BitVec 12) (ph : Bool) : Statement (.vexlisKeyRetire p seq ph) := fun _ _ h => by cases h
theorem vexlisIdleFlit (p : Nat) (ack : BitVec 12) : Statement (.vexlisIdleFlit p ack) := fun _ _ h => by cases h
theorem keyRollover (p : Nat) : Statement (.keyRollover p) := fun _ _ h => by cases h
theorem wavelengthLockLoss (p w : Nat) : Statement (.wavelengthLockLoss p w) := fun _ _ h => by cases h
theorem wavelengthRetry (p w : Nat) (locked : Bool) : Statement (.wavelengthRetry p w locked) := fun _ _ h => by cases h
theorem hostAtomicop (kind pa bytes : Nat) (x y : BitVec 64) : Statement (.hostAtomicop kind pa bytes x y) := fun _ _ h => by cases h
theorem hostBar2Write (pa : Nat) (bytes : List (BitVec 8)) : Statement (.hostBar2Write pa bytes) := fun _ _ h => by cases h
theorem singleBitError (cls die : BitVec 8) (detail : BitVec 32) : Statement (.singleBitError cls die detail) := fun _ _ h => by cases h
theorem doubleBitError (kind loc off : Nat) (detail : BitVec 32) : Statement (.doubleBitError kind loc off detail) := fun _ _ h => by cases h
theorem hbmRowSparing (what : Nat × BitVec 32) (spare : Bool) : Statement (.hbmRowSparing what spare) := fun _ _ h => by cases h
theorem carrierPowerLoss : Statement .carrierPowerLoss := fun _ _ h => by cases h
theorem packageRemoval (pkg : Nat) : Statement (.packageRemoval pkg) := fun _ _ h => by cases h
theorem storeAcknowledged (c k : Nat) : Statement (.storeAcknowledged c k) := fun _ _ h => by cases h
theorem dreadStart (k : Nat) : Statement (.dreadStart k) := fun _ _ h => by cases h
theorem frHead (v : BitVec 64) : Statement (.frHead v) := fun _ _ h => by cases h
theorem recoveryImageLoad (ok : Bool) : Statement (.recoveryImageLoad ok) := fun _ _ h => by cases h

end Sys2Proof.Laws.RoundTrip
end

