-- ==== Sys2Proof/Laws/Scalar.lean ====
section
/-! SUPPORT. What scalar words do, in a gang and in the lead. -/

namespace Sys2Proof.Machine

/-- A scalar word of two sources, whatever function it computes. -/
theorem scalar2_split {i : Instr} {d a b : BitVec 6} {f : DWord → DWord → DWord} (he : ∀ s, exec i s = s.scalar2 d a b f)
    {s : State} {u g e : Nat} {x : Unit} {y : Gang} (h : s.AtSplit u g e x y) (hd : d.toNat < x.kte.sregs) (ha : a.toNat < x.kte.sregs)
    (hb : b.toNat < x.kte.sregs) : SplitDone i s u g e x y { y.regs with s := mset 0 y.regs.s d.toNat (f (y.S a.toNat) (y.S b.toNat)) } := by
  rw [← h.X, ← h.X]
  exact h.setX_done (he s) (h.scalarWord (by simp [hd, ha, hb]))

theorem scalar2_lead {i : Instr} {d a b : BitVec 6} {f : DWord → DWord → DWord} (he : ∀ s, exec i s = s.scalar2 d a b f)
    {s : State} {u : Nat} {x : Unit} (h : s.AtLead u x) (hd : d.toNat < 32) (ha : a.toNat < 32) (hb : b.toNat < 32) :
    LeadDone i s u x (x.lead.setH d.toNat (f (x.lead.H a.toNat) (x.lead.H b.toNat))) := by
  rw [← h.X, ← h.X]
  exact h.setX_done (he s) (h.scalarWord (by simp [hd, ha, hb]))

/-- A scalar word of one source. -/
theorem scalar1_split {i : Instr} {d a : BitVec 6} {f : DWord → DWord} (he : ∀ s, exec i s = s.scalar1 d a f)
    {s : State} {u g e : Nat} {x : Unit} {y : Gang} (h : s.AtSplit u g e x y) (hd : d.toNat < x.kte.sregs) (ha : a.toNat < x.kte.sregs) :
    SplitDone i s u g e x y { y.regs with s := mset 0 y.regs.s d.toNat (f (y.S a.toNat)) } := by
  rw [← h.X]
  exact h.setX_done (he s) (h.scalarWord (by simp [hd, ha]))

theorem scalar1_lead {i : Instr} {d a : BitVec 6} {f : DWord → DWord} (he : ∀ s, exec i s = s.scalar1 d a f)
    {s : State} {u : Nat} {x : Unit} (h : s.AtLead u x) (hd : d.toNat < 32) (ha : a.toNat < 32) :
    LeadDone i s u x (x.lead.setH d.toNat (f (x.lead.H a.toNat))) := by
  rw [← h.X]
  exact h.setX_done (he s) (h.scalarWord (by simp [hd, ha]))

end Sys2Proof.Machine
end

