-- ==== Sys2Proof/Laws/Vector.lean ====
section
/-! SUPPORT. What vector words do: register writes lane by lane, flags of all lanes. -/

namespace Sys2Proof.Machine

/-- The value a list of register writes leaves in a register, if it writes it. -/
def lastWrite (ws : List (Nat × VReg)) (n : Nat) : Option VReg := ws.foldl (fun r w => if w.1 = n then some w.2 else r) none

/-- Vector registers after the writes of one lane. -/
def lanePut (l : Nat) (v : SMap VReg) (ws : List (Nat × VReg)) : SMap VReg := ws.foldl (fun v w => mset {} v (64 * w.1 + l) w.2) v

/-- Registers in error that the writes of one lane leave. -/
def laneKeeps (l : Nat) (ws : List (Nat × VReg)) (k : Nat) : Bool := ws.all fun w => k != 64 * w.1 + l

theorem Gang.writeLane_eq (y : Gang) (l : Nat) (ws : List (Nat × VReg)) :
    y.writeLane l ws = { y with regs := { y.regs with v := lanePut l y.regs.v ws }, badRegs := y.badRegs.filter (laneKeeps l ws) } := by
  unfold Gang.writeLane lanePut
  induction ws generalizing y with
  | nil =>
    have h : (y.badRegs.filter fun _ => true) = y.badRegs := List.filter_eq_self.2 fun _ _ => rfl
    exact congrArg (fun b => { y with badRegs := b }) h.symm
  | cons w t ih =>
    rw [List.foldl_cons, ih]
    simp only [Gang.setV, List.filter_filter, List.foldl_cons]
    congr 2
    funext k
    simp [laneKeeps, Bool.and_comm]

theorem key_inj {n m l k : Nat} (hl : l < 64) (hk : k < 64) (h : 64 * n + l = 64 * m + k) : n = m ∧ l = k := by omega

theorem foldl_lastWrite (ws : List (Nat × VReg)) (n : Nat) (r : Option VReg) (d : VReg) :
    ((ws.foldl (fun r w => if w.1 = n then some w.2 else r) r).getD d) = ((lastWrite ws n).getD (r.getD d)) := by
  unfold lastWrite
  induction ws generalizing r d with
  | nil => rfl
  | cons w t ih =>
    rw [List.foldl_cons, List.foldl_cons, ih]
    conv => rhs; rw [ih _ (r.getD d)]
    by_cases h : w.1 = n <;> simp [h]

theorem lastWrite_cons (w : Nat × VReg) (t : List (Nat × VReg)) (n : Nat) (d : VReg) :
    (lastWrite (w :: t) n).getD d = (lastWrite t n).getD (if w.1 = n then w.2 else d) := by
  rw [lastWrite, List.foldl_cons, foldl_lastWrite]
  by_cases h : w.1 = n <;> simp [h]

theorem mget_lanePut {l k : Nat} (hl : l < 64) (hk : k < 64) (v : SMap VReg) (ws : List (Nat × VReg)) (n : Nat) :
    mget {} (lanePut l v ws) (64 * n + k) = if l = k then (lastWrite ws n).getD (mget {} v (64 * n + k)) else mget {} v (64 * n + k) := by
  unfold lanePut
  induction ws generalizing v with
  | nil => simp [lastWrite]
  | cons w t ih =>
    rw [List.foldl_cons, ih, mget_mset, lastWrite_cons]
    by_cases hlk : l = k
    · subst hlk
      by_cases hn : w.1 = n
      · subst hn; simp only [if_true]
      · rw [if_neg (by omega : ¬(64 * n + l = 64 * w.1 + l)), if_neg hn]
    · rw [if_neg hlk, if_neg hlk, if_neg (by omega : ¬(64 * n + k = 64 * w.1 + l))]

/-- Vector registers after the writes of some lanes. -/
def lanesPut (ls : List Nat) (v : SMap VReg) (ws : Nat → List (Nat × VReg)) : SMap VReg := ls.foldl (fun v l => lanePut l v (ws l)) v

theorem Gang.writeLanes_eq (ls : List Nat) (y : Gang) (ws : Nat → List (Nat × VReg)) :
    ls.foldl (fun y l => y.writeLane l (ws l)) y =
      { y with regs := { y.regs with v := lanesPut ls y.regs.v ws }, badRegs := y.badRegs.filter fun k => ls.all fun l => laneKeeps l (ws l) k } := by
  unfold lanesPut
  induction ls generalizing y with
  | nil =>
    have h : (y.badRegs.filter fun _ => true) = y.badRegs := List.filter_eq_self.2 fun _ _ => rfl
    exact congrArg (fun b => { y with badRegs := b }) h.symm
  | cons l t ih =>
    rw [List.foldl_cons, ih, Gang.writeLane_eq]
    simp only [List.filter_filter, List.foldl_cons]
    congr 2
    funext k
    simp [Bool.and_comm]

theorem lastWrite_none {ws : List (Nat × VReg)} {n : Nat} : lastWrite ws n = none ↔ ∀ w ∈ ws, w.1 ≠ n := by
  suffices h : ∀ r, ws.foldl (fun r w => if w.1 = n then some w.2 else r) r = none ↔ r = none ∧ ∀ w ∈ ws, w.1 ≠ n by
    exact (h none).trans (by simp)
  induction ws with
  | nil => simp
  | cons w t ih =>
    intro r
    rw [List.foldl_cons, ih]
    by_cases h : w.1 = n <;> simp [h]

theorem mget_lanesPut {ls : List Nat} (hls : ∀ l ∈ ls, l < 64) (hd : ls.Nodup) (v : SMap VReg) (ws : Nat → List (Nat × VReg)) {k : Nat} (hk : k < 64) (n : Nat) :
    mget {} (lanesPut ls v ws) (64 * n + k) = if k ∈ ls then (lastWrite (ws k) n).getD (mget {} v (64 * n + k)) else mget {} v (64 * n + k) := by
  unfold lanesPut
  induction ls generalizing v with
  | nil => simp
  | cons l t ih =>
    rw [List.foldl_cons, ih (fun a ha => hls a (List.mem_cons_of_mem _ ha)) (List.nodup_cons.1 hd).2, mget_lanePut (hls l (List.mem_cons_self ..)) hk]
    by_cases hlk : l = k
    · subst hlk
      simp [(List.nodup_cons.1 hd).1]
    · simp [hlk, Ne.symm hlk]

theorem mem_lanesOf {mk : DWord} {l : Nat} : l ∈ lanesOf mk ↔ mk.getLsbD l = true := by
  simp only [lanesOf, List.mem_filter, List.mem_range]
  constructor
  · exact fun h => h.2
  · exact fun h => ⟨BitVec.lt_of_getLsbD h, h⟩

theorem lanesOf_lt {mk : DWord} {l : Nat} (h : l ∈ lanesOf mk) : l < 64 := BitVec.lt_of_getLsbD (mem_lanesOf.1 h)

theorem lanesOf_nodup (mk : DWord) : (lanesOf mk).Nodup := List.Pairwise.filter _ List.nodup_range

/-- R372: the writes of a vector word clear the errors of the registers they write, in their lanes. -/
theorem Gang.mended_eq (y : Gang) (mk : DWord) (ws : Nat → List (Nat × VReg)) :
    (y.badRegs.filter fun k => (lanesOf mk).all fun l => laneKeeps l (ws l) k) = y.mended mk fun n l => lastWrite (ws l) n := by
  unfold Gang.mended
  congr 1
  funext k
  rw [Bool.eq_iff_iff]
  simp only [laneKeeps, List.all_eq_true, mem_lanesOf, bne_iff_ne, Bool.not_eq_true', Bool.and_eq_false_iff, Option.isSome_eq_false_iff, Option.isNone_iff_eq_none, lastWrite_none]
  constructor
  · intro h
    by_cases hm : mk.getLsbD (k % 64) = true
    · exact .inr fun w hw e => h _ hm w hw (by omega)
    · exact .inl (by simpa using hm)
  · intro h l hl w hw e
    have hlt := BitVec.lt_of_getLsbD hl
    obtain rfl : k % 64 = l := by omega
    rcases h with h | h
    · rw [hl] at h; cases h
    · exact h w hw (by omega)

/-- The registers after a vector word. -/
theorem LanesWritten.put (mk : DWord) (r : GangRegs) (ws : Nat → List (Nat × VReg)) :
    LanesWritten mk r { r with v := lanesPut (lanesOf mk) r.v ws } fun n l => lastWrite (ws l) n := by
  refine ⟨rfl, rfl, fun n l hl => ?_⟩
  rw [mget_lanesPut (fun _ => lanesOf_lt) (lanesOf_nodup mk) _ _ hl]
  by_cases h : mk.getLsbD l = true <;> simp [mem_lanesOf, h]

/-- A gang whose registers and flags have changed moves on. -/
theorem GangMoved.flags {s : State} {u g e : Nat} {x : Unit} {y : Gang} (h : s.AtSplit u g e x y) (r : GangRegs) (b : List Nat) (fl : FpFlags) :
    GangMoved s e { y with badRegs := b } ((({ y with regs := r, badRegs := b } : Gang).modEntry e fun p => { p with fpflags := p.fpflags ||| fl }).modEntry e (·.moved s.cur)) fl := by
  have he : ({ y with regs := r, badRegs := b } : Gang).entry e = y.entry e := rfl
  have hm : ({ y.entry e with fpflags := (y.entry e).fpflags ||| fl } : Split).mask ≠ 0 := h.some_lane
  have hm' : (({ y.entry e with fpflags := (y.entry e).fpflags ||| fl } : Split).moved s.cur).mask ≠ 0 := h.some_lane
  have h1 : (({ y with regs := r, badRegs := b } : Gang).modEntry e fun p => { p with fpflags := p.fpflags ||| fl }).entry e =
      { y.entry e with fpflags := (y.entry e).fpflags ||| fl } := by
    rw [Gang.modEntry, he, Gang.entry_setEntry_self _ _ hm]
  refine ⟨?_, ?_, ?_⟩
  · simp only [Gang.modEntry, Gang.setEntry]
  · rw [Gang.modEntry, h1, Gang.entry_setEntry_self _ _ hm']
    rfl
  · intro k hk
    rw [Gang.modEntry, Gang.entry_setEntry_other _ _ hk, Gang.modEntry, Gang.entry_setEntry_other _ _ hk]
    rfl

/-- An issued word whose effect is register contents and FP flags. -/
theorem State.AtSplit.done_flags {s : State} {u g e : Nat} {x : Unit} {y : Gang} {i : Instr} {v : Verdict} {eff : DWord → State → State} {w : State → State}
    {r : GangRegs} {b : List Nat} {fl : FpFlags} (h : s.AtSplit u g e x y) (hi : exec i s = s.issue v eff w) (hv : v = .ok)
    (he : eff s.cur.mask (s.answered .ok) = ((s.answered .ok).modGang u g fun y => { y with regs := r, badRegs := b }).raiseFlags fl) :
    ∃ z, exec i s = .next (s.withGang u g x z fl) ∧ GangMoved s e { y with badRegs := b } z fl ∧ z.regs = r := by
  refine ⟨_, ?_, GangMoved.flags h r b fl, rfl⟩
  rw [hi]
  refine h.issue hv ?_
  rw [he, State.modGang_eq _ h.ok.unit h.gang]
  have e1 : ({ s.answered .ok with units := mput (s.answered .ok).units u { x with gangs := mput x.gangs g { y with regs := r, badRegs := b } } } : State) =
      s.withGang u g x { y with regs := r, badRegs := b } := by simp [State.withGang, State.answered]
  rw [e1]
  have e2 : (s.withGang u g x { y with regs := r, badRegs := b }).cur.stream = .split u g e := h.stream
  simp only [State.raiseFlags, e2, State.withGang_modGang]
  simp [State.withGang, h.stream]

/-- A vector word: every destination and source below the declared counts, no outstanding permute of a destination, tags accepted. -/
theorem State.AtSplit.lanewise {s : State} {u g e : Nat} {x : Unit} {y : Gang} {i : Instr} {dst : List Nat} {srcs : List (Nat × List Tag)} {ss : List Nat}
    {f : Gang → Nat → List (Nat × VReg) × BitVec 8} (h : s.AtSplit u g e x y) (hi : exec i s = s.lanewise dst srcs ss f)
    (hd : ∀ n ∈ dst, n < x.kte.vregs) (ha : ∀ p ∈ srcs, p.1 < x.kte.vregs) (hs : ∀ n ∈ ss, n < x.kte.sregs)
    (hp : y.NoPermute s.cur.mask dst) (ht : ∀ p ∈ srcs, y.Tagged s.cur.mask p.1 p.2) :
    VectorDone i s u g e x y (fun n l => lastWrite (f y l).1 n) (fun l => (f y l).2) := by
  have hw : s.gangWord (dst ++ srcs.map (·.1)) ss = .ok := by
    refine h.gangWord (fun n hn => ?_) hs
    rcases List.mem_append.1 hn with h1 | h1
    · exact hd n h1
    · obtain ⟨p, hp, rfl⟩ := List.mem_map.1 h1
      exact ha p hp
  obtain ⟨z, h1, h2, h3⟩ := h.done_flags (r := { y.regs with v := lanesPut (lanesOf s.cur.mask) y.regs.v fun l => (f y l).1 })
    (b := y.mended s.cur.mask fun n l => lastWrite (f y l).1 n)
    (fl := flagsOver s.cur.mask fun l => (f y l).2) hi (by rw [hw, h.permuteFree hp, h.needTags ht]; rfl) (by
      simp only [h.hereGang, h.ok.modHere]
      rw [h.ok.modGang_congr (k := fun y' => { y' with
          regs := { y.regs with v := lanesPut (lanesOf s.cur.mask) y.regs.v fun l => (f y l).1 }, badRegs := y.mended s.cur.mask fun n l => lastWrite (f y l).1 n })
        (by rw [Gang.writeLanes_eq (lanesOf s.cur.mask) y fun l => (f y l).1, Gang.mended_eq])]
      rfl)
  exact ⟨z, h1, h2, h3 ▸ LanesWritten.put _ _ _⟩

end Sys2Proof.Machine
end

