-- ==== Sys2Proof/Tests/Slice0.lean ====
section
/-! SUPPORT. Tests: words written out in the manual, ill-formed terms, single steps against the manual's worked examples, and witnesses that the hypotheses of the statements can be met. -/

namespace Sys2Proof.Tests
open Sys2Proof Sys2Proof.Machine

/-! ### Words the manual writes out (R44, R59 to R71 and the examples of its chapters) -/

theorem test_decode_nop : decodeWord 0x04000000 = .ok .nop := rfl
theorem test_decode_exit : decodeWord 0x04100000 = .ok .exit := rfl
theorem test_decode_wait : decodeWord 0x0440003F = .ok (.wait 0 63) := rfl
theorem test_decode_brz : decodeWord 0b0_00010_0001_000100_1111111111111101 = .ok (.brZ 4 0xFFFD) := rfl
theorem test_decode_brnz : decodeWord 0x0884FFFD = .ok (.brNz 4 0xFFFD) := rfl
theorem test_decode_brd : decodeWord 0x08C2FFFD = .ok (.brd 2 0xFFFD) := rfl
theorem test_decode_call : decodeWord 0x095E0014 = .ok (.call 30 0x14) := rfl
theorem test_decode_ret : decodeWord 0x099E0000 = .ok (.ret 30) := rfl
theorem test_decode_add : decodeWord 0x0C00C108 = .ok (.add 3 1 2) := rfl
theorem test_decode_addi : decodeWord 0x10030405 = .ok (.addi 3 1 5) := rfl
theorem test_decode_ldi : decodeWord 0x1438FFFE = .ok (.ldi 7 0 0xFFFE) := rfl
theorem test_decode_ldih : decodeWord 0x163C1234 = .ok (.ldih 7 2 0x1234) := rfl
theorem test_decode_srd : decodeWord 0x18080002 = .ok (.srd 2 2) := rfl
theorem test_decode_srd_lane : decodeWord 0x18040000 = .ok (.srd 1 0) := rfl
theorem test_decode_vmul_n32 : decodeWord 0x20A04082 = .ok (.vmulN32 1 1 2) := rfl
theorem test_decode_vadd_f32 : decodeWord 0x24010203 = .ok (.vaddF32 4 4 3) := rfl
theorem test_decode_vfma_f32 : decodeWord 0x24A28205 = .ok (.vfmaF32 10 4 5) := rfl
theorem test_decode_vcmp : decodeWord 0x30110106 = .ok (.vcmp 0 2 2 1 3) := rfl
theorem test_decode_vsel : decodeWord 0x34381044 = .ok (.vsel 7 1 2 2) := rfl
theorem test_decode_vmovs : decodeWord 0x38808186 = .ok (.vmovs 2 3 6) := rfl
theorem test_decode_shfl : decodeWord 0b0_10000_00000_0000001_0000010_0000011 = .ok (.shflIdx 1 2 3) := rfl
theorem test_decode_vld : decodeWord 0x44224108 = .ok (.vld 1 9 2 4 0) := rfl
theorem test_decode_vst : decodeWord 0x48210080 = .ok (.vst 1 4 1 0 0) := rfl
theorem test_decode_atom : decodeWord 0x54082060 = .ok (.atomAdd 0 2 4 6 0) := rfl
theorem test_decode_atom_sp : decodeWord 0x54042054 = .ok (.atomAdd 0 1 4 5 1) := rfl
theorem test_decode_fence : decodeWord 0x582A0000 = .ok (.fenceRel 5) := rfl
theorem test_decode_xfence : decodeWord 0x58480000 = .ok (.xfence 1 0) := rfl
theorem test_decode_chwp : decodeWord 0x5C850003 = .ok (.chwp 5 3) := rfl
theorem test_decode_mswap : decodeWord 0x60400000 = .ok .mswap := rfl
/-- A reserved bit set, an unassigned sub-opcode, an unassigned major, the all-zero word (R40, R53, R55). -/
theorem test_decode_reserved : decodeWord 0x04000001 = .error .reservedBits ∧ decodeWord 0x07F00000 = .error .unassignedOp ∧ decodeWord 0 = .error .unassignedMajor := ⟨rfl, rfl, rfl⟩
/-- `decodeTableWord` reads the same words, numbered as the table numbers them. -/
theorem test_decode_table : decodeTableWord 32 0x0C00C108 = some (.add 3 1 2) ∧ decodeTableWord 32 0 = none := by decide
/-- The chain bit is no part of the instruction (R39). -/
theorem test_decode_chain : decodeBytes [0x82, 0x40, 0xA0, 0xA0] = .ok (true, .vmulN32 1 1 2, []) := rfl
theorem test_encode_add : encodeWord false (.add 3 1 2) = some 0x0C00C108 := by decide
theorem test_encode_event : encode .packageReset = none := by decide

/-! ### Ill-formed terms (R14, R15, R30, R36, R53, R55, R64 to R68, R162, R172) -/

theorem test_illformed_pair : (Instr.vaddF64 3 2 4).wf = false ∧ (Instr.vaddF64 2 2 4).wf = true := by decide
theorem test_illformed_mask : (Instr.mand 16 0 1).wf = false ∧ (Instr.mand 15 0 1).wf = true := by decide
theorem test_illformed_srd : (Instr.srd 2 0x16).wf = false ∧ (Instr.srd 2 0x15).wf = true := by decide
theorem test_illformed_srd_pair : (Instr.srd 3 0x13).wf = false ∧ (Instr.srd 2 0x13).wf = true := by decide
theorem test_illformed_vcmp_type : (Instr.vcmp 4 0 0 0 0).wf = false ∧ (Instr.vcmp 3 0 0 0 0).wf = true := by decide
theorem test_illformed_vcmp_cond : (Instr.vcmp 0 8 0 0 0).wf = false ∧ (Instr.vcmp 2 6 0 0 0).wf = false ∧ (Instr.vcmp 0 7 0 0 0).wf = true := by decide
theorem test_illformed_vcmp_pair : (Instr.vcmp 1 0 0 1 2).wf = false ∧ (Instr.vcmp 1 0 0 2 2).wf = true := by decide
theorem test_illformed_vcvt_code : (Instr.vcvt 0 0 0x16).wf = false ∧ (Instr.vcvt 0 0 0x15).wf = true := by decide
theorem test_illformed_vcvt_quad : (Instr.vcvt 0 2 0x0E).wf = false ∧ (Instr.vcvt 0 4 0x0E).wf = true := by decide
theorem test_illformed_retag : (Instr.retag 0 0 14).wf = false ∧ (Instr.retag 1 0 2).wf = false ∧ (Instr.retag 0 0 13).wf = true := by decide
theorem test_illformed_vmovs : (Instr.vmovs 0 0 15).wf = false ∧ (Instr.vmovs 1 0 2).wf = false ∧ (Instr.vmovs 2 0 2).wf = true := by decide
theorem test_illformed_redl : (Instr.redl 0 0 0x0E).wf = false ∧ (Instr.redl 1 0 2).wf = false ∧ (Instr.redl 1 1 1).wf = true := by decide
theorem test_illformed_vpop : (Instr.vpop 0 15).wf = false ∧ (Instr.vpop 0 32).wf = false ∧ (Instr.vpop 0 31).wf = true := by decide
theorem test_illformed_atom_space : (Instr.atomAdd 0 1 0 0 3).wf = false ∧ (Instr.atomAdd 0 1 0 0 1).wf = true := by decide
theorem test_illformed_atom_level : (Instr.atomAdd 0 7 0 0 1).wf = false ∧ (Instr.atomAdd 0 6 0 0 1).wf = true := by decide
theorem test_illformed_atom_address : (Instr.atomAdd 0 1 0 1 0).wf = false ∧ (Instr.atomAdd 0 1 0 2 0).wf = true := by decide
theorem test_illformed_atom_operand : (Instr.atomAdd 2 1 1 0 1).wf = false ∧ (Instr.atomAdd 2 1 2 0 1).wf = true := by decide
theorem test_illformed_cas : (Instr.atomCas 0 1 1 0 1).wf = false ∧ (Instr.atomCas 2 1 2 0 1).wf = false ∧ (Instr.atomCas 2 1 4 0 1).wf = true := by decide
theorem test_illformed_xfence : (Instr.xfence 5 0).wf = false ∧ (Instr.xfence 1 1).wf = false ∧ (Instr.xfence 4 0).wf = true := by decide
theorem test_illformed_lvlq : (Instr.lvlq 0 7 0).wf = false ∧ (Instr.lvlq 0 0 7).wf = false ∧ (Instr.lvlq 0 6 6).wf = true := by decide
theorem test_illformed_trec : (Instr.trec 0 2 0).wf = false ∧ (Instr.trec 0 1 0).wf = true := by decide
theorem test_illformed_channel : (Instr.send 0 31).wf = false ∧ (Instr.send 0 48).wf = false ∧ (Instr.send 0 47).wf = true := by decide

/-! ### A small machine -/

/-- Gang 0: width 8, two lanes active in entry 0. -/
def gang0 : Gang :=
  { width := 8
    slices := [0]
    regs := { s := [(1, 2), (2, 3), (4, 0x100)], m := [(2, 1)],
              v := [(64, ⟨0x3F800000, .f32⟩), (65, ⟨0x40000000, .f32⟩), (128, ⟨0x3F800000, .f32⟩), (129, ⟨0x3F800000, .f32⟩), (192, ⟨5, .i32⟩), (193, ⟨0xFFFFFFFF, .i32⟩), (256, ⟨8, .raw⟩), (257, ⟨12, .raw⟩)] }
    split := [(0, { mask := 3, ip := 10, state := .ready })] }

/-- Gang 0 with two lanes in the trap entry and none elsewhere. -/
def gangT : Gang := { gang0 with split := [(4, { mask := 3, ip := 0x200, state := .trap })], tcode := 16, tip := 10, twd := 0, tmask := 3 }

/-- A system unit that holds the matrix grant. -/
def unitOf (g : Gang) : Machine.Unit :=
  { kte := { gang := true, sregs := 64, vregs := 128, scratch := 65536, cbase := 0x10000 }
    bind := { sys := true, mgrant := true, glimit := 4, ngang0 := 1 }
    qlim := { operand := ⟨16, 0⟩, engine := ⟨64, 4⟩, port := ⟨16, 0⟩, decision := ⟨16, 0⟩ }
    lead := { h := [(1, 2), (2, 3)] , lip := 20 }
    gangs := [(0, g)] }

/-- A split about to issue a word at packet 10, the next at packet 10 word 1. -/
def base (g : Gang) : State :=
  { units := [(0, unitOf g)], cores := [(0, { grant := some 0, tlb := [⟨0, 4, 1, 0x00400033⟩] })], nextId := 7,
    svy := { done := true, hbm := 255, oio := 15, dies := [(0, { ncore := 48, state := 1 })] } }

def at0 : State := { base gang0 with cur := { stream := .split 0 0 0, mask := 3, ip := 10, nip := 10, nwd := 1 } }
def atT : State := { base gangT with cur := { stream := .split 0 0 4, mask := 3, ip := 0x200, nip := 0x200, nwd := 1 } }
def atL : State := { base gang0 with cur := { stream := .lead 0, mask := 1, ip := 20, nip := 20, nwd := 1 } }

/-- A field of gang 0 after a word. -/
def after {α : Type} (i : Instr) (s : State) (f : Gang → α) : Option α := match exec i s with
  | .next t => (t.gang? 0 0).map f
  | _ => none

/-- A field of the lead after a word. -/
def afterL {α : Type} (i : Instr) (s : State) (f : Lead → α) : Option α := match exec i s with
  | .next t => (t.unit? 0).map fun x => f x.lead
  | _ => none

/-- A field of the machine after a step or an event. -/
def afterS {α : Type} (r : Host.Outcome State Fault Refusal) (f : State → α) : Option α := match r with
  | .next t => some (f t)
  | _ => none

/-! ### Words of a gang -/

theorem test_add : after (.add 3 1 2) at0 (fun g => (g.S 3, (g.entry 0).wd)) = some (5, 1) := by decide
/-- R129: subtraction wraps. -/
theorem test_sub_wraps : after (.sub 3 1 2) at0 (·.S 3) = some 0xFFFFFFFFFFFFFFFF := by decide
theorem test_mulhi_signed : after (.mulhiI64 3 1 2) at0 (·.S 3) = some 0 := by decide
/-- The example of R60: LDI s7, -2, then LDIH s7, 0x1234, 2. -/
theorem test_ldi : after (.ldi 7 0 0xFFFE) at0 (·.S 7) = some 0xFFFFFFFFFFFFFFFE := by decide
theorem test_ldi_shifted : after (.ldi 2 1 0x3FC0) at0 (·.S 2) = some 0x3FC00000 := by decide
theorem test_ldih : after (.ldih 2 2 0x1234) at0 (·.S 2) = some 0x123400000003 := by decide
/-- R129: CLZ of 0 is 64. -/
theorem test_clz_zero : after (.clz 3 5) at0 (·.S 3) = some 64 := by decide
theorem test_seq : after (.seq 3 1 1) at0 (·.S 3) = some 1 := by decide
/-- R135: a taken branch goes to word 0 of packet 10 − 3. -/
theorem test_brnz : after (.brNz 1 0xFFFD) at0 (fun g => ((g.entry 0).ip, (g.entry 0).wd)) = some (7, 0) := by decide
theorem test_brz_not_taken : after (.brZ 1 0xFFFD) at0 (fun g => ((g.entry 0).ip, (g.entry 0).wd)) = some (10, 1) := by decide
theorem test_call_link : after (.call 30 0x14) at0 (fun g => (g.S 30, (g.entry 0).ip)) = some (11, 30) := by decide
/-- R137: lane 0 goes to the target in entry 1, lane 1 falls through in entry 0. -/
theorem test_brd_splits : after (.brd 2 5) at0 (fun g => ((g.entry 0).mask, (g.entry 1).mask, (g.entry 1).ip)) = some (2, 1, 15) := by decide
theorem test_brd_n_splits : after (.brdN 2 5) at0 (fun g => ((g.entry 0).mask, (g.entry 1).mask)) = some (1, 2) := by decide
/-- R32: SRD lane. -/
theorem test_srd_lane : after (.srd 6 0) at0 (fun g => (g.VR 6 0, g.VR 6 1)) = some (⟨0, .n32⟩, ⟨1, .n32⟩) := by decide
theorem test_srd_mask : after (.srd 6 3) at0 (·.S 6) = some 3 := by decide
/-- R158: 1 + 1 and 2 + 1, with the tag F32. -/
theorem test_vadd_f32 : after (.vaddF32 5 1 2) at0 (fun g => (g.VR 5 0, g.VR 5 1)) = some (⟨0x40000000, .f32⟩, ⟨0x40400000, .f32⟩) := by decide
/-- R19: a source tagged I32 where F32 is asked traps those lanes. -/
theorem test_format_trap : after (.vaddF32 5 1 3) at0 (fun g => (g.tcode, g.tmask, (g.entry 4).mask)) = some (4, 3, 3) := by decide
/-- R160: 1.0 < 1.0 is false, 2.0 < 1.0 is false; bit 2 and up of the mask register stay. -/
theorem test_vcmp_ge : after (.vcmp 0 5 3 1 2) at0 (·.M 3) = some 3 := by decide
theorem test_vcmp_eq : after (.vcmp 0 0 3 1 2) at0 (·.M 3) = some 1 := by decide
theorem test_vsel : after (.vsel 5 1 2 2) at0 (fun g => (g.VR 5 0, g.VR 5 1)) = some (⟨0x3F800000, .f32⟩, ⟨0x3F800000, .f32⟩) := by decide
/-- R171: the votes of lanes 0 and 1. -/
theorem test_vote_ballot : after (.voteBal 6 3) at0 (·.S 6) = some 3 := by decide
/-- R93: −1 + −1 saturated stays −2; unsigned 0xFFFFFFFF + 0xFFFFFFFF saturates. -/
theorem test_vadds : after (.vaddsN32 5 3 3) at0 (fun g => g.V 5 1) = some 0xFFFFFFFF := by decide
theorem test_vaddsi : after (.vaddsI32 5 3 3) at0 (fun g => g.V 5 1) = some 0xFFFFFFFE := by decide
/-- R169, R170: a shuffle is counted and writes nothing until it completes. -/
theorem test_shfl_counts : after (.shflXor 5 1 1) at0 (fun g => (g.gsp.length, g.VR 5 0)) = some (1, ⟨0, .raw⟩) := by decide
theorem test_shfl_holds : (match exec (.shflXor 5 1 1) at0 with
    | .next t => ((t.gang? 0 0).bind (·.ops.head?)).map fun o => o.accs.map fun a => (a.lane, a.writes)
    | _ => none) = some [(0, [(5, ⟨0x40000000, .f32⟩)]), (1, [(5, ⟨0x3F800000, .f32⟩)])] := by decide
/-- R203: WAIT vm<=0 with nothing outstanding passes. -/
theorem test_wait : after (.wait 0 63) at0 (fun g => (g.entry 0).wd) = some 1 := by decide
/-- R232, R313: TRAP 5 saves the code, the place and the address, and goes to `thip`. -/
theorem test_trap : after (.trap 5) at0 (fun g => (g.tcode, g.tip, g.tmask, mget 0 g.taddr 1)) = some (16, 10, 3, 5) := by decide
theorem test_trap_entry : after (.trap 5) { at0 with ctx := { thip := 0x300 } } (fun g => ((g.entry 4).ip, (g.entry 4).state, g.isFree 0)) = some (0x300, .trap, true) := by decide
/-- R233: RETT after a software trap resumes the lanes in the lowest free entry. -/
theorem test_rett : after .rett atT (fun g => (g.isFree 4, (g.entry 0).mask, g.tcode)) = some (true, 3, 0) := by decide
/-- R231: RETT outside the trap entry traps as privilege. -/
theorem test_rett_privilege : after .rett at0 (·.tcode) = some 3 := by decide
/-- R143: EXIT of the last lanes ends the gang. -/
theorem test_exit : after .exit at0 (·.ended) = some true := by decide
/-- R146: GBAR makes the split wait. -/
theorem test_gbar : after .gbar at0 (fun g => ((g.entry 0).state, (g.entry 0).wd)) = some (.waiting, 0) := by decide
/-- R185: VSTS writes the scratchpad at once, little end first. -/
theorem test_vsts : (match exec (.vsts 2 3 4 0 0) at0 with
    | .next t => some (mget 0 (t.core 0).spad 8, mget 0 (t.core 0).spad 12, mget 0 (t.core 0).spad 15)
    | _ => none) = some (5, 0xFF, 0xFF) := by decide
/-- R177: an address that is no multiple of the access size traps as misaligned. -/
theorem test_misaligned : after (.vlds 2 6 3 1 0) at0 (·.tcode) = some 5 := by decide
/-- R133: a scalar load of the own scratchpad is counted in `spcnt`. -/
theorem test_slds : after (.sldsB64 5 4 0) at0 (fun g => (g.gsp.length, g.gvm.length)) = some (1, 0) := by decide

/-! ### Words of the lead -/

theorem test_lead_add : afterL (.add 3 1 2) atL (fun l => (l.H 3, l.lwd)) = some (5, 1) := by decide
/-- R9: h0 reads as zero and discards writes. -/
theorem test_lead_h0 : afterL (.add 0 1 2) atL (·.H 0) = some 0 := by decide
/-- R144: EXIT stops the lead. -/
theorem test_lead_exit : afterL .exit atL (·.state) = some .stopped := by decide
/-- R317: a lead trap is recorded. -/
theorem test_lead_trap : afterL (.trap 9) atL (·.trapped) = some (some (.softwareTrap, 9)) := by decide
/-- R215: MSWAP is accepted, starts, and acts. -/
theorem test_mswap : (match exec .mswap atL with
    | .next t => (match exec (.tileCommandStart 0 7) t with
      | .next r => (match exec (.tileCommandComplete 0 7) r with
        | .next q => some ((t.core 0).mx.sel, (r.core 0).mx.sel, (q.core 0).mx.sel)
        | _ => none)
      | _ => none)
    | _ => none) = some (false, false, true) := by decide
/-- R54: a vector word in the lead is undefined. -/
theorem test_lead_vector : afterL (.vaddF32 5 1 2) atL (·.trapped) = some (some (.undefinedInstruction, 0)) := by decide

/-! ### Values -/

/-- R85: 1 + 2^−24 lies halfway; to nearest 1.0, up the next value. -/
theorem test_round_even : (roundReal fmtF32 0 false false (2 ^ 24 + 1) (-24)).bits = 0x3F800000 := by decide
theorem test_round_up : (roundReal fmtF32 2 false false (2 ^ 24 + 1) (-24)).bits = 0x3F800001 ∨ (roundReal fmtF32 3 false false (2 ^ 24 + 1) (-24)).bits = 0x3F800001 := by decide
/-- The block encoded by hand after R122: 1.0, 1.5, 2.0, 3.25 at rate 8. -/
theorem test_seam_encode : encodeBlock 1 8 false [0x3F800000, 0x3FC00000, 0x40000000, 0x40500000] = (0x5755A600, false) := by decide
/-- It decodes to 1.125, 1.625, 2.0, 3.25. -/
theorem test_seam_decode : decodeBlock 1 8 false 0x5755A600 = some [0x3F900000, 0x3FD00000, 0x40000000, 0x40500000] := by decide
/-- The epilogue table after R108: −100,000 times 2^−10 times 3.0; an infinity times zero; a subnormal result. -/
theorem test_epilogue : drainValue (-100000) 0x3A800000 0x40400000 false = 0xC3927C00 ∧ drainValue 0 0x7F800000 0x3F800000 false = 0x7FC00000 := by decide
theorem test_epilogue_subnormal : drainValue 3 0x00000200 0x3A800000 false = 2 := by decide

/-! ### Steps and events -/

/-- The first step after reset runs the instruction placed where it fetches. -/
theorem test_step_fetches : afterS (step (State.reset.withFetchWord 32 0x1438FFFE)) (fun t => (t.gang? 0 0).map (·.S 7)) = some (some 0xFFFFFFFFFFFFFFFE) := by decide
/-- A word that decodes to nothing traps as undefined instruction. -/
theorem test_step_undefined : afterS (step (State.reset.withFetchWord 32 0)) (fun t => (t.gang? 0 0).map (·.tcode)) = some (some 1) := by decide
/-- The example of R371: at 3,720 W with cap 3,600 the step goes from 17 to 16, and at 3,560 W it holds, `lim` 1. -/
theorem test_power_down : afterS (exec (.powerMeasurement 3720 false false) State.reset) (fun t => t.pwr.step) = some 16 := by decide
theorem test_power_holds : afterS (exec (.powerMeasurement 3560 false false) { State.reset with pwr := { step := 16 } }) (fun t => (t.pwr.step, t.pwr.lim)) = some (16, 1) := by decide
/-- R277: a tail at or beyond the ring size is ignored. -/
theorem test_sq_tail : afterS (exec (.sqTail (0, 0) 16) { State.reset with queues := [(0, { size := 4 })] }) (fun t => (t.queue 0).tail) = some 0 := by decide
theorem test_sq_tail_taken : afterS (exec (.sqTail (0, 0) 15) { State.reset with queues := [(0, { size := 4 })] }) (fun t => (t.queue 0).tail) = some 15 := by decide
/-- R371: a cap below 1,800 is ignored. -/
theorem test_pwr_ctl : afterS (exec (.pwrCtl (8 * 2 ^ 24 + 1799)) State.reset) (fun t => t.pwr.cap) = some 3600 := by decide
/-- R353: `sridle` not above `pdidle` is ignored. -/
theorem test_pwrcfg : afterS (exec (.hbmPwrcfg (20 * 2 ^ 24 + 20)) State.reset) (fun t => t.pwrcfg.sridle) = some 1000 := by decide
/-- R307: a write to XLT_INV makes it busy, a second one sets `err`. -/
theorem test_xlt_inv : afterS (exec (.xltInvPage 0x10000) State.reset) (fun t => (t.xlt.busy, t.xlt.err)) = some (true, false) := by decide
theorem test_xlt_inv_busy : afterS (exec (.xltInvPage 0x10000) { State.reset with xlt := { busy := true } }) (fun t => t.xlt.err) = some true := by decide
/-- R26: a split idle for 4,096 cycles is raised. -/
theorem test_raise : after (.splitRaise 0 0 0) (base { gang0 with split := [(0, { mask := 3, state := .demoted, dpos := 2, idle := 4096 })] }) (fun g => ((g.entry 0).state, (g.entry 0).raised)) = some (.ready, true) := by decide

/-! ### Witnesses: the hypotheses of the statements about words are met together -/

abbrev x0 : Machine.Unit := unitOf gang0
abbrev xT : Machine.Unit := unitOf gangT

theorem at_split : at0.AtSplit 0 0 0 x0 gang0 := ⟨rfl, rfl, rfl, rfl, by decide, rfl⟩
theorem at_lead : atL.AtLead 0 x0 := ⟨rfl, rfl, rfl, rfl⟩
theorem at_trap : atT.AtSplit 0 0 4 xT gangT := ⟨rfl, rfl, rfl, rfl, by decide, rfl⟩

/-- The active lanes of `at0` are 0 and 1. -/
theorem lanes_of {P : Nat → Prop} (h : P 0 ∧ P 1) : ∀ l, (3 : DWord).getLsbD l = true → P l := by
  intro l hl
  match l with
  | 0 => exact h.1
  | 1 => exact h.2
  | n + 2 => simp [BitVec.getLsbD, Nat.testBit_succ] at hl

/-- Without marked registers every register is good. -/
theorem good {y : Gang} {n : Nat} (hb : y.badRegs = []) : y.Good 3 n := fun _ _ hm => by simp [hb] at hm
theorem tagged {y : Gang} {n : Nat} {tags : List Tag} (hb : y.badRegs = []) (h : (y.tag n 0 = .raw ∨ y.tag n 0 ∈ tags) ∧ (y.tag n 1 = .raw ∨ y.tag n 1 ∈ tags)) : y.Tagged 3 n tags :=
  ⟨lanes_of h, good hb, fun _ => good hb⟩

/-- The hypotheses of a vector word at `at0`. -/
def Met (dst : List Nat) (srcs : List (Nat × List Tag)) (ss : List Nat := []) : Prop :=
  at0.AtSplit 0 0 0 x0 gang0 ∧ (∀ n ∈ dst, n < x0.kte.vregs) ∧ (∀ p ∈ srcs, p.1 < x0.kte.vregs) ∧ (∀ n ∈ ss, n < x0.kte.sregs) ∧
    gang0.NoPermute at0.cur.mask dst ∧ ∀ p ∈ srcs, gang0.Tagged at0.cur.mask p.1 p.2

theorem met (dst : List Nat) (srcs : List (Nat × List Tag)) (ss : List Nat) (h : (∀ n ∈ dst, n < 128) ∧ (∀ p ∈ srcs, p.1 < 128) ∧ (∀ n ∈ ss, n < 64) ∧
    ∀ p ∈ srcs, (gang0.tag p.1 0 = .raw ∨ gang0.tag p.1 0 ∈ p.2) ∧ (gang0.tag p.1 1 = .raw ∨ gang0.tag p.1 1 ∈ p.2)) : Met dst srcs ss :=
  ⟨at_split, h.1, h.2.1, h.2.2.1, fun _ ho => (List.not_mem_nil ho).elim, fun p hp => tagged rfl (h.2.2.2 p hp)⟩

theorem witness_ScalarArithmetic : (∃ f, scalarTwo (.add 3 1 2) = some (3, 1, 2, f)) ∧ (∃ f, scalarOne (.addi 3 1 5) = some (3, 1, f)) ∧
    at0.AtSplit 0 0 0 x0 gang0 ∧ atL.AtLead 0 x0 ∧ 3 < x0.kte.sregs := ⟨⟨_, rfl⟩, ⟨_, rfl⟩, at_split, at_lead, by decide⟩

theorem witness_IntegerVectorWords : ∃ r, vintRow (.vaddI32 5 3 3) = some r ∧ Met r.dst r.srcs r.ss := ⟨_, rfl, met _ _ _ (by decide)⟩
theorem witness_FloatVectorWords : ∃ r, floatRow (.vfmaF32 1 1 2) = some r ∧ Met r.dst r.srcs r.ss := ⟨_, rfl, met _ _ _ (by decide)⟩
theorem witness_Rounding : fmtF32 ∈ [fmtF64, fmtF32, fmtF16, fmtBF16] ∧ 3 ≠ 0 ∧ (-149 : Int) ≤ 0 ∧ (-149 : Int) ≤ fmtF32.emin - fmtF32.fw ∧
    (roundReal fmtF32 0 false false 3 0).flags &&& flagOf = 0 ∧ (roundReal fmtF32 2 false true 3 0).flags &&& flagOf = 0 ∧ fmtF32.isFinite 1 := by
  refine ⟨?_, ?_, ?_, ?_, ?_, ?_, ?_, ?_⟩ <;> decide
theorem witness_SpecialFunctionWords : ∃ r, sfuRow (.vsinF32 5 1) = some r ∧ Met r.dst r.srcs r.ss := ⟨_, rfl, met _ _ _ (by decide)⟩
theorem witness_SpecialFunctionValues : (0 ∈ [0, 1, 3, 4, 5, 6, 7]) ∧ fmtF32.isNan (0x7FC00000 : Word).toNat = true ∧ fmtF32.isNan (0 : Word).toNat = false ∧
    sfuSpecial 0 (fmtF32.source false (0 : Word).toNat) = some ⟨0x7F800000, flagDz⟩ := by decide
theorem witness_MoveWords : (∃ r, moveRow (.vsel 5 1 2 2) = some r ∧ Met r.dst r.srcs r.ss) ∧ ∃ r, moveRow (.vmovs 6 1 2) = some r ∧ Met r.dst r.srcs r.ss :=
  ⟨⟨_, rfl, met _ _ _ (by decide)⟩, _, rfl, met _ _ _ (by decide)⟩
theorem witness_Conversions : (∃ c, cvtForm (0x00 : BitVec 7).toNat = some c ∧ Met (c.row 8 1).dst (c.row 8 1).srcs) ∧ Met (vqntRow 8 4 1).dst (vqntRow 8 4 1).srcs :=
  ⟨⟨_, rfl, met _ _ _ (by decide)⟩, met _ _ _ (by decide)⟩
theorem witness_CompareWords : at0.AtSplit 0 0 0 x0 gang0 ∧ 1 < x0.kte.vregs ∧ gang0.Tagged at0.cur.mask 1 (compareTags 0) := ⟨at_split, by decide, tagged rfl (by decide)⟩
theorem witness_VoteWords : (∃ f, voteOf (.voteAny 6 3) = some (6, 3, f)) ∧ at0.AtSplit 0 0 0 x0 gang0 ∧ 6 < x0.kte.sregs ∧ 3 < x0.kte.vregs ∧ gang0.Good at0.cur.mask 3 := ⟨⟨_, rfl⟩, at_split, by decide, by decide, good rfl⟩
theorem witness_ShuffleWords : (∃ r, shflRow (.shflIdx 5 1 3) = some r ∧ Met r.dst r.srcs) ∧ gang0.gsp.length < 63 := ⟨⟨_, rfl, met _ _ _ (by decide)⟩, by decide⟩
theorem witness_ReductionWords : (∀ v, reduction v (0 : BitVec 7).toNat = some (integerTags, .i32, false, fun x y => ⟨(x + y) % 2 ^ 32, 0⟩)) ∧
    Met (redlRow 5 3 integerTags .i32 false fun _ x y => ⟨(x + y) % 2 ^ 32, 0⟩).dst (redlRow 5 3 integerTags .i32 false fun _ x y => ⟨(x + y) % 2 ^ 32, 0⟩).srcs := ⟨fun _ => rfl, met _ _ _ (by decide)⟩

/-- An issued permute: what `test_shfl_completes` completes. -/
def shuffled : State := match exec (.shflXor 5 1 1) at0 with
  | .next t => t
  | _ => at0
theorem witness_PermuteCompletes : ∃ x y o, shuffled.unit? 0 = some x ∧ mfind x.gangs 0 = some y ∧ y.ops = [o] ∧ o.kind.permuteDests ≠ [] := by
  refine ⟨(shuffled.unit? 0).get (by decide), (shuffled.gang? 0 0).get (by decide), ((shuffled.gang? 0 0).bind (·.ops.head?)).get (by decide), ?_⟩
  decide

/-- The unit with two elements in the operand queue of gang 0's channel 16. -/
def queued : State := { at0 with units := [(0, { x0 with opq := [(0, ⟨[{ r := ⟨7, .i32⟩ }, { r := ⟨8, .i32⟩ }]⟩)] })] }
theorem witness_PopWords : ∃ x, queued.AtSplit 0 0 0 x gang0 ∧ (5 : BitVec 7).toNat < x.kte.vregs ∧ (16 : BitVec 7).toNat < 32 ∧ gang0.NoPermute queued.cur.mask [5] ∧
    (x.streamOpen 0 = true → (lanesOf queued.cur.mask).length ≤ (mget {} x.opq 0).elems.length) ∧ (∀ r ∈ (mget {} x.opq 0).elems.take 2, r.stale = false) ∧ ∀ p ∈ x.badVals, p.1 = 64 + 0 → (lanesOf queued.cur.mask).length ≤ p.2 :=
  ⟨_, ⟨rfl, rfl, rfl, rfl, by decide, rfl⟩, by decide, by decide, fun _ ho => (List.not_mem_nil ho).elim, by decide, by decide, fun _ hp => (List.not_mem_nil hp).elim⟩

theorem witness_MaskRegisters : (∃ f, maskOf? (.stom 3 1) = some ([1], 3, f)) ∧ at0.AtSplit 0 0 0 x0 gang0 ∧ 1 < x0.kte.sregs := ⟨⟨_, rfl⟩, at_split, by decide⟩
theorem witness_FlowWords : (∃ f, flowOf (.call 30 4) = some f ∧ f.regs = [30]) ∧ at0.AtSplit 0 0 0 x0 gang0 ∧ atL.AtLead 0 x0 ∧ 30 < x0.kte.sregs :=
  ⟨⟨_, rfl, rfl⟩, at_split, at_lead, by decide⟩

/-- Gang 0 with no free entry, and with its spill stack of `n` elements. -/
def crowd (n : Nat) : Gang :=
  { gang0 with
    split := [(0, { mask := 3, ip := 10, state := .ready }), (1, { mask := 4 }), (2, { mask := 8 }), (3, { mask := 16 })]
    spill := List.replicate n ⟨32, 0, 0, 0⟩ }
def crowded (n nwd : Nat) : State := { base (crowd n) with cur := { stream := .split 0 0 0, mask := 3, ip := 10, nip := 10, nwd := nwd } }
/-- All the cases of R137: with m2 one lane goes each way, with m0 none, with BRD.N m0 all. -/
theorem witness_DivergentBranches : (∃ f, divergentOf (.brd 2 5) = some (f, 5) ∧ f gang0 at0.cur.mask = 1 ∧ at0.cur.mask &&& ~~~1 = 2) ∧ (∃ f, divergentOf (.brd 0 5) = some (f, 5) ∧ f gang0 at0.cur.mask = 0) ∧
    (∃ f, divergentOf (.brdN 0 5) = some (f, 5) ∧ f gang0 at0.cur.mask = 3) ∧ at0.AtSplit 0 0 0 x0 gang0 ∧ (∃ k r, gang0.usable = k :: r) ∧ atT.AtSplit 0 0 4 xT gangT ∧ atL.AtLead 0 x0 ∧
    (crowded 0 0).AtSplit 0 0 0 (unitOf (crowd 0)) (crowd 0) ∧ (crowd 0).usable = [] ∧ (crowd 0).spill.length < 32 ∧ (crowded 0 1).AtSplit 0 0 0 (unitOf (crowd 0)) (crowd 0) ∧
    (crowded 32 0).AtSplit 0 0 0 (unitOf (crowd 32)) (crowd 32) ∧ (crowd 32).usable = [] ∧ 32 ≤ (crowd 32).spill.length :=
  ⟨⟨_, rfl, by decide, by decide⟩, ⟨_, rfl, by decide⟩, ⟨_, rfl, by decide⟩, at_split, ⟨_, _, rfl⟩, at_trap, at_lead, ⟨rfl, rfl, rfl, rfl, by decide, rfl⟩, by decide, by decide, ⟨rfl, rfl, rfl, rfl, by decide, rfl⟩,
    ⟨rfl, rfl, rfl, rfl, by decide, rfl⟩, by decide, by decide⟩

/-- Gang 0 with its trap entry taken. -/
def gangB : Gang := { gang0 with split := [(0, { mask := 3, ip := 10, state := .ready }), (4, { mask := 4, state := .trap })] }
def atB : State := { base gangB with cur := { stream := .split 0 0 0, mask := 3, ip := 10, nip := 10, nwd := 1 } }
theorem at_busy : atB.AtSplit 0 0 0 (unitOf gangB) gangB := ⟨rfl, rfl, rfl, rfl, by decide, rfl⟩
theorem witness_TakingTraps : at0.AtSplit 0 0 0 x0 gang0 ∧ gang0.trapFree = true ∧ (([⟨0, .misaligned, 3⟩] : List LaneFault).map LaneFault.lane).Nodup ∧
    (∀ f ∈ ([⟨0, .misaligned, 3⟩] : List LaneFault), at0.cur.mask.getLsbD f.lane = true) ∧ atB.AtSplit 0 0 0 (unitOf gangB) gangB ∧ gangB.trapFree = false ∧
    atT.AtSplit 0 0 4 xT gangT ∧ atL.AtLead 0 x0 := ⟨at_split, by decide, by decide, by decide, at_busy, by decide, at_trap, at_lead⟩
theorem witness_TrapWords : at0.AtSplit 0 0 0 x0 gang0 ∧ at0.ctx.dbg = false ∧ gang0.trapFree = true ∧ gangB.trapFree = false ∧ atT.AtSplit 0 0 4 xT gangT ∧ atL.AtLead 0 x0 ∧
    ({ at0 with ctx := { dbg := true } } : State).AtSplit 0 0 0 x0 gang0 ∧ ({ atL with ctx := { dbg := true } } : State).AtLead 0 x0 :=
  ⟨at_split, rfl, by decide, by decide, at_trap, at_lead, ⟨rfl, rfl, rfl, rfl, by decide, rfl⟩, ⟨rfl, rfl, rfl, rfl⟩⟩

/-- The three cases of R233: with an empty spill stack and a free entry, with a spill stack, with one that is full. -/
def spilled (n : Nat) : Gang := { gangT with spill := List.replicate n ⟨4, 0, 0, 0⟩ }
def atSpilled (n : Nat) : State := { base (spilled n) with cur := atT.cur }
def notWord0 : Gang := { spilled 1 with twd := 1, tcode := 5 }
theorem witness_ReturnFromTrap : atT.AtSplit 0 0 4 xT gangT ∧ gangT.spill = [] ∧ (∃ k r, gangT.usable = k :: r ∧ k < 4) ∧ (atSpilled 1).AtSplit 0 0 4 (unitOf (spilled 1)) (spilled 1) ∧
    (spilled 1).spill ≠ [] ∧ (spilled 1).spill.length < 32 ∧ ((base notWord0).returnPlace 0 (unitOf notWord0) notWord0).2 ≠ 0 ∧ ({ base notWord0 with cur := atT.cur } : State).AtSplit 0 0 4 (unitOf notWord0) notWord0 ∧
    (∃ y, ({ base y with cur := atT.cur } : State).AtSplit 0 0 4 (unitOf y) y ∧ (({ base y with cur := atT.cur } : State).returnPlace 0 (unitOf y) y).2 = 0 ∧ y.spill ≠ [] ∧ y.spill.length < 32) :=
  ⟨at_trap, rfl, ⟨_, _, rfl, by decide⟩, ⟨rfl, rfl, rfl, rfl, by decide, rfl⟩, by decide, by decide, by decide, ⟨rfl, rfl, rfl, rfl, by decide, rfl⟩,
    ⟨{ spilled 1 with tcode := 5 }, ⟨rfl, rfl, rfl, rfl, by decide, rfl⟩, by decide, by decide, by decide⟩⟩
theorem witness_PrivilegedWords : at0.AtSplit 0 0 0 x0 gang0 ∧
    ({ atL with units := [(0, { x0 with bind := { x0.bind with sys := false } })] } : State).AtLead 0 { x0 with bind := { x0.bind with sys := false } } := ⟨at_split, ⟨rfl, rfl, rfl, rfl⟩⟩

/-- A unit that declares 3 scalar and 3 vector registers. -/
def xSmall : Machine.Unit := { x0 with kte := { x0.kte with sregs := 3, vregs := 3 } }
theorem witness_UndeclaredRegisters : (∃ f, scalarTwo (.add 3 1 2) = some (3, 1, 2, f)) ∧ ({ at0 with units := [(0, xSmall)] } : State).AtSplit 0 0 0 xSmall gang0 ∧ xSmall.kte.sregs ≤ 3 ∧
    (∃ r, vintRow (.vaddI32 3 1 1) = some r ∧ ∃ n ∈ r.dst, xSmall.kte.vregs ≤ n) ∧ atL.AtLead 0 x0 ∧ 32 ≤ (32 : BitVec 6).toNat :=
  ⟨⟨_, rfl⟩, ⟨rfl, rfl, rfl, rfl, by decide, rfl⟩, by decide, ⟨_, rfl, 3, by decide, by decide⟩, at_lead, by decide⟩
theorem witness_FormatTags : ∃ r, floatRow (.vaddF32 5 1 3) = some r ∧ at0.AtSplit 0 0 0 x0 gang0 ∧ (∀ n ∈ r.dst, n < x0.kte.vregs) ∧ (∀ p ∈ r.srcs, p.1 < x0.kte.vregs) ∧
    gang0.NoPermute at0.cur.mask r.dst ∧ ((lanesOf at0.cur.mask).filter fun l => r.srcs.any fun p => gang0.tag p.1 l != .raw && !p.2.contains (gang0.tag p.1 l)) ≠ [] :=
  ⟨_, rfl, at_split, by decide, by decide, fun _ ho => (List.not_mem_nil ho).elim, by decide⟩
/-- Gang 0 with an uncorrectable error in v1 of lane 1. -/
def gangE : Gang := { gang0 with badRegs := [64 * 1 + 1] }
theorem witness_RegistersInError : ∃ r, floatRow (.vaddF32 5 1 2) = some r ∧ ({ base gangE with cur := at0.cur } : State).AtSplit 0 0 0 (unitOf gangE) gangE ∧ gangE.NoPermute at0.cur.mask r.dst ∧
    (∀ p ∈ r.srcs, ∀ l, at0.cur.mask.getLsbD l = true → gangE.tag p.1 l = .raw ∨ gangE.tag p.1 l ∈ p.2) ∧
    ((lanesOf at0.cur.mask).filter fun l => (r.srcs.flatMap fun p => if p.2 = [.f64] then [p.1, p.1 + 1] else [p.1]).any fun n => gangE.badRegs.contains (64 * n + l)) = [1] := by
  refine ⟨_, rfl, ⟨rfl, rfl, rfl, rfl, by decide, rfl⟩, fun _ ho => (List.not_mem_nil ho).elim, ?_, by decide⟩
  intro p hp
  exact lanes_of ((by decide : ∀ p ∈ [(1, [Tag.f32]), (2, [Tag.f32])], (gangE.tag p.1 0 = .raw ∨ gangE.tag p.1 0 ∈ p.2) ∧ (gangE.tag p.1 1 = .raw ∨ gangE.tag p.1 1 ∈ p.2)) p hp)
theorem witness_ExitWords : at0.AtSplit 0 0 0 x0 gang0 ∧ atL.AtLead 0 x0 := ⟨at_split, at_lead⟩
/-- WAIT passes with limit 0 and nothing outstanding, and waits with one shuffle outstanding. -/
theorem witness_WaitWords : at0.AtSplit 0 0 0 x0 gang0 ∧ gang0.vmcnt (gang0.entry 0) = 0 ∧ atL.AtLead 0 x0 ∧ x0.lead.ops.length = 0 ∧
    (shuffled.gang? 0 0).map (fun y => y.spcnt (y.entry 0)) = some 1 := ⟨at_split, by decide, at_lead, rfl, by decide⟩
theorem witness_BarrierWords : (∃ b, barrierOf .gbar = some b) ∧ at0.AtSplit 0 0 0 x0 gang0 ∧ (gang0.entry 0).bar ≠ .passed ∧ atT.AtSplit 0 0 4 xT gangT ∧
    ∃ y, ({ base y with cur := at0.cur } : State).AtSplit 0 0 0 (unitOf y) y ∧ (y.entry 0).bar = .passed :=
  ⟨⟨_, rfl⟩, at_split, by decide, at_trap, ⟨{ gang0 with split := [(0, { mask := 3, ip := 10, state := .ready, bar := .passed })] }, ⟨rfl, rfl, rfl, rfl, by decide, rfl⟩, rfl⟩⟩
theorem witness_SpawnWords : at0.AtSplit 0 0 0 x0 gang0 ∧ 8 + 7 < x0.kte.sregs ∧ at0.released 1 = .ok ∧ x0.ngang < x0.bind.glimit ∧ x0.freeGang = some 1 ∧
    (∃ sl, at0.gangSlices 0 x0.kte.vregs gang0.width = some sl) ∧ atL.AtLead 0 x0 ∧ atT.AtSplit 0 0 4 xT gangT ∧
    ∃ x, ({ at0 with units := [(0, x)] } : State).AtSplit 0 0 0 x gang0 ∧ x.bind.glimit ≤ x.ngang ∧ ({ at0 with units := [(0, x)] } : State).released 1 = .ok :=
  ⟨at_split, by decide, by decide, by decide, by decide, ⟨(at0.gangSlices 0 128 8).get (by decide), by decide⟩, at_lead, at_trap,
    ⟨{ x0 with bind := { x0.bind with glimit := 1 } }, ⟨rfl, rfl, rfl, rfl, by decide, rfl⟩, by decide, by decide⟩⟩
theorem witness_SpecialRegisters : at0.AtSplit 0 0 0 x0 gang0 ∧ specialOf at0 0 0 0 gang0 3 = some 3 ∧ specialOfLead atL 0 x0 5 = some 64 ∧ atL.AtLead 0 x0 ∧
    (∃ v, laneSpecial at0 gang0 0 6 0 = some ([6], v)) ∧ gang0.NoPermute at0.cur.mask [6] ∧ (6 : BitVec 8) ∈ [(6 : BitVec 8), 7] :=
  ⟨at_split, by decide, rfl, at_lead, ⟨_, rfl⟩, fun _ ho => (List.not_mem_nil ho).elim, by decide⟩

/-- Gang 0 with addresses into the page at 0x40000, backed at physical 0x400000: s6 a base, v6 (with v7) a 64-bit address, v8 a scratchpad offset, v10 to v13 operands. -/
def gangM : Gang := { gang0 with regs := { gang0.regs with
  s := [(1, 2), (2, 3), (4, 0x100), (6, 0x40000), (7, 0x200)]
  v := gang0.regs.v ++ [(384, ⟨0x40010, .raw⟩), (385, ⟨0x40018, .raw⟩), (512, ⟨0x40, .raw⟩), (513, ⟨0x40, .raw⟩)] } }
def atM : State := { base gangM with cur := at0.cur }
abbrev xM : Machine.Unit := unitOf gangM
theorem at_mem : atM.AtSplit 0 0 0 xM gangM := ⟨rfl, rfl, rfl, rfl, by decide, rfl⟩
theorem no_permute (mk : DWord) (dst : List Nat) : gangM.NoPermute mk dst := fun _ ho => (List.not_mem_nil ho).elim
/-- Places of the lanes at v4 + s6, and at v6. -/
def placeV (l : Nat) : Loc := .dev (0x400008 + 4 * l)
def placeQ (l : Nat) : Loc := .dev (0x400010 + 8 * l)
def addrQ (l : Nat) : DWord := BitVec.ofNat 64 ((gangM.V 6 l).toNat + 2 ^ 32 * (gangM.V 7 l).toNat)

theorem witness_StreamsAndCounts : atM.AtSplit 0 0 0 xM gangM ∧ atL.AtLead 0 x0 ∧ at0.cur.stream = .split 0 0 0 := ⟨at_mem, at_lead, rfl⟩
theorem address4 : gangM.Tagged atM.cur.mask 4 addressTags := tagged rfl (by decide)
theorem address6 : gangM.Tagged atM.cur.mask 6 addressTags := tagged rfl (by decide)
theorem witness_VectorLoads : atM.AtSplit 0 0 0 xM gangM ∧ gangM.Tagged atM.cur.mask 4 addressTags ∧ gangM.Tagged atM.cur.mask 6 addressTags ∧ gangM.Good atM.cur.mask 7 ∧ gangM.gvm.length < 63 ∧ gangM.NoPermute atM.cur.mask (typeRegs 2 5) ∧
    (∀ l, atM.cur.mask.getLsbD l = true → atM.globalPlace 0 xM (vectorAddress gangM 4 6 0 l) ⟨typeBytes 2, .load, seamType 2⟩ = .at (placeV l) false) ∧
    ∀ l, atM.cur.mask.getLsbD l = true → atM.globalPlace 0 xM (addrQ l) ⟨4, .poll, false⟩ = .at (placeQ l) false :=
  ⟨at_mem, address4, address6, good rfl, by decide, no_permute _ _, lanes_of (by decide), lanes_of (by decide)⟩
theorem witness_VectorStores : atM.AtSplit 0 0 0 xM gangM ∧ gangM.Tagged atM.cur.mask 3 (tyAccepts 2) ∧ gangM.Tagged atM.cur.mask 4 addressTags ∧
    ∀ l, atM.cur.mask.getLsbD l = true → atM.globalPlace 0 xM (vectorAddress gangM 4 6 0 l) ⟨typeBytes 2, .store, seamType 2⟩ = .at (placeV l) false :=
  ⟨at_mem, tagged rfl (by decide), address4, lanes_of (by decide)⟩
theorem witness_StoresEnterThePort : ∀ t ∈ ([⟨.dev 0x400008, 4, 5, false, 0x40008, some 0⟩] : List LaneStore), t.loc = .dev ((fun _ => 0x400008) t) := by decide
theorem witness_ScratchLoads : atM.AtSplit 0 0 0 xM gangM ∧ gangM.gsp.length < 63 ∧ gangM.NoPermute atM.cur.mask (typeRegs 2 5) ∧ gangM.Tagged atM.cur.mask 4 addressTags ∧ gangM.Good atM.cur.mask 8 ∧
    atM.pasts ⟨0, 0, atM.nextId, none⟩ (2 + 0) 0x40 4 = [] ∧
    (∀ l, atM.cur.mask.getLsbD l = true → xM.reaches (vectorAddress gangM 4 7 0 l) (typeBytes 2) (typeBytes 2)) ∧
    ∀ l, atM.cur.mask.getLsbD l = true → xM.reaches (BitVec.ofNat 64 (gangM.V 8 ((lanesOf atM.cur.mask).getD ((lanesOf atM.cur.mask).countP (· < l) / 16 * 16) 0)).toNat) (64 * 4) 16 :=
  ⟨at_mem, by decide, no_permute _ _, address4, good rfl, rfl, lanes_of (by unfold Unit.reaches; decide), lanes_of (by unfold Unit.reaches; decide)⟩
theorem witness_ScratchStores : atM.AtSplit 0 0 0 xM gangM ∧ gangM.Tagged atM.cur.mask 3 (tyAccepts 2) ∧ gangM.Tagged atM.cur.mask 4 addressTags ∧
    ∀ l, atM.cur.mask.getLsbD l = true → xM.reaches (vectorAddress gangM 4 7 0 l) (typeBytes 2) (typeBytes 2) :=
  ⟨at_mem, tagged rfl (by decide), address4, lanes_of (by unfold Unit.reaches; decide)⟩
theorem at_word : atM.AtWord 0 xM := .inl ⟨_, _, _, at_mem⟩
theorem lead_word : atL.AtWord 0 x0 := .inr at_lead
theorem witness_ScalarLoads : scalarLoadOf (.sldB64 5 6 1) = some (0, 8, false, 5, 6, 1) ∧ atM.AtWord 0 xM ∧ atM.streamReg xM 5 ∧ atM.countRoom .vm = .ok ∧ atM.countRoom .sp = .ok ∧
    atM.globalPlace 0 xM (scalarAddress (atM.X 6) 1 8) ⟨8, .load, true⟩ = .at (.dev 0x400008) false ∧ xM.reaches (scalarAddress (atM.X 7) 1 8) 8 8 ∧
    scalarLoadOf (.sldsB64 5 7 1) = some (0, 8, true, 5, 7, 1) :=
  ⟨rfl, at_word, show 5 < 64 by decide, by decide, by decide, by decide, by unfold Unit.reaches; decide, rfl⟩
theorem witness_ScalarStores : scalarStoreOf (.sstB32 2 6 1) = some (4, false, 2, 6, 1) ∧ atM.AtWord 0 xM ∧ atM.streamReg xM 6 ∧
    atM.globalPlace 0 xM (scalarAddress (atM.X 6) 1 4) ⟨4, .store, true⟩ = .at (.dev 0x400004) false ∧ scalarStoreOf (.sstsB64 2 7 1) = some (8, true, 2, 7, 1) ∧
    xM.reaches (scalarAddress (atM.X 7) 1 8) 8 8 := ⟨rfl, at_word, show 6 < 64 by decide, by decide, rfl, by unfold Unit.reaches; decide⟩
theorem witness_AtomicWords : atomOf (.atomAdd 0 2 3 6 0) = some (0, 0, 2, 3, 6, 0) ∧ atM.AtSplit 0 0 0 xM gangM ∧ gangM.NoPermute atM.cur.mask (atomRegs 0 3) ∧
    (∀ n ∈ atomReads 0 0 3, gangM.Good atM.cur.mask n ∧ gangM.Tagged atM.cur.mask n integerTags) ∧ gangM.Good atM.cur.mask 6 ∧ gangM.Good atM.cur.mask (6 + 1) ∧ (∀ l, atM.cur.mask.getLsbD l = true → atM.atomPlace 0 xM 0 0 0 (atomAddress gangM 6 0 l) = .at (placeQ l) false) ∧
    atomOf (.atomCas 0 1 10 4 1) = some (7, 0, 1, 10, 4, 1) ∧ (∀ n ∈ atomReads 7 0 10, gangM.Good atM.cur.mask n ∧ gangM.Tagged atM.cur.mask n integerTags) ∧
    ∀ l, atM.cur.mask.getLsbD l = true → atM.atomPlace 0 xM 7 0 1 (atomAddress gangM 4 1 l) = .at (.spad 0 (8 + 4 * l)) false := by
  refine ⟨rfl, at_mem, no_permute _ _, ?_, good rfl, good rfl, lanes_of (by decide), rfl, ?_, lanes_of (by decide)⟩
  · intro n hn
    obtain rfl : n = 3 := by simpa [atomReads] using hn
    exact ⟨good rfl, tagged rfl (by decide)⟩
  · intro n hn
    obtain rfl | rfl : n = 10 ∨ n = 11 := by simpa [atomReads, List.range, List.range.loop] using hn
    all_goals exact ⟨good rfl, tagged rfl (by decide)⟩
theorem witness_AtomicValues : (0 : BitVec 2).toNat ≤ 1 ∧ (5 : DWord) = (5 : Word).setWidth 64 ∧ 2 ≤ (3 : BitVec 2).toNat ∧ 7 < 8 := by decide
theorem witness_SeamEviction : atM.AtSplit 0 0 0 xM gangM ∧ gangM.Tagged atM.cur.mask 6 addressTags ∧ gangM.Good atM.cur.mask (6 + 1) ∧ gangM.gvm.length < 63 ∧ ∀ l, atM.cur.mask.getLsbD l = true → (addrQ l).toNat % 4 = 0 ∧ (atM.inPeerRegion (addrQ l) = true ∨ ∃ leaf, atM.laneXlate 0 (addrQ l) = .leaf leaf) :=
  ⟨at_mem, address6, good rfl, by decide, lanes_of ⟨⟨by decide, .inr ⟨_, rfl⟩⟩, ⟨by decide, .inr ⟨_, rfl⟩⟩⟩⟩

/-- `atM` with an earlier load of the split outstanding; with an earlier store in the port. -/
def loading : State := match exec (.vld 2 5 4 6 0) atM with
  | .next t => { t with cur := atM.cur }
  | _ => atM
def storing : State := match exec (.vst 2 3 4 6 0) atM with
  | .next t => { t with cur := atM.cur }
  | _ => atM
/-- The core has a dirty block of a seam. -/
def dirtied : State := atM.modCore 0 fun k => { k with dress := [{ sidx := 0, blk := 0, d := 1, rate := 8, fin := false, pad := [], phys := [0x400000], elems := [], claimed := true, dirty := true }] }
theorem witness_FenceWords : fenceOf (.fenceAr 2) = some (true, true, 2) ∧ atM.AtWord 0 xM ∧ atM.loadsReturned = true ∧ atM.released (levelOf atM 2) = .ok ∧
    (∃ x y, loading.AtSplit 0 0 0 x y) ∧ loading.loadsReturned = false ∧ (∃ x y, storing.AtSplit 0 0 0 x y) ∧ storing.released (levelOf storing 2) = .wait ∧
    (∀ p ∈ dirtied.past, p.cmd.any (fun _ => true) = false) ∧ (∀ p ∈ [0, 1, 2, 3, 4], atM.pathDone p = true) ∧ dirtied.AtWord 0 xM ∧ dirtied.pathDone 1 = false ∧ atM.streamReg xM 3 :=
  ⟨rfl, at_word, by decide, by decide, ⟨_, _, ⟨rfl, rfl, rfl, rfl, by decide, rfl⟩⟩, by decide, ⟨_, _, ⟨rfl, rfl, rfl, rfl, by decide, rfl⟩⟩, by decide,
    by decide, by decide, .inl ⟨_, _, _, ⟨rfl, rfl, rfl, rfl, by decide, rfl⟩⟩, by decide, show 3 < 64 by decide⟩
theorem witness_BarrierObjects : atM.AtWord 0 xM ∧ atM.streamReg xM 7 ∧ xM.reaches (atM.X 7) 16 16 ∧ atM.spadPoisoned 0 0x200 16 = false ∧
    (∃ f, objectOf (.boarrive 7 1) = some (7, 1, true, f)) ∧ atM.released 1 = .ok ∧ atM.phaseBefore 0 0x200 ≠ (atM.X 2).toNat % 2 ∧ atM.phaseBefore 0 0x200 = (atM.X 1).toNat % 2 :=
  ⟨at_word, show 7 < 64 by decide, by unfold Unit.reaches; decide, by decide, ⟨_, rfl⟩, by decide, by decide, by decide⟩

/-- Unit 0 with port 0 routed to itself, a value in port 1 and one in its decision queue, port 2 routed to a unit that is not there. -/
def xC : Machine.Unit := { x0 with routes := [(0, ⟨0, 0, 1⟩), (2, ⟨0, 1, 0⟩)], ports := [(1, [9])], dq := [7] }
def atC : State := { at0 with units := [(0, xC)] }
theorem at_chan : atC.AtSplit 0 0 0 xC gang0 := ⟨rfl, rfl, rfl, rfl, by decide, rfl⟩
theorem witness_Channels : atC.AtWord 0 xC ∧ atC.streamReg xC 5 ∧ atC.sendTo 0 xC 0 = .port 0 1 ∧ atC.released (levelOf atC 2) = .ok ∧
    (∃ s : State, s.AtWord 0 xC ∧ s.sendTo 0 xC 2 = .discard ∧ s.released (levelOf s 2) = .ok) ∧ atC.sendTo 0 xC 5 = .noRoute ∧ atC.sendTo 0 xC 2 = .wait ∧
    mget [] xC.ports 1 = [9] ∧ xC.badFirst 2 1 = false ∧ mget [] xC.ports 3 = [] ∧ xC.dq = [7] ∧ xC.badFirst 0 1 = false ∧
    atL.AtLead 0 x0 ∧ atL.released 1 = .ok ∧ atL.queueRoom 0 x0.dq.length x0.dq.length 1 x0.qlim.decision = true ∧ ¬atC.AtLead 0 xC ∧ at0.AtWord 0 x0 ∧ x0.dq = [] ∧ x0.lead.state ≠ .stopped ∧
    ∃ x : Machine.Unit, x.dq = [] ∧ x.lead.state = .stopped ∧ ({ at0 with units := [(0, x)] } : State).AtWord 0 x := by
  refine ⟨.inl ⟨_, _, _, at_chan⟩, show 5 < 64 by decide, by decide, by decide, ⟨{ atC with gone := [(1, [xC.launch])] }, .inl ⟨_, _, _, ⟨rfl, rfl, rfl, rfl, by decide, rfl⟩⟩, by decide, by decide⟩, by decide, by decide, by decide, by decide, by decide, rfl, by decide,
    at_lead, by decide, by decide, ?_, .inl ⟨_, _, _, at_split⟩, rfl, by decide, ⟨{ x0 with lead := { x0.lead with state := .stopped } }, rfl, rfl, .inl ⟨_, _, _, ⟨rfl, rfl, rfl, rfl, by decide, rfl⟩⟩⟩⟩
  intro h; exact absurd h.stream (by decide)

theorem record_ok {r : RecRead} (h : (match r with
    | .ok _ => true
    | _ => false) = true) : ∃ v, r = .ok v := by
  cases r <;> first | exact ⟨_, rfl⟩ | cases h
theorem witness_EngineWords : atL.AtLead 0 x0 ∧ (∃ r, engineRow atL 0 x0 .mswap = some (holdsGrant atL 0, r)) ∧ holdsGrant atL 0 ∧ atL.cmdRoom 0 x0 .tile = .ok ∧
    (∃ ok r, engineRow atL 0 x0 (.nmc 4 5 6) = some (ok, r) ∧ ok) ∧
    (∃ x, ({ atL with units := [(0, x)] } : State).AtLead 0 x ∧ ({ atL with units := [(0, x)] } : State).cmdRoom 0 x .tile = .wait) ∧
    ({ atL with cores := [] } : State).AtLead 0 x0 ∧ ¬holdsGrant { atL with cores := [] } 0 ∧
    atL.recPlace 0 x0 1 (atL.X 4) = .at (.spad 0 0) false ∧ ∃ v, atL.readRecord 0 x0 (.spad 0 0) = .ok v :=
  ⟨at_lead, ⟨_, rfl⟩, by unfold holdsGrant; decide, by decide, ⟨_, _, rfl, by decide⟩,
    ⟨{ x0 with cmds := List.replicate 64 { id := 0, op := .mswap } }, ⟨rfl, rfl, rfl, rfl⟩, by decide⟩, ⟨rfl, rfl, rfl, rfl⟩, by unfold holdsGrant; decide, by decide, record_ok (by decide)⟩

/-- A lead with a weight or activation record in slot 0, a copy record in slot 1, weights loaded, and a stream's control word in h7. -/
def xE : Machine.Unit := { x0 with
  lead := { x0.lead with h := [(7, 0x50)] }
  slots := [(0, 0x40000000000000000000#512), (1, 0x400a0000000000000000#512)]
  imx := { active := .i8x4 } }
def atE : State := { atL with units := [(0, xE)] }
/-- For each engine word, operands with which it issues normally. -/
theorem witness_engineRow : atE.AtLead 0 xE ∧ ∀ i ∈ [Instr.mldw 4 5 0 0, .mswap, .mma 4 5 0 0 0, .mdrain 4 5 0 0 0 1, .tcopy 4 5 0 1 1, .strm 4 5 7 1, .nmc 4 5 6, .dread 4 5 6, .dappend 4 5 6],
    ∃ ok r, engineRow atE 0 xE i = some (ok, r) ∧ ok := by
  refine ⟨⟨rfl, rfl, rfl, rfl⟩, ?_⟩
  simp only [List.mem_cons, List.not_mem_nil, or_false, forall_eq_or_imp, forall_eq]
  refine ⟨⟨_, _, rfl, ?_⟩, ⟨_, _, rfl, rfl⟩, ⟨_, _, rfl, ?_⟩, ⟨_, _, rfl, ?_⟩, ⟨_, _, rfl, by decide +kernel⟩, ⟨_, _, rfl, by decide +kernel⟩, ⟨_, _, rfl, by decide +kernel⟩, ⟨_, _, rfl, by decide +kernel⟩, ⟨_, _, rfl, by decide +kernel⟩⟩
  · exact ⟨rfl, by decide +kernel, by decide +kernel, by decide +kernel, fun h => absurd h (by decide +kernel)⟩
  · exact ⟨rfl, by decide +kernel, by decide +kernel, by decide +kernel, by decide +kernel, by decide +kernel, fun h => absurd h (by decide +kernel)⟩
  · exact ⟨rfl, by decide +kernel, ⟨by decide +kernel, by decide +kernel⟩, by decide +kernel, by decide +kernel, fun h => absurd h (by decide +kernel), fun h => absurd h (by decide +kernel)⟩

def job3 : Job := { q := 0, ring := 0, tag := 0, comp := 0, phases := [[]] }
/-- A lead of job 3, with a second job number free; h4 0x40000 in the page, h5 the address of PWR_CTL. -/
def xJ : Machine.Unit := { x0 with lead := { x0.lead with h := [(1, 2), (2, 3), (4, 0x40000), (5, 0xB0000), (6, 0x1000000000000)] }, origin := some { job := 3 } }
def atJ : State := { atL with units := [(0, xJ)], jobs := [(3, job3)] }
theorem witness_SystemWords : atJ.AtLead 0 xJ ∧ cancelOf (.cancelJob 6) = some (6, fun _ _ => .job) ∧ mfind atJ.jobs 3 = some job3 ∧ (atJ.X 6).toNat / 2 ^ 48 = 1 ∧ (atJ.X 6).toNat / 2 ^ 6 % 2 ^ 10 = 0 ∧
    Part.live .job job3 = true ∧ (atJ.X 1).toNat / 2 ^ 48 ≠ 1 ∧ xJ.bind.sys = true ∧
    atJ.globalPlace 0 xJ (atJ.X 4) ⟨32, .load, false⟩ = .at (.dev 0x400000) false ∧ (∃ v, atJ.readRecord 0 xJ (.dev 0x400000) 32 = .ok v) ∧
    (scalarAddress (atJ.X 5) 0 8).toNat % 8 = 0 ∧ (∃ r, atJ.devReg (scalarAddress (atJ.X 5) 0 8).toNat = some r ∧ ∀ k, r ≠ .sltBind k) ∧ xJ.lead.ops.length < 63 :=
  ⟨⟨rfl, rfl, rfl, rfl⟩, rfl, by decide, by decide, by decide, by decide, by decide, rfl, by decide, record_ok (by decide), by decide, ⟨.pwrCtl, by decide, fun _ => by simp⟩, by decide⟩

/-! ### Witnesses: the machine as a whole, and events -/

/-- Device memory with a page table at 0x200000 (a page at 0x40000 mapped to 0x400000, a first-touch page at 0x50000), a context descriptor at physical 0x220100, a phase table at 0x40100, its graph table at 0x40120, a kernel-table
entry at 0x40500 (gang unit, 64 scalar and 128 vector registers, no scratchpad), arguments at 0x40540, and a bind record at 0x40580. -/
def world : Memory := [(0x200000, 8, 0x208001), (0x208000, 8, 0x210001), (0x210020, 8, 0x400033), (0x210028, 8, 0x400), (0x220100, 8, 0x200000), (0x220114, 4, 1), (0x400100, 8, 0x40120), (0x400108, 8, 1), (0x400120, 8, 0x40140),
  (0x400128, 8, 1), (0x400510, 8, 2 ^ 23 + 2 * 2 ^ 21 + 2 * 2 ^ 19), (0x400580, 8, 0x40500), (0x400588, 8, 0x40540), (0x4005A0, 8, 4 * 2 ^ 32 + 2 ^ 24 + 2 ^ 56)].foldl
    (fun m p => m.writeAll (valueAt p.1 p.2.1 p.2.2)) ([] : Memory)
def atW : State := { base gang0 with mem := world, ctx := { ptroot := 0x200000 }, cores := [] }
/-- The same with nothing resident. -/
def atN : State := { atW with units := [], fsplit := 1 }

theorem witness_ResetValues : (DevReg.sqCtl 0, 0) ∈ resetRegisters ∧ DevReg.sameKind (.sqCtl 0) (.sqCtl 5) := ⟨by simp [resetRegisters], trivial⟩
theorem witness_MemoryStaysCanonical : (State.reset.withFetchWord 32 0x04000000).memOk ∧ (afterS (step (State.reset.withFetchWord 32 0x04000000)) fun _ => ()) = some () := ⟨by unfold State.memOk; decide, by decide⟩
theorem witness_EncodingsDecode : (Instr.add 3 1 2).wf = true ∧ encodeWord true (.add 3 1 2) = some 0x8C00C108 := by decide
/-- The first step of `test_step_fetches`, and a step that performs an event. -/
def atF : State := State.reset.withFetchWord 32 0x0C00C108
theorem witness_StepRunsDecoded : atF.agenda = [.issue (.split 0 0 0)] ∧ (Stream.split 0 0 0).unit = some 0 ∧ atF.issues (.split 0 0 0) = true ∧
    (let t := ({ atF with agenda := [] } : State).seat (.split 0 0 0)
     let base := t.codeBase
     (∃ k, t.chainAt 0 base t.cur.ip 3 t.cur.wd = [(k, .word 0x0C00C108)]) ∧
      let q := t.laneTlbFill 0 [wordAddr base t.cur.ip 0]
      let next := q.placeAfter 0 base q.cur.ip 0
      ({ q with cur := { q.cur with nip := next.1, nwd := next.2, chained := false } } : State).lateHere = none) ∧ decodeWord 0x0C00C108 = .ok (.add 3 1 2) ∧ chainLegal false [0x0C00C108] = true ∧
    ({ State.reset with sched := [.event .packageReset] } : State).agenda = [] ∧ encode .packageReset = none :=
  ⟨by decide, rfl, by decide, ⟨⟨_, rfl⟩, by decide⟩, rfl, by decide, rfl, by decide⟩
theorem witness_NoInstructionStops : at0.live = true ∧ encode .packageReset = none := by decide

theorem some_all {α : Type} {o : Option α} {p : α → Bool} (h : o.any p = true) : ∃ c, o = some c ∧ p c = true := by
  cases o with
  | none => cases h
  | some c => exact ⟨c, rfl, h⟩

/-- Device reset with a submission queue 0 of 16 records, its context descriptor legal, or in error, or read already. -/
def queues (en : Bool) : State := { State.reset with queues := [(0, { size := 4, en := en })], svy := { done := true, hbm := 255 } }
theorem witness_QueueRegisters : State.reset.svy.done = false ∧ 0 < State.reset.queueCount ∧ 0 < (queues false).queueCount ∧ (15 < 2 ^ ((queues false).queue 0).size ∧ (((queues false).queue 0).tail + 16 - ((queues false).queue 0).head) % 16 ≤ (15 + 16 - ((queues false).queue 0).head) % 16) ∧
    ¬(16 < 2 ^ ((queues false).queue 0).size) ∧ ((queues false).queue 0).en = false ∧ ((queues true).queue 0).en = true ∧ (8 : DWord).getLsbD 3 = true ∧ (0 : DWord).getLsbD 3 = false ∧
    (queues false).svy.done = true ∧ (queues false).ctxNew = false ∧ (queues false).ctxBad = false ∧ ({ atN with ctxReg := 0x220100, ctxNew := true } : State).readCtx.isSome = true ∧
    (∃ c, ({ atN with ctxReg := 0x220100, ctxNew := true } : State).readCtx = some c ∧ atN.presents c = true) ∧ State.reset.presents { pmode := 8 } = false ∧
    ({ queues false with ctxReg := 1, ctxNew := true } : State).readCtx = none ∧ (queues false).anyEnabled = false ∧ (queues false).jobs = [] ∧ (queues true).anyEnabled = true := by
  refine ⟨by decide, by decide, by decide, by decide, by decide, by decide, by decide, by decide, by decide, by decide, by decide, by decide, by decide +kernel, some_all (by decide +kernel), by decide, by decide, by decide, by decide, by decide⟩
theorem witness_DeviceRegisters : 0 < State.reset.queueCount ∧ (1 : DWord).toNat % 4 = 1 ∧ (2 : DWord).toNat % 4 = 2 ∧ (2 : DWord).getLsbD 1 = true ∧ (4 : DWord).toNat % 8 ≠ 0 ∧
    0x1000000 ≤ (0x1000000 : DWord).toNat ∧ State.reset.fsplit.getLsbD 0 = false ∧
    ({ State.reset with xlt := { busy := true } } : State).olderAccess 0 = false ∧ State.reset.cores = [] ∧ State.reset.xlt.busy = false ∧
    State.reset.mig.busy = false ∧ State.reset.leafEntry 0x40000 = none ∧ (atW.leafEntry 0x40000 = some (0x400033, 0x210020, 1) ∧ pteS 0x400033 = false ∧ pteKind 0x400033 = 0 ∧ atW.owned (ptePa 0x400033) = true ∧ atW.isHbm (ptePa 0x400033) = true ∧ isLpddr (ptePa 0x400033) = false) ∧
    (∃ dst, dst % 65536 = 0 ∧ isLpddr dst = true ∧ isLpddr (dst + 65535) = true ∧ atW.owned dst = true ∧ atW.owned (dst + 65535) = true ∧ ∀ m ∈ atW.mem, ¬(dst ≤ m.1 ∧ m.1 < dst + 65536)) := by
  refine ⟨by decide, by decide, by decide, by decide, by decide, by decide, by decide, by decide, rfl, rfl, rfl, by decide, by decide +kernel, ⟨2 ^ 40, by decide +kernel⟩⟩
/-- The other registers: in range and out of it, queues enabled and not, FSPLIT bit 4, a resident unit whose queue limits fit and do not. -/
theorem witness_OtherRegisters : State.reset.anyEnabled = false ∧ (queues true).anyEnabled = true ∧ recField (0x03000003E8000014 : DWord).toNat 0 16 < recField (0x03000003E8000014 : DWord).toNat 24 32 ∧
    recField (0x14000014 : DWord).toNat 24 32 ≤ recField (0x14000014 : DWord).toNat 0 16 ∧ (1800 ≤ recField (0x8000708 : DWord).toNat 0 12 ∧ 8 ≤ recField (0x8000708 : DWord).toNat 24 5) ∧
    (0x10 : BitVec 6).getLsbD 4 = true ∧ at0.unit? 0 = some x0 ∧ ({ x0 with qlim := x0.qlim.put 0 ⟨0, 0⟩ } : Machine.Unit).poolUse ≤ at0.poolFree 0 + x0.poolUse ∧
    (∃ cls, at0.poolFree 0 + x0.poolUse < ({ x0 with qlim := x0.qlim.put cls ⟨4095, 4095⟩ } : Machine.Unit).poolUse) :=
  ⟨by decide, by decide, by decide, by decide, by decide, by decide, rfl, by decide, ⟨1, by decide⟩⟩

theorem table_ok {α : Type} {t : Table α} (h : (match t with
    | .ok _ => true
    | _ => false) = true) : ∃ x, t = .ok x := by cases t with
  | ok x => exact ⟨x, rfl⟩
  | later => cases h
  | bad => cases h

/-- A submission queue in host memory at 0 with one record: its phase table, one phase; where its completion record lies. -/
def submitted (phases comp : Nat) : State :=
  { atN with hubTlb := [⟨0, 4, 1, 0x400033⟩], fsplit := 0, queues := [(0, { size := 4, en := true, tail := 1 })]
             hostMem := ([(8, 8, phases), (16, 8, comp), (24, 8, 1)] : List (Nat × Nat × Nat)).foldl (fun m p => m.writeAll (valueAt p.1 p.2.1 p.2.2)) ([] : Memory) }
/-- The record that is read. -/
def record (s : State) : Nat := s.hostMem.readNat ((s.queue 0).base.toNat + 128 * (s.queue 0).head) 128
theorem witness_JobAcceptance : ((queues true).queue 0).head = ((queues true).queue 0).tail ∧ ((submitted 0x40100 0x40200).queue 0).en = true ∧ ((submitted 0x40100 0x40200).queue 0).head ≠ ((submitted 0x40100 0x40200).queue 0).tail ∧
    (submitted 0x40100 0x40200).fatal = false ∧ recField (record (submitted 0x40100 1)) 128 64 % 32 ≠ 0 ∧ recField (record (submitted 0x40100 0x60000)) 128 64 = 0x60000 ∧
    (submitted 0x40100 0x60000).hubPlace 0x60000 true = .fault .translation ∧ recField (record (submitted 0x40100 0x40200)) 128 64 = 0x40200 ∧
    (submitted 0x40100 0x40200).hubPlace 0x40200 true = .at (.dev 0x400200) false ∧ (∃ ps, (submitted 0x40100 0x40200).readJob (record (submitted 0x40100 0x40200)) = .ok ps) ∧
    (match (submitted 1 0x40200).readJob (record (submitted 1 0x40200)) with
      | .bad => true
      | _ => false) = true := by
  refine ⟨?_, ?_, ?_, ?_, ?_, ?_, ?_, ?_, ?_, table_ok ?_, ?_⟩ <;> decide +kernel

/-- A node: kind, predecessors, address, argument, units, gangs at creation and limit, `span`. -/
def node (kind pred addr arg units gangs span : Nat) : Node :=
  { img := BitVec.ofNat 512 (pred + addr * 2 ^ 128 + arg * 2 ^ 192 + kind * 2 ^ 320 + span * 2 ^ 332 + gangs * 2 ^ 336 + gangs * 2 ^ 344 + units * 2 ^ 384) }
def nodeOver (e : NodeEnd) : Node := { node 3 0 0x40600 0 0 0 0 with started := true, finished := some e }
/-- Job 3 with these nodes. -/
def running (ns : List Node) : State := { atN with hubTlb := [⟨0, 4, 1, 0x400033⟩], jobs := [(3, { q := 0, ring := 0, tag := 0, comp := 0, phases := [[(0x40140, 1)]], nodes := ns })] }
def launchNode : Node := node 0 0 0x40500 0x40540 1 1 1
theorem witness_NodeEvents : (∀ ns, ∃ b, mfind (running ns).jobs 3 = some b ∧ b.nodes = ns ∧ b.finished = false ∧ b.recErr = false ∧ b.prev = none ∧ b.graphCut = false) ∧
    (node 5 0 0 0 0 0 0).bad 0 1 false = true ∧ (node 3 1 0x40600 0 0 0 0).bad 1 2 false = false ∧
    ((nodeOver .failed).finished = some .failed) ∧ (node 3 0 0x40600 0 0 0 0).bad 0 1 false = false ∧
    (launchNode.bad 0 1 false = false ∧ launchNode.kind = 0 ∧ launchNode.field 256 64 = 0 ∧ (∃ kv kte, (running [launchNode]).hubRead launchNode.addr 32 = .val kv ∧ parseKte kv = some kte ∧
        (∃ av, (running [launchNode]).hubRead launchNode.arg 64 = .val av ∧ (running [launchNode]).fsplit.getLsbD 0 = true) ∧ gangsAgree kte 1 1 = true) ∧
      (∃ t, parseTable 0 1 = some t)) ∧
    ((node 1 0 0x40600 0x40700 0 0 0).bad 0 1 false = false ∧ (node 1 0 0x40600 0x40700 0 0 0).kind = 1 ∧ (running []).hubRead 0x40600 32 = .val 0) ∧
    (running []).hubRecord 0x40600 32 = .val 0 ∧ (0 : Nat).testBit 127 = false ∧ (2 ^ 127).testBit 127 = true := by
  refine ⟨fun ns => ⟨_, rfl, rfl, rfl, rfl, rfl, rfl⟩, ?_, ?_, ?_, ?_, ⟨?_, ?_, ?_, ⟨(2 ^ 23 + 2 * 2 ^ 21 + 2 * 2 ^ 19) * 2 ^ 128, { gang := true, sregs := 64, vregs := 128 }, ?_, ?_, ⟨0, ?_, ?_⟩, ?_⟩, ⟨_, rfl⟩⟩, ⟨?_, ?_, ?_⟩, ?_, ?_, ?_⟩ <;> decide +kernel

theorem bind_ok {r : BindRead} (h : (match r with
    | .ok .. => true
    | _ => false) = true) : ∃ b q k a t, r = .ok b q k a t := by
  cases r <;> first | exact ⟨_, _, _, _, _, rfl⟩ | cases h
theorem bind_bad {r : BindRead} (h : (match r with
    | .bad => true
    | _ => false) = true) : r = .bad := by
  cases r <;> first | rfl | cases h
theorem area_ok {r : AreaRead} (h : (match r with
    | .ok .. => true
    | _ => false) = true) : ∃ b q k t v g, r = .ok b q k t v g := by
  cases r <;> first | exact ⟨_, _, _, _, _, _, rfl⟩ | cases h
theorem area_bad {r : AreaRead} {c : Nat} (h : (match r with
    | .bad d => d == c
    | _ => false) = true) : r = .bad c := by
  cases r <;> first | (simp at h; rw [h]) | cases h
theorem place_at {p : EngPlace} (h : (match p with
    | .at .. => true
    | _ => false) = true) : ∃ l pm, p = .at l pm := by
  cases p <;> first | exact ⟨_, _, rfl⟩ | cases h

/-- A unit of job 3 that waits for a place, and the machine with it. -/
def waiting : Pending := launchNode.pending 3 0 0 { gang := true, sregs := 64, vregs := 128 } [] [] false 0
def pending : State := { running [{ launchNode with started := true, live := 1 }] with fsplit := 0, pend := [waiting] }
/-- The bind record at 0x40580 is admitted in the empty core, and not beside a unit that has its sets of the TLB. -/
def admits (s : State) (code : Nat) : Bool := match s.readBind 0x40580 with
  | .ok r q k _ _ => s.admitCode 0 r k q == code
  | _ => false
theorem witness_Dispatches : (running []).fsplit.getLsbD 0 = true ∧ (running []).hasCore 0 = true ∧ at0.slotState 0 ≠ 0 ∧ (running []).slotState 0 = 0 ∧ mfind ({ running [] with binding := [(0, { value := 0x40580 })] } : State).binding 0 = some { value := 0x40580 } ∧ (running []).readBind 1 = .bad ∧
    (∃ b q k a t, (running []).readBind 0x40580 = .ok b q k a t) ∧ admits (running []) 0 = true ∧ (running []).pend = [] ∧ admits { running [] with units := [(1, x0)] } 3 = true ∧
    pending.fsplit.getLsbD 0 = false ∧ pending.pend[0]? = some waiting ∧ waiting.hosted = false ∧ pending.placeable 0 waiting 0 = true ∧ pending.tlbShare 0 (tlbWeight waiting.kte waiting.bind.ngang0) = (0, 64) ∧ pending.outranked waiting = false ∧
    waiting.bind.cohort = false := by
  refine ⟨?_, ?_, ?_, ?_, ?_, bind_bad ?_, bind_ok ?_, ?_, ?_, ?_, ?_, ?_, ?_, ?_, ?_, ?_, ?_⟩ <;> decide +kernel

/-- A unit without scratchpad, its save area at 0x44000; the machine before it is taken off, and after. -/
def xP : Machine.Unit := { x0 with kte := { x0.kte with scratch := 0, cbase := 0 }, bind := { x0.bind with kte := 0x40500, args := 0x40540, mgrant := false, sys := false, tlbsets := 1 } }
def leaving : State := { running [] with units := [(0, { xP with save := some ⟨0x44000, none⟩ })] }
theorem witness_Preemptions : ({ running [] with units := [(0, xP)] } : State).unit? 0 = some xP ∧ xP.cancel = false ∧ xP.ending = none ∧ xP.bind.cohort = false ∧ xP.save = none ∧ xP.lead.trapped = none ∧
    (let x : Machine.Unit := { xP with save := some ⟨0x44000, none⟩ }
     leaving.unit? 0 = some x ∧ leaving.quiet 0 x = true ∧ x.lead.devWait = false ∧ (∀ p ∈ x.gangs, ∀ e ∈ [0, 1, 2, 3], (p.2.entry e).bar ≠ .passed) ∧ leaving.blocksWritten 0 = true ∧
      ∃ l pm, leaving.hubSpan 0x44000 (layoutOf x.kte x.bind x.queueSection.length x.savedGangs.length).size true = .at l pm) := by
  refine ⟨?_, ?_, ?_, ?_, ?_, ?_, ?_, ?_, ?_, ?_, ?_, place_at ?_⟩ <;> decide +kernel
/-- A save area at 0x44000: the bind record of 0x40580 and the header of a unit with no gang alive and nothing queued. -/
def taken : State := { running [] with binding := [(0, { value := 0x44001 })], mem := ([(0x404000, 8, 0x40500), (0x404008, 8, 0x40540), (0x404020, 8, 2 ^ 32 + 2 ^ 24 + 2 ^ 56), (0x404040, 8, 0x1200), (0x40404C, 4, 0x1200), (0x404050, 4, 0x1000)] : List (Nat × Nat × Nat)).foldl (fun m p => m.writeAll (valueAt p.1 p.2.1 p.2.2)) world }
theorem hubRead_4096 {s : State} {va : DWord} (h : ∀ i ∈ List.range 32, ∃ v, s.hubRead (va + BitVec.ofNat 64 (128 * i)) 128 = .val v) : ∃ v, s.hubRead va 4096 = .val v := by
  have : ∀ n, n < 32 → ∃ v, s.hubRead va (128 * n + 128) = .val v := by
    intro n hn
    induction n with
    | zero => simpa using h 0 (by decide)
    | succ n ih =>
      obtain ⟨a, ha⟩ := ih (by omega)
      obtain ⟨b, hb⟩ := h (n + 1) (by simp; omega)
      exact State.hubRead_val ha (m := 128) hb
  exact this 31 (by decide)
theorem taken_read : ∃ v, taken.hubRead 0x44000 0x1000 = .val v := hubRead_4096 (by
  have : ∀ i ∈ List.range 32, (match taken.hubRead (0x44000 + BitVec.ofNat 64 (128 * i)) 128 with
    | .val _ => true
    | _ => false) = true := by decide +kernel
  intro i hi
  have := this i hi
  split at this
  · exact ⟨_, ‹_›⟩
  · cases this)
theorem taken_area : ∃ b q k t v g, taken.readArea 0x44001 false = .ok b q k t v g := by
  have h : (match taken.readBind 0x44000, taken.hubRead 0x44040 64 with
    | .ok b _ k _ _, .val h => headerOk b k h && !b.cohort && recField h 128 32 == 0x1000 && recField h 0 32 == recField h 96 32
    | _, _ => false) = true := by decide +kernel
  split at h
  · rename_i hb hh
    obtain ⟨v, hv⟩ := taken_read
    simp only [Bool.and_eq_true, Bool.not_eq_true', beq_iff_eq] at h
    obtain ⟨⟨⟨h1, h2⟩, h3⟩, h4⟩ := h
    have e1 : (0x44001 : DWord) &&& ~~~(0xFFF#64) = 0x44000 := by decide
    have e2 : (0x44000 : DWord) + 0x40 = 0x44040 := by decide
    have e3 : (0x44001 : DWord).toNat % 4096 = 1 := by decide
    have e5 : taken.knownArea 0x44000 = false := rfl
    have e4 : ∀ va : DWord, taken.hubRead va 0 = .val 0 := fun _ => rfl
    unfold State.readArea
    simp only [e1, e5, hb, e2, hh, h1, h2, h3, h4, e3, hv, e4, engJoin, Nat.sub_self]
    exact ⟨_, _, _, _, _, _, rfl⟩
  · cases h
theorem taken_checks : ∃ b q k t v g, taken.restoreChecks 0 0x44001 false = .ok b q k t v g := by
  have h : (match taken.readBind 0x44000 with
    | .ok b q k _ _ => taken.admitCode 0 b k q == 0
    | _ => false) = true := by decide +kernel
  have e : (0x44001 : DWord) &&& ~~~(0xFFF#64) = 0x44000 := by decide
  have e5 : taken.knownArea 0x44000 = false := rfl
  split at h
  · rename_i hb
    simp only [State.restoreChecks, e, e5, hb, beq_iff_eq.mp h, if_pos]
    exact taken_area
  · cases h
theorem witness_Restore : (0x44001 : DWord).getLsbD 0 = true ∧ mfind (running []).binding 0 = none ∧ (running []).hasCore 0 = true ∧ (running []).inSpan 0 0x44000 = true ∧ (running []).cohortSaved 0x44000 = true ∧
    (running []).placing = false ∧ (running []).slotState 0 = 0 ∧ mfind leaving.binding 0 = none ∧ leaving.slotState 0 ≠ 0 ∧ leaving.cohortSaved 0x44000 = true ∧ leaving.placing = false ∧
    (∃ w, mfind taken.binding 0 = some w ∧ w.value = 0x44001 ∧ w.miryen = false) ∧ (∀ p ∈ taken.saved, p.area = 0x44000 → p.trap = false) ∧ (∃ b q k t v g, taken.restoreChecks 0 0x44001 false = .ok b q k t v g) ∧
    (running []).restoreChecks 0 0x44001 false = .bad 2 := by
  refine ⟨?_, ?_, ?_, ?_, ?_, ?_, ?_, ?_, ?_, ?_, ?_, ⟨_, rfl, rfl, rfl⟩, ?_, taken_checks, area_bad ?_⟩ <;> decide +kernel

/-- Gang 0 with split 0 demoted for 4,096 cycles; ended; waiting at the gang barrier, at the unit barrier. -/
def demoted : Gang := { gang0 with split := [(0, { mask := 3, state := .demoted, dpos := 2, idle := 4096 })] }
def atBar (b : Barrier) : Gang := { gang0 with split := [(0, { mask := 3, ip := 10, state := .waiting, bar := b })] }
/-- A unit that has ended but for its release. -/
def xDone : Machine.Unit := { x0 with gangs := [], lead := { state := .stopped } }
/-- Entries 0 and 1 at word 0 of one packet, 2 elsewhere; two spill elements. -/
def twins : Gang := { gang0 with split := [(0, { mask := 1, ip := 10, state := .demoted, dpos := 2 }), (1, { mask := 2, ip := 10, state := .ready }), (2, { mask := 4, ip := 12, state := .ready })], spill := [⟨8, 14, 0, 0⟩, ⟨16, 15, 0, 0⟩] }
def atTwins : State := { base twins with agenda := [.endCycle 0] }
theorem witness_SplitTables : (twins.entry 0).mask ≠ 0 ∧ (twins.entry 1).mask ≠ 0 ∧ (twins.entry 0).ip = (twins.entry 1).ip ∧ (twins.entry 0).wd = 0 ∧ (twins.entry 1).wd = 0 ∧ (twins.merges.entry 0).ip ≠ (twins.merges.entry 2).ip ∧
    (twins.merges.entry 2).mask ≠ 0 ∧ twins.merges.spill = [⟨8, 14, 0, 0⟩, ⟨16, 15, 0, 0⟩] ∧ twins.merges.freeEntries = [1, 3] ∧ gang0.spill = [] ∧ atTwins.agenda = [.endCycle 0] ∧ (atTwins.units.map (·.1)).Nodup ∧
    ∃ x, atTwins.unit? 0 = some x ∧ mfind x.gangs 0 = some twins := by
  refine ⟨?_, ?_, ?_, ?_, ?_, ?_, ?_, ?_, ?_, ?_, rfl, ?_, ⟨_, rfl, rfl⟩⟩ <;> decide
/-- R23, R25: the two merge into entry 0, which is ready, and the spill elements are popped into entries 1 and 3. -/
theorem test_end_cycle : afterS (step atTwins) (fun t => (t.gang? 0 0).map fun g => [0, 1, 2, 3].map fun e => ((g.entry e).mask, (g.entry e).ip)) = some (some [(3, 10), (8, 14), (4, 12), (16, 15)]) := by decide
theorem witness_GangEvents : (demoted.entry 0).issuable = true ∧ (demoted.entry 0).raised = false ∧ 4096 ≤ (demoted.entry 0).idle ∧
    ({ gang0 with ended := true } : Gang).ops = [] ∧ (atBar (.gang 10 1 false)).arrived false = true ∧
    (∃ p ∈ (unitOf (atBar (.unit 10 1 false))).gangs, p.2.ended = false) ∧ (∀ p ∈ (unitOf (atBar (.unit 10 1 false))).gangs, p.2.ended = true ∨ p.2.arrived true = true) ∧
    xDone.lead.state = .stopped ∧ xDone.ngang = 0 ∧ xDone.cmds = [] ∧ xDone.lead.trapped = none ∧ ({ at0 with units := [(0, xDone)] } : State).quiet 0 xDone = true ∧
    ({ at0 with units := [(0, xDone)] } : State).blocksWritten 0 = true ∧ ({ dirtied with units := [(0, xDone)] } : State).quiet 0 xDone = true ∧ ({ dirtied with units := [(0, xDone)] } : State).blocksWritten 0 = false := by
  refine ⟨?_, ?_, ?_, ?_, ?_, ?_, ?_, ?_, ?_, ?_, ?_, ?_, ?_, ?_, ?_⟩ <;> decide

/-- A load, a poll or a scalar load of lane 0 outstanding, its data in L1 and in the layer cache; the same sector poisoned. -/
def acc0 : Acc := { lane := 0, loc := .dev 0x400008, size := 4, addr := 0x40008 }
def opOf (k : OpKind) : Op := { id := 3, cls := .vm, kind := k, mask := 3, accs := [acc0] }
def op0 : Op := opOf (.load 5 2)
def heldOf (k : OpKind) : State := { base { gang0 with ops := [opOf k] } with cores := [(0, { l1 := [(2 * sectorOf 0x400008, 7)] })], layers := [(0, { copies := [(sectorOf 0x400008, 7)] })] }
def held0 : State := heldOf (.load 5 2)
theorem witness_SectorReads : held0.pasts ⟨0, 0, 3, none⟩ 0 (32 * sectorOf 0x400008) 32 = [] ∧ (Loc.dev (32 * sectorOf 0x400008)).cell = some (0, 32 * sectorOf 0x400008) := ⟨rfl, rfl⟩
theorem witness_DeviceReads : acc0.loc = .dev 0x400008 ∧ mfind (held0.core 0).l1 (2 * sectorOf 0x400008) = some 7 ∧ mfind (at0.core 0).l1 (2 * sectorOf 0x400008) = none ∧ held0.owned 0x400008 = true ∧
    mfind (held0.layer (layerOf 0)).copies (sectorOf 0x400008) = some 7 ∧ (held0.layer (layerOf 0)).out = [] ∧ held0.poisoned 0x400008 = false ∧ ({ held0 with poison := [sectorOf 0x400008] } : State).poisoned 0x400008 = true ∧
    held0.owned (2 ^ 45 - 8) = false ∧ held0.held (sectorOf (2 ^ 45 - 8)) = false := by
  refine ⟨rfl, ?_, ?_, ?_, ?_, ?_, ?_, ?_, ?_, ?_⟩ <;> decide
/-- What a read of the three kinds of operation answers: a value from L1 for a hit; a poll with `hit` waits; a read where the layer has no such copy and the sector is held waits; a poisoned sector faults. -/
theorem witness_LoadReturns : (∀ k ∈ [OpKind.load 5 2, .scalar 5 0, .poll 5 [(0, 7)]], ∃ x, (heldOf k).unit? 0 = some x ∧ (x.opsAt 0).find? (fun p => p.id == (opOf k).id) = some (opOf k) ∧ (opOf k).kind.permuteDests = [] ∧
      (opOf k).accs.find? (fun b => b.lane == acc0.lane) = some acc0 ∧ ((opOf k).request acc0).any (fun b => ((heldOf k).core (coreOf 0)).portBusy b || x.olderClash 0 (opOf k) b) = false ∧
      (heldOf k).flitRoom (layerOf (coreOf 0)) acc0.loc = true) ∧ acc0.done = false ∧ ({ acc0 with done := true } : Acc).done = true ∧
    (∃ v t, held0.readAcc 0 0 3 ⟨0, 0, 3⟩ acc0 false true = .value v t) ∧ held0.readAcc 0 0 3 ⟨0, 0, 3⟩ acc0 true true = .later ∧
    ({ held0 with poison := [sectorOf 0x400008] } : State).readAcc 0 0 3 ⟨0, 0, 3⟩ acc0 false false = .fault .poisonedData ∧
    (({ held0 with cores := [(0, { port := [{ id := 2, who := ⟨0, 0, 3⟩, dest := .dev, bytes := [(0x400008, 5)] }] })] } : State).core 0).portBusy acc0 = true := by
  refine ⟨?_, rfl, rfl, ⟨_, _, rfl⟩, rfl, rfl, by decide⟩
  intro k hk
  simp only [List.mem_cons, List.not_mem_nil, or_false] at hk
  obtain rfl | rfl | rfl := hk <;> exact ⟨_, rfl, rfl, by decide, rfl, by decide, by decide⟩
/-- A poll of lanes 0 and 1 that has returned: entry 0 holds its lanes, entry 1 stands at 3. -/
def polled (good : Bool) : Op := { id := 3, cls := .vm, kind := .poll 5 [], mask := 3, accs := [], okLanes := 3, good := good }
def polling : Gang := { gang0 with split := [(0, { mask := 3, ip := 10, state := .ready }), (1, { mask := 4, ip := 12, state := .demoted, dpos := 3 })] }
theorem witness_PollEffects : (∃ d cmp, (polled true).kind = .poll d cmp) ∧ (polling.entry 1).mask &&& (polled true).okLanes = 0 ∧ (polling.entry 0).mask &&& (polled false).okLanes ≠ 0 ∧ (polled true).good = true ∧ (polled false).good = false ∧
    ∀ k, k < 4 → k ≠ 0 → (polling.entry k).mask &&& (polled false).okLanes = 0 := by
  refine ⟨⟨_, _, rfl⟩, by decide, by decide, rfl, rfl, by decide⟩
/-- R189: a poll that met its value in no lane demotes the entry behind the one at 3; one that did makes it ready and first. -/
theorem test_poll_demotes : ((polling.afterPoll (polled false)).entry 0).state = .demoted ∧ ((polling.afterPoll (polled false)).entry 0).dpos = 4 ∧ ((polling.afterPoll (polled true)).entry 0).state = .ready := by decide
/-- An atomic outstanding, at a device and at a host address. -/
def atomOp (l : Loc) : Op := { id := 3, cls := .vm, kind := .atom 5 0 0 [(0, 1)] [], mask := 3, accs := [{ acc0 with loc := l, site := .home }] }
def atomAt (l : Loc) : State := base { gang0 with ops := [atomOp l] }
theorem witness_Atomics : ∀ l ∈ [Loc.dev 0x400010, .host 0x10], ∃ x a, (atomAt l).unit? 0 = some x ∧ (x.opsAt 0).find? (fun p => p.id == (atomOp l).id) = some (atomOp l) ∧ (atomOp l).nextAtom = some a ∧ a.loc = l ∧
    (∀ b ∈ (atomOp l).request a, ((atomAt l).core (coreOf 0)).portBusy b = false ∧ x.olderClash 0 (atomOp l) b = false) ∧ ((atomAt l).core (coreOf 0)).portBusy a = false ∧ x.olderClash 0 (atomOp l) a = false := by
  intro l hl
  simp only [List.mem_cons, List.not_mem_nil, or_false] at hl
  obtain rfl | rfl := hl <;> exact ⟨_, _, rfl, by decide, rfl, rfl, by decide, by decide, by decide⟩
/-- A store at the head of a port, to each destination. -/
def req0 (d : Dest) (a : Nat) : PortReq := { id := 2, who := ⟨0, 0, 3⟩, dest := d, bytes := [(a, 5)] }
def portOf (d : Dest) (a : Nat) : State := { base gang0 with cores := [(0, { port := [req0 d a] })] }
theorem witness_Stores : (∀ d ∈ [Dest.dev, .host, .peer 1], ((portOf d 0x400008).core 0).port[0]? = some (req0 d 0x400008) ∧ (∀ q ∈ ((portOf d 0x400008).core 0).port.take 0, q.dest ≠ d ∨ sharesByte q.bytes (req0 d 0x400008).bytes = false) ∧
      ∃ x, (portOf d 0x400008).unit? 0 = some x ∧ x.passed (req0 d 0x400008) = true) ∧ (req0 .dev 0x400008).bytes = [(0x400008, 5)] ∧ (portOf .dev 0x400008).owned 0x400008 = true ∧
    (portOf .dev (2 ^ 45 - 8)).owned (2 ^ 45 - 8) = false ∧ (portOf .dev (2 ^ 45 - 8)).heldBytes (req0 .dev (2 ^ 45 - 8)).bytes = false ∧ (portOf .dev (2 ^ 44 - 8)).owned (2 ^ 44 - 8) = false ∧ (portOf .dev (2 ^ 44 - 8)).heldBytes (req0 .dev (2 ^ 44 - 8)).bytes = false ∧ (portOf .dev (2 ^ 44 - 8)).canSend (layerOf 0) (2 ^ 44 - 8) = true ∧
    (∃ pa, (portOf .dev pa).owned pa = false ∧ (portOf .dev pa).canSend (layerOf 0) pa = false) := by
  refine ⟨?_, by decide, by decide, by decide, by decide, by decide, by decide, by decide, ⟨2 ^ 46, by decide, by decide⟩⟩
  intro d hd
  simp only [List.mem_cons, List.not_mem_nil, or_false] at hd
  obtain rfl | rfl | rfl := hd <;> exact ⟨rfl, by decide, _, rfl, by decide⟩
/-- A write on its way home, and forwarded writes whose stamp the layer has, or has not, applied. -/
def layered : State := { State.reset with layers := [(0, { out := [{ id := 1, who := ⟨0, 0, 1⟩, bytes := [(0x400008, 5)], stamp := [] }], inq := [{ src := 1, bytes := [(0x400008, 5)], stamp := [(1, 1)] }, { src := 1, bytes := [(0x400048, 5)], stamp := [(1, 2)] }] })], svy := { hbm := 255 } }
theorem witness_HomeAndForward : (∃ w, (layered.layer 0).out[0]? = some w ∧ (∀ q ∈ (layered.layer 0).out.take 0, sharesByte q.bytes w.bytes = false) ∧ layered.heldBytes w.bytes = false) ∧
    (∃ f, (layered.layer 0).inq[0]? = some f ∧ f.bytes = [(0x400008, 5)] ∧ (∀ q ∈ (layered.layer 0).inq.take 0, sharesByte q.bytes f.bytes = false) ∧ clockReady f.src f.stamp (layered.layer 0).clock = true) ∧
    (∃ f, (layered.layer 0).inq[1]? = some f ∧ (∀ q ∈ (layered.layer 0).inq.take 1, sharesByte q.bytes f.bytes = false) ∧ clockReady f.src f.stamp (layered.layer 0).clock = false) :=
  ⟨⟨_, rfl, by decide, by decide⟩, ⟨_, rfl, rfl, by decide, by decide⟩, ⟨_, rfl, by decide, by decide⟩⟩
theorem witness_MemoryEvents : (∀ k, k < [(5 : Byte)].length → at0.owned (0x400008 + k) = true) ∧ at0.heldBytes (bytesAt 0x400008 [5]) = false ∧ at0.mig.busy = false ∧ at0.hub = [] ∧
    (∀ p ∈ ([(5 : Byte)].zipIdx.foldl (fun m p => mput m (0x400008 + p.2) p.1) [] : SMap Byte), at0.owned p.1 = true) ∧ at0.held (sectorOf 0x400008) = false ∧ at0.poisoned 0x400008 = false ∧
    (∃ v, atomicOpValue 0 4 (at0.mem.readNat 0x400008 4) 1 0 = some v) ∧ atomicOpValue 2 4 (at0.mem.readNat 0x400008 4) 1 0 = none := by
  refine ⟨?_, by decide, rfl, rfl, by decide, by decide, by decide, ⟨1, by decide⟩, by decide⟩
  intro k hk
  obtain rfl : k = 0 := by simpa using hk
  decide

/-- A seam array in `world`: record 0 at physical 0x230000 (one dimension, rate 8, four elements, decoded at 0x60000, stored at 0x40800), the block's four storage bytes at 0x400800. -/
def seamWorld (block : Nat) : Memory := [(0x230000, 8, 1 + 8 * 2 ^ 8 + 4 * 2 ^ 32), (0x230008, 8, 1 + 2 ^ 32), (0x230010, 8, 0x40800), (0x230018, 8, 0x60000), (0x400800, 4, block)].foldl (fun m p => m.writeAll (valueAt p.1 p.2.1 p.2.2)) world
def seamRec0 : SeamRec := { d := 1, rate := 8, fin := false, nx := 4, ny := 1, nz := 1, sbase := 0x40800, dbase := 0x60000 }
/-- The array's handle: its index, 0, and the record. -/
def seamH : Nat := 4096 * (1 + 8 * 2 ^ 8 + 4 * 2 ^ 32 + (1 + 2 ^ 32) * 2 ^ 64 + 0x40800 * 2 ^ 128 + 0x60000 * 2 ^ 192)
def stored : SeamStore := { id := 4, who := ⟨0, 0, 1⟩, sidx := seamH, blk := 0, elem := 1, addr := 0x60004, value := 0x40000000 }
/-- Core 0 has a store waiting for block 0 of the array; the block's claim. -/
def seam (block : Nat) (q : Claim) : State :=
  { base gang0 with mem := seamWorld block, ctx := { ptroot := 0x200000, seambase := 0x230000, seamlen := 1 }, cores := [(0, { seamq := [stored], tlb := [⟨0, 4, 1, 0x00400033⟩] })], claims := if q = {} then [] else [(0x400800, q)] }
/-- A near-memory command holds the block's sector. -/
def holding (s : State) : State := { s with hub := [{ id := 9, op := .nmc, owner := .gone, a := 0, b := 0, queued := false, left := [0], req := 0x40800 + 2 ^ 192, tr := [(4, 0x400000)] }] }
def claimed0 : State := seam 0x5755A600 { owner := some 0 }
/-- The block, held claimed. -/
def held1 : Block := { newBlock seamRec0 seamH 0 [0x400800, 0x400801, 0x400802, 0x400803] [0, 0, 0, 0] with claimed := true }
theorem witness_SeamStores : (seam 0 {}).seamHandle 0 = seamH ∧ ((seam 0 {}).core 0).seamq.find? (fun q => q.sidx == seamH && q.blk == 0) = some stored ∧
    (seam 0 {}).blockStorage 0 0 0 true = .fault .seamMalformed ∧ (seam 0 {}).blockStorage 0 seamH 0 true = .at seamRec0 [0x400800, 0x400801, 0x400802, 0x400803] ∧ ((seam 0 {}).claim 0x400800).owner = none ∧
    (∀ sec ∈ sectorsOf [0x400800, 0x400801, 0x400802, 0x400803], (seam 0 {}).held sec = false) ∧ (∃ sec ∈ sectorsOf [0x400800, 0x400801, 0x400802, 0x400803], (holding (seam 0 {})).held sec = true) ∧
    ((seam 0 { owner := some 5 }).claim 0x400800).owner = some 5 ∧ 0 ∉ ((seam 0 { owner := some 5 }).claim 0x400800).queue ∧
    claimed0.readyStores 0 seamH 0 = [stored] ∧ (claimed0.claim 0x400800).owner = some 0 ∧ (claimed0.claim 0x400800).recalling = false ∧ (claimed0.core 0).block seamH 0 = none ∧ (claimed0.core 0).wbs = [] ∧
    (∀ sec ∈ sectorsOf [0x400800, 0x400801, 0x400802, 0x400803], claimed0.held sec = false ∧ clockLe (mget [] claimed0.stamps sec) (claimed0.layer (layerOf 0)).clock = true) ∧ (claimed0.layer (layerOf 0)).out = [] ∧
    decodeBlock 1 8 false (claimed0.storageValue [0x400800, 0x400801, 0x400802, 0x400803]) = some [0x3F900000, 0x3FD00000, 0x40000000, 0x40500000] ∧
    decodeBlock 1 8 false ((seam 3 {}).storageValue [0x400800, 0x400801, 0x400802, 0x400803]) = none ∧ held1.claimed = true ∧ ((claimed0.modCore 0 (·.putBlock held1)).core 0).block seamH 0 = some held1 ∧
    (((claimed0.core 0).dropBlock held1.sidx held1.blk).dressed + 4 * held1.elems.length ≤ Config.dressBytes) := by
  refine ⟨?_, ?_, ?_, ?_, ?_, ?_, ?_, ?_, ?_, ?_, ?_, ?_, ?_, ?_, ?_, ?_, ?_, ?_, ?_, ?_, ?_⟩ <;> decide +kernel
/-- R251: the store is applied to the block decoded afresh: element 1 becomes 2.0, and nothing waits. -/
theorem test_seam_fill : afterS (exec (.seamBlockFill 0 seamH 0) claimed0) (fun t => ((t.core 0).dress.map fun b => (b.elems, b.dirty, b.claimed), (t.core 0).seamq.length)) =
    some ([([0x3F900000, 0x40000000, 0x40000000, 0x40500000], true, true)], 0) := by decide +kernel
/-- A read copy wanted by a load; a recalled block held, and given back; a write-back under way. -/
def wanting : State := base { gang0 with ops := [{ id := 3, cls := .vm, kind := .load 5 1, mask := 1, accs := [{ lane := 0, loc := .seam 0 0 1, size := 4, addr := 0x60004 }] }] }
def recalled (dress : List Block) : State := { base gang0 with cores := [(0, { dress := dress })], claims := [(0x400000, { owner := some 0, recalling := true, queue := [5] })] }
def block0 : Block := { sidx := 0, blk := 0, d := 1, rate := 8, fin := false, pad := [], phys := [0x400000], elems := [], claimed := true, dirty := true }
def backing : State := { base gang0 with cores := [(0, { wbs := [⟨0x400000, [(0x400000, 5)], true, 0, 0, 0, true⟩] })] }
theorem witness_SeamEvents : wanting.readyStores 0 0 0 = [] ∧ (wanting.core 0).block 0 0 = none ∧ wanting.blockWanted 0 0 0 = some 0 ∧ (recalled [block0]).readyStores 0 0 0 = [] ∧ ((recalled [block0]).core 0).block 0 0 = some block0 ∧
    ((recalled [block0]).claim 0x400000).recalling = true ∧ ((recalled [block0]).claim 0x400000).owner = some 0 ∧ (recalled [block0]).holdsClaimed 0 0x400000 = true ∧ (recalled []).holdsClaimed 0 0x400000 = false ∧
    ((recalled []).claim 0x400000).queue = [5] ∧ (({ recalled [] with claims := [(0x400000, { owner := some 0, recalling := true })] } : State).claim 0x400000).queue = [] ∧
    (∃ s : State, (s.claim 0x400000).owner = some 0 ∧ (s.claim 0x400000).recalling = false ∧ s.holdsClaimed 0 0x400000 = false ∧ (s.core 0).seamq = []) ∧
    (∃ w, (backing.core 0).wbs.find? (fun w => w.saddr == 0x400000) = some w ∧ (∀ r ∈ (backing.layer (layerOf 0)).out, sharesByte r.bytes w.bytes = false) ∧ backing.heldBytes w.bytes = false) :=
  ⟨by decide, by decide, by decide, by decide, by decide, by decide, by decide, by decide, by decide, by decide, by decide, ⟨{ base gang0 with claims := [(0x400000, { owner := some 0 })] }, by decide, by decide, by decide, by decide⟩,
    ⟨_, rfl, fun _ h => (List.not_mem_nil h).elim, by decide⟩⟩

/-- A pool of one page: count and array at 0x40900, the array at 0x40920, the page at physical 0x500000. -/
def pooled : State :=
  { running [] with fsplit := 0, ctx := { ptroot := 0x200000, ftpool := 0x40900 }
                    mem := ([(0x400900, 8, 0x40920), (0x400908, 4, 1), (0x400920, 8, 0x500000)] : List (Nat × Nat × Nat)).foldl (fun m p => m.writeAll (valueAt p.1 p.2.1 p.2.2)) world }
theorem pool_at {p : Pool} {a n : Nat} (h : (match p with
    | .at b m => b == a && m == n
    | _ => false) = true) : p = .at a n := by
  cases p <;> first | (simp at h; rw [h.1, h.2]) | cases h
/-- Record 5 asks about the first-touch entry, record 6 about a lead trap; unit 1 is saved for it. -/
def asked : State := { State.reset with fr := { asked := [(5, { what := .touch 0x210028 }), (6, { what := .leadTrap 1 })] }, saved := [{ id := 1, area := 0x44000, u := 0, origin := none, launch := {} }] }
theorem witness_TouchEvents : pooled.inPeerRegion 0x50008 = false ∧ pooled.walk 0x50008 = .touch 0x210028 ∧ (2 : BitVec 6).getLsbD 1 = true ∧ pooled.fsplit.getLsbD 1 = false ∧ (running []).ctx.ftpool = 0 ∧
    pooled.pool = .at 0x40920 1 ∧ pooled.hubRead (BitVec.ofNat 64 (0x40920 + 8 * (1 - 1))) 8 = .val 0x500000 ∧ 0x500000 % 65536 = 0 ∧ pooled.backed 0x500000 = true ∧ pooled.held (sectorOf 0x210028) = false ∧ pooled.fr.pending (.touch 0x210028) = false ∧ asked.fr.pending (.touch 0x210028) = true ∧
    pooled.walk 0x70000 = .invalid ∧ asked.fr.answered 4 = none ∧ asked.fr.answered 5 = some { what := .touch 0x210028 } ∧ asked.fr.answered 6 = some { what := .leadTrap 1 } ∧
    (asked.saved.find? (fun v => v.id == 1)).isSome = true := by
  refine ⟨?_, ?_, ?_, ?_, ?_, pool_at ?_, ?_, ?_, ?_, ?_, ?_, ?_, ?_, ?_, ?_, ?_, ?_⟩ <;> decide +kernel

/-- A unit with one engine command: of a copy, slots 0 and 1 hold its source and destination records. -/
def copyRec (space base : Nat) : BitVec 512 := BitVec.ofNat 512 (base + 2 * 2 ^ 64 + 2 ^ 67 + space * 2 ^ 74 + 2 ^ 77)
def xCmd (c : Cmd) : Machine.Unit := { x0 with cmds := [c] }
def atCmd (c : Cmd) : State := { running [] with units := [(0, xCmd c)] }
def cmd0 (op : CmdOp) (st : CmdState) : Cmd := { id := 9, op := op, state := st }
def copy0 (space base : Nat) : Cmd := { cmd0 .tcopy .started with recs := [copyRec space base, copyRec 1 64] }
theorem moved_ok {m : Moved} (h : (match m with
    | .ok _ => true
    | _ => false) = true) : ∃ ws, m = .ok ws := by
  cases m <;> first | exact ⟨_, rfl⟩ | cases h
theorem moved_later {m : Moved} (h : (match m with
    | .later => true
    | _ => false) = true) : m = .later := by
  cases m <;> first | rfl | cases h
theorem witness_TileAndStream : (∀ op ∈ [CmdOp.mswap, .mdrain 0, .mldw, .mma 0, .tcopy, .strm], (atCmd (cmd0 op .queued)).unit? 0 = some (xCmd (cmd0 op .queued)) ∧ (xCmd (cmd0 op .queued)).cmd? 9 = some (cmd0 op .queued) ∧
      (xCmd (cmd0 op .queued)).starts = true ∧ (xCmd (cmd0 op .queued)).earlier 9 = []) ∧
    (let c := copy0 1 0
     (xCmd c).copying c = true ∧ c.heads 0 = true ∧ 0 ∉ c.progress ∧ 0 ∉ c.sub ∧ c.inOrder (c.run 64 0) = true ∧ (∃ ws, (atCmd c).moveElems 0 (xCmd c) c (c.run 64 0) = .ok ws) ∧
      (match (atCmd c).moveElems 0 (xCmd c) c (c.run 64 0) with
        | .ok ws => (atCmd c).engReady 0 ws
        | _ => false) = true ∧ (atCmd (copy0 0 0x50000)).moveElems 0 (xCmd (copy0 0 0x50000)) (copy0 0 0x50000) [0] = .later) ∧
    (let c : Cmd := { copy0 1 0 with progress := [0] }
     c.state = .started ∧ c.bad = false ∧ (match (atCmd c).runCmd 0 (xCmd c) c with
      | .ok t => t.engSettled 0 9
      | _ => false) = true) ∧
    (let c := copy0 0 0x70000
     c.op.engine = .tile ∧ (xCmd c).matrixSettled 9 = true ∧ (match (atCmd c).runCmd 0 (xCmd c) c with
      | .fault .. => true
      | _ => false) = true) := by
  refine ⟨?_, ⟨?_, ?_, ?_, ?_, ?_, moved_ok ?_, ?_, moved_later ?_⟩, ⟨?_, ?_, ?_⟩, ?_, ?_, ?_⟩ <;> decide +kernel

/-- A near or deep command of node 0 of job 3: its record at 0x40600, its completion record at 0x40700. -/
def hubCmd (op : CmdOp) (q : Bool) : HubCmd := { id := 9, op := op, owner := .node 3 0, a := 0x40600, b := 0x40700, queued := q }
def hubAt (h : HubCmd) (v : Nat) : State :=
  { running [] with hub := [h], ctx := { ptroot := 0x200000, dfirst := 10, dcount := 100 }, mem := world.writeAll (valueAt 0x400600 32 v) }
/-- What makes a command's head read as `v`: the request as it stands, with nothing remembered of what it was. -/
def headAs (s : State) (h : HubCmd) (l : Loc) (v : Nat) : Bool := match s.hubPlace h.b true with
  | .at m _ => m == l && s.crecFree h m && match s.hubPlace h.a false with
    | .at (.dev pa) _ => s.hubSettled h [sectorOf pa] && match s.hubRead h.a 32 with
      | .val w => leValue ((List.range 4).flatMap fun k => leBytes 8 (w / 2 ^ (64 * k) % 2 ^ 64)) == v
      | _ => false
    | _ => false
  | _ => false
theorem head_as {s : State} {h : HubCmd} {l : Loc} {v : Nat} (hp : s.past = []) (e : headAs s h l v = true) : s.hubHead h = .ok l v := by
  unfold headAs at e
  unfold State.hubHead
  split at e
  case h_2 => cases e
  rename_i m pm hb
  simp only [Bool.and_eq_true, beq_iff_eq] at e
  obtain ⟨⟨rfl, hf⟩, e⟩ := e
  rw [hb]
  split at e
  case h_2 => cases e
  rename_i pa pm' ha
  rw [Bool.and_eq_true] at e
  obtain ⟨hs, e⟩ := e
  split at e
  case h_2 => cases e
  rename_i w hr
  simpa [hf, ha, hs, hr, State.hubRequest_nil hp] using beq_iff_eq.1 e
theorem range_status {r : RangeXlate} (h : (match r with
    | .status _ => true
    | _ => false) = true) : ∃ st, r = .status st := by
  cases r <;> first | exact ⟨_, rfl⟩ | cases h
theorem range_ok {r : RangeXlate} (h : (match r with
    | .ok _ => true
    | _ => false) = true) : ∃ tr, r = .ok tr := by
  cases r <;> first | exact ⟨_, rfl⟩ | cases h
/-- SCALE_ADD of one sector; kind 3, which is in error. -/
def nmcRec : Nat := 0x41000 + 0x42000 * 2 ^ 64 + 0x3F800000 * 2 ^ 128 + 0x3F800000 * 2 ^ 160 + 2 ^ 192
theorem witness_NearEvents : (let h := hubCmd .nmc true
     h.fin = none ∧ (hubAt h nmcRec).hubQueued 9 = some h ∧ (hubAt h nmcRec).hubHead h = .ok (.dev 0x400700) nmcRec ∧ nmcErr nmcRec = false ∧ (∃ tr, (hubAt h nmcRec).nmcXlate nmcRec = .ok tr) ∧
      (∀ tr, (hubAt h nmcRec).linesWritten tr (nmcRanges nmcRec) = true) ∧ (hubAt h (nmcRec + 3 * 2 ^ 224)).hubHead h = .ok (.dev 0x400700) (nmcRec + 3 * 2 ^ 224) ∧ nmcErr (nmcRec + 3 * 2 ^ 224) = true ∧
      (hubAt h (nmcRec + 0x30000)).hubHead h = .ok (.dev 0x400700) (nmcRec + 0x30000) ∧ nmcErr (nmcRec + 0x30000) = false ∧ (∃ st, (hubAt h (nmcRec + 0x30000)).nmcXlate (nmcRec + 0x30000) = .status st)) ∧
    (∀ left ∈ [[0], [0, 1]], let h : HubCmd := { hubCmd .nmc false with left := left, req := nmcRec, tr := [(4, 0x400000)], crec := .dev 0x400700 }
      (hubAt h 0).hub? 9 = some h ∧ 0 ∈ h.left ∧ (∀ g ∈ (hubAt h 0).hub, ¬(g.id < 9)) ∧ ((hubAt h 0).putHub { h with left := h.left.filter (· != 0) }).hubFree h.crec = true) ∧
    (let h : HubCmd := { hubCmd .nmc false with left := [0], req := nmcRec, tr := [(4, 0x400000)], crec := .dev 0x400700 }
     let r : HubCmd := { hubCmd .nmc false with id := 11, left := [0], req := nmcRec - 0x41000 + 0x40700, tr := [(4, 0x400000)] }
     (({ hubAt h 0 with hub := [h, r] } : State).putHub { h with left := [] }).hubFree h.crec = false) := by
  refine ⟨⟨?_, ?_, head_as rfl ?_, ?_, range_ok ?_, fun _ => rfl, head_as rfl ?_, ?_, head_as rfl ?_, ?_, range_status ?_⟩, ?_, ?_⟩ <;> decide +kernel
/-- A read of page 10 to 0x48000, an append of the page there. -/
def readRec : Nat := 0x48000 + 10 * 2 ^ 64 + 2 ^ 144
def appendRec : Nat := 0x48000 + 2 ^ 144
theorem witness_DeepEvents : (let h := hubCmd .dread true
     let s := hubAt h readRec
     h.fin = none ∧ s.hubQueued 9 = some h ∧ s.hubHead h = .ok (.dev 0x400700) readRec ∧ s.deepTurn h = true ∧ s.deepErr false readRec = false ∧ s.deepRange 10 1 = true ∧ deepRep readRec = false ∧ (∃ tr, s.deepXlate h readRec true = .ok tr) ∧
      s.deepStopped h = false ∧ s.deepErr false 0 = true ∧ (hubAt h 0).hubHead h = .ok (.dev 0x400700) 0 ∧
      (let v := readRec + 200 * 2 ^ 64
       (hubAt h v).hubHead h = .ok (.dev 0x400700) v ∧ s.deepErr false v = false ∧ s.deepRange (deepPage v) (deepCount v) = false)) ∧
    (let h := hubCmd .dappend true
     let s := hubAt h appendRec
     s.hubHead h = .ok (.dev 0x400700) appendRec ∧ s.deepErr true appendRec = false ∧ (∃ tr, s.deepXlate h appendRec false = .ok tr) ∧ s.assign 1 false = some (10, 0, 11) ∧ ({ s with dlog := { phys := 0 } } : State).assign 1 false = none) ∧
    (let h : HubCmd := { hubCmd .dread false with left := [0, 1], req := readRec, crec := .dev 0x400700 }
     (hubAt h 0).hub? 9 = some h ∧ (∀ p ∈ h.pageSectors 0, (hubAt h 0).held (sectorOf p.1) = false) ∧ mget 0 h.tries 0 = 0 ∧ ({ hubAt h 0 with flash := [(10, {})] } : State).flashFetch readRec 10 false = none ∧
      h.left.filter (· != 0) ≠ [] ∧ ({ h with left := [0], tries := [(0, 1)] } : HubCmd).left.filter (· != 0) = [] ∧ ¬ mget 0 [(0, 1)] 0 + 1 < (if deepRep readRec then 3 else 2) ∧ (hubAt h 0).hubFree h.crec = true) ∧
    State.reset.dlog.phys ≤ 5 + State.reset.dlog.phys - 5 ∧ State.reset.dlog.phys + ((State.reset.flash.filter fun p => !p.2.blank).length + State.reset.appending) ≤ Config.flashPages ∧ State.reset.dlog.busy = false ∧
    Config.compactBelow ≤ ({ State.reset with dlog := { phys := Config.compactBelow } } : State).dlog.phys ∧ State.reset.fsplit.getLsbD 4 = false := by
  refine ⟨⟨?_, ?_, head_as rfl ?_, ?_, ?_, ?_, ?_, range_ok ?_, ?_, ?_, head_as rfl ?_, head_as rfl ?_, ?_, ?_⟩, ⟨head_as rfl ?_, ?_, range_ok ?_, ?_, ?_⟩, ⟨?_, ?_, ?_, ?_, ?_, ?_, ?_, ?_⟩, ?_, ?_, ?_, Nat.le_refl _, ?_⟩ <;> decide +kernel
/-- A channel that is stopped (R220); a source page with poison; one with no place yet. -/
theorem engine_fault {r : EngRead} (h : (match r with
    | .fault _ => true
    | _ => false) = true) : ∃ c, r = .fault c := by
  cases r <;> first | exact ⟨_, rfl⟩ | cases h
theorem engine_later {r : EngRead} (h : (match r with
    | .later => true
    | _ => false) = true) : r = .later := by
  cases r <;> first | rfl | cases h
theorem witness_DeepStops : (let h : HubCmd := { hubCmd .dread true with owner := .unit 0, c := 66 }
     ({ hubAt h readRec with units := [(0, { x0 with chans := [(2, { stopped := true })] })] } : State).deepStopped h = true) ∧
    (∃ c, let h : HubCmd := { hubCmd .dappend false with left := [0], req := 2 ^ 144, tr := [(0, 0x400000)] }
     ({ hubAt h 0 with poison := [sectorOf 0x400000] } : State).sourcePage h 0 = .fault c) ∧
    (let h : HubCmd := { hubCmd .dappend false with left := [0], req := appendRec }
     (hubAt h 0).sourcePage h 0 = .later) := by
  refine ⟨?_, engine_fault ?_, engine_later ?_⟩ <;> decide +kernel
theorem witness_DeepFetch (s : State) (h : s.flash = []) : s.flashFetch readRec 10 true = some (List.replicate 4096 0) := by
  unfold State.flashFetch
  rw [h]
  rfl
/-- An append from the scratchpad of unit 0, one page or two left; the page that is next is free (assumption 29). -/
def appending (left : List Nat) : HubCmd := { hubCmd .dappend false with owner := .unit 0, left := left, req := 2 ^ 160 + 2 * 2 ^ 144, first := 10, crec := .dev 0x400700 }
def atAppend (left : List Nat) : State := { at0 with hub := [appending left] }
theorem witness_DeepAppend : ∀ left ∈ [[0], [0, 1]], (atAppend left).hub? 9 = some (appending left) ∧ ∃ page v, (appending left).left[Config.appendOrder 9 (appending left).left.length % (appending left).left.length]? = some page ∧
    (atAppend left).sourcePage (appending left) page = .val v ∧ (atAppend left).hubFree (appending left).crec = true := by
  intro left hl
  have hr : ∀ page, ∃ v, (atAppend left).sourcePage (appending left) page = .val v := fun page => by
    have hp : ∀ off, (atAppend left).spadPoisoned (coreOf 0) off 4096 = false := fun off => by
      unfold State.spadPoisoned
      exact List.any_eq_false.2 fun k _ => by simp [atAppend, at0, base, coreOf, State.core, mget, mfind]
    have hd : deepSpad (2 ^ 160 + 2 * 2 ^ 144) = true := by decide +kernel
    unfold State.sourcePage
    rw [if_pos (show deepSpad (appending left).req = true from hd)]
    show ∃ v, (if (atAppend left).spadPoisoned (coreOf 0) (0 + deepMem (appending left).req + 4096 * page) 4096 then EngRead.fault .poisonedData else EngRead.val _) = .val v
    rw [hp]
    exact ⟨_, rfl⟩
  simp only [List.mem_cons, List.not_mem_nil, or_false] at hl
  obtain rfl | rfl := hl
  · exact ⟨by decide, 0, _, by simp [appending, Nat.mod_one], (hr 0).choose_spec, by decide⟩
  · have h2 := Nat.mod_lt (Config.appendOrder 9 2) (show 2 > 0 by decide)
    refine ⟨by decide, Config.appendOrder 9 2 % 2, _, ?_, (hr _).choose_spec, by decide⟩
    show ([0, 1] : List Nat)[Config.appendOrder 9 2 % 2]? = _
    generalize Config.appendOrder 9 2 % 2 = k at h2
    match k, h2 with
    | 0, _ => rfl
    | 1, _ => rfl

theorem witness_Reboots : Instr.packageReset ∈ [Instr.packageReset, .carrierPowerLoss] := .head _
/-- Where link `k` joins two dies (the device's links are free, assumption 20): survey running with the link in training, and done with it. -/
theorem witness_SurveyEvents (k : Nat) (e : Nat × Nat) (h : linkEnds k = some e) :
    (State.reset.svy.running = true ∧ linkEnds k = some e ∧ State.reset.svy.link k = .training) ∧ ((29 : Nat) ≠ 5 ∧ ((5, 6) : Nat × Nat) ∉ State.reset.svy.got) ∧
    (({ done := true } : Survey).done = true ∧ ({ done := true } : Survey).link k ≠ .left) ∧ (State.reset.svy.image = .loaded) ∧ (({ oio := 15 } : Survey).oio.getLsbD (5 / 6) = true ∧ (State.reset.port? 5).retired.length ≤ 32) :=
  ⟨⟨by decide, h, by rfl⟩, ⟨by decide, by decide⟩, ⟨rfl, by simp [Survey.link, mget, mfind]⟩, rfl, by decide, by decide⟩
/-- A Vexlis port that is up, 15 replay requests sent. -/
def ported (p : Vport) : State := { State.reset with vxl := [(3, p)], pkgs := 4 }
def upPort : Vport := { state := .up, key0 := true, rx0 := true }
theorem witness_PortEvents : ((ported upPort).port? 3).live = true ∧ ((ported upPort).port? 3).rxKey false = true ∧ (0 : BitVec 12).toNat = ((ported upPort).port? 3).rxSeq ∧ ((ported upPort).port? 3).rxKey true = false ∧
    ((ported upPort).port? 3).asked < 15 ∧ 15 ≤ ((ported { upPort with asked := 15 }).port? 3).asked ∧ ((ported upPort).port? 3).state = .up ∧ ((ported upPort).port? 3).key (!((ported upPort).port? 3).ph) = false ∧
    5 ∉ ((ported upPort).port? 3).retired ∧ ((ported upPort).port? 3).retired.length < 32 ∧ 32 ≤ ((ported { upPort with retired := List.range 32 }).port? 3).retired.length ∧ 40 ∉ ((ported { upPort with retired := List.range 32 }).port? 3).retired ∧
    2 ≠ Config.package ∧ 2 < (ported upPort).pkgs ∧ 2 ∉ (ported upPort).left := by decide
/-- A migration under way, with no line moved, and with every line moved; a pseudo-channel in each state; powers on each side of the cap. -/
def migrating (n : Nat) : State := { atN with mig := { busy := true, va := 0x40000, bytes := 128 * n, src := 0x400000, dst := 2 ^ 40, entry := 0x210020, moved := List.range n } }
def channel (k : Nat) : State := { State.reset with pch := if k = 0 then [] else [(0, { state := k })] }
theorem witness_ServiceEvents : (let s : State := { migrating 512 with mig := { (migrating 512).mig with moved := [] } }
     s.mig.busy = true ∧ s.mig.flush = false ∧ s.hubTouches s.mig.src s.mig.bytes = false ∧ s.mig.moved.length * 128 ≠ s.mig.bytes ∧ 5 ∉ s.mig.moved ∧ 128 * 5 < s.mig.bytes) ∧
    ((migrating 4).mig.moved.length * 128 = (migrating 4).mig.bytes ∧ (migrating 4).xlt.busy = false) ∧
    (∀ k ∈ [0, 1, 2, 3], (mget {} (channel k).pch 0).state = k ∧ (mget {} (channel k).pch 0).cfg.pden = true ∧ (mget {} (channel k).pch 0).cfg.sren = true ∧ (mget {} (channel k).pch 0).cfg.pdidle ≠ 0) ∧
    (State.reset.pwr.cap < 3601 ∧ 8 < State.reset.pwr.step) ∧ (3000 + 150 ≤ State.reset.pwr.cap ∧ 16 < 17) ∧ (3500 ≤ State.reset.pwr.cap ∧ State.reset.pwr.cap < 3500 + 150 ∧ State.reset.pwr.fmin ≤ State.reset.pwr.step) ∧
    ({ step := 8 } : Power).step = 8 := by decide

/-! ### Witnesses: chains, and what the earlier ones leave -/

/-- Two words of a chain placed where the first step fetches, and the state in which they are checked. -/
def chained (a b : Instr) : State := State.reset.place (bytesOfWord ((encodeWord true a).getD 0) ++ bytesOfWord ((encodeWord false b).getD 0) ++ List.replicate 4 0) (placeStream (some a))
def chainOf (a b : Instr) : List (Nat × Word × Instr) := [(0, (encodeWord true a).getD 0, a), (1, (encodeWord false b).getD 0, b)]
def chainAhead (s : State) (k : Nat) : State :=
  let t := ({ s with agenda := [] } : State).seat (.split 0 0 0)
  let q := t.laneTlbFill 0 [wordAddr t.codeBase t.cur.ip 0, wordAddr t.codeBase t.cur.ip k]
  let next := q.placeAfter 0 t.codeBase q.cur.ip k
  { q with cur := { q.cur with nip := next.1, nwd := next.2, chained := true } }
def seated (s : State) : State := ({ s with agenda := [] } : State).seat (.split 0 0 0)
def aVerdicts (a b : Instr) : List Verdict := [a, b].map fun i => outcomeVerdict (exec i (chainAhead (chained a b) 1))
def aWords (a b : Instr) : List ChainWord := (chainOf a b).map fun p => (p.2.1, .ok p.2.2)
theorem witness_StepRunsChain :
    ((chained (.vaddF32 4 4 3) (.add 3 1 2)).agenda = [.issue (.split 0 0 0)] ∧ (chained (.vaddF32 4 4 3) (.add 3 1 2)).issues (.split 0 0 0) = true ∧ (seated (chained (.vaddF32 4 4 3) (.add 3 1 2))).chainAt 0 (seated (chained (.vaddF32 4 4 3) (.add 3 1 2))).codeBase (seated (chained (.vaddF32 4 4 3) (.add 3 1 2))).cur.ip 3 (seated (chained (.vaddF32 4 4 3) (.add 3 1 2))).cur.wd = (chainOf (.vaddF32 4 4 3) (.add 3 1 2)).map (fun p => (p.1, .word p.2.1)) ∧
      decodeWord ((encodeWord true (.vaddF32 4 4 3)).getD 0) = .ok (.vaddF32 4 4 3) ∧ decodeWord ((encodeWord false (.add 3 1 2)).getD 0) = .ok (.add 3 1 2) ∧ (chainAhead (chained (.vaddF32 4 4 3) (.add 3 1 2)) 1).lateHere = none ∧ chainLegal false ((chainOf (.vaddF32 4 4 3) (.add 3 1 2)).map (·.2.1)) = true ∧ (∀ v ∈ aVerdicts (.vaddF32 4 4 3) (.add 3 1 2), v = .ok) ∧
      (chainAhead (chained (.vaddF32 4 4 3) (.add 3 1 2)) 1).pairFull (aWords (.vaddF32 4 4 3) (.add 3 1 2)) = false) ∧
    ((chained (.add 3 1 2) (.add 3 1 2)).agenda = [.issue (.split 0 0 0)] ∧ (chained (.add 3 1 2) (.add 3 1 2)).issues (.split 0 0 0) = true ∧ (seated (chained (.add 3 1 2) (.add 3 1 2))).chainAt 0 (seated (chained (.add 3 1 2) (.add 3 1 2))).codeBase (seated (chained (.add 3 1 2) (.add 3 1 2))).cur.ip 3 (seated (chained (.add 3 1 2) (.add 3 1 2))).cur.wd = (chainOf (.add 3 1 2) (.add 3 1 2)).map (fun p => (p.1, .word p.2.1)) ∧
      decodeWord ((encodeWord true (.add 3 1 2)).getD 0) = .ok (.add 3 1 2) ∧ decodeWord ((encodeWord false (.add 3 1 2)).getD 0) = .ok (.add 3 1 2) ∧ (chainAhead (chained (.add 3 1 2) (.add 3 1 2)) 1).lateHere = none ∧ chainLegal false ((chainOf (.add 3 1 2) (.add 3 1 2)).map (·.2.1)) = false) ∧
    ((chained (.vaddF32 4 4 3) (.sldN32 3 1 3)).agenda = [.issue (.split 0 0 0)] ∧ (chained (.vaddF32 4 4 3) (.sldN32 3 1 3)).issues (.split 0 0 0) = true ∧ (seated (chained (.vaddF32 4 4 3) (.sldN32 3 1 3))).chainAt 0 (seated (chained (.vaddF32 4 4 3) (.sldN32 3 1 3))).codeBase (seated (chained (.vaddF32 4 4 3) (.sldN32 3 1 3))).cur.ip 3 (seated (chained (.vaddF32 4 4 3) (.sldN32 3 1 3))).cur.wd = (chainOf (.vaddF32 4 4 3) (.sldN32 3 1 3)).map (fun p => (p.1, .word p.2.1)) ∧
      decodeWord ((encodeWord true (.vaddF32 4 4 3)).getD 0) = .ok (.vaddF32 4 4 3) ∧ decodeWord ((encodeWord false (.sldN32 3 1 3)).getD 0) = .ok (.sldN32 3 1 3) ∧ (chainAhead (chained (.vaddF32 4 4 3) (.sldN32 3 1 3)) 1).lateHere = none ∧ chainLegal false ((chainOf (.vaddF32 4 4 3) (.sldN32 3 1 3)).map (·.2.1)) = true ∧
      (chainAhead (chained (.vaddF32 4 4 3) (.sldN32 3 1 3)) 1).early (aWords (.vaddF32 4 4 3) (.sldN32 3 1 3)) (aVerdicts (.vaddF32 4 4 3) (.sldN32 3 1 3)) = none ∧
      .wait ∉ aVerdicts (.vaddF32 4 4 3) (.sldN32 3 1 3) ∧ .hold ∉ aVerdicts (.vaddF32 4 4 3) (.sldN32 3 1 3) ∧ (chainAhead (chained (.vaddF32 4 4 3) (.sldN32 3 1 3)) 1).pairFull (aWords (.vaddF32 4 4 3) (.sldN32 3 1 3)) = false ∧
      chainFaults (aVerdicts (.vaddF32 4 4 3) (.sldN32 3 1 3)) ≠ []) := by
  refine ⟨⟨?_, ?_, ?_, rfl, rfl, ?_, ?_, ?_, ?_⟩, ⟨?_, ?_, ?_, rfl, rfl, ?_, ?_⟩, ⟨?_, ?_, ?_, rfl, rfl, ?_, ?_, ?_, ?_, ?_, ?_, ?_⟩⟩ <;> decide +kernel
def f64Word : List ChainWord := [((encodeWord false (.vaddF64 4 4 2)).getD 0, .ok (.vaddF64 4 4 2))]
def held64 : State := at0.modCore at0.hereCore (·.holdV at0.hereSlices)
theorem witness_VPipe : atL.cur.stream.isLead = true ∧ usesV [(0x0C00C108, .ok (.add 3 1 2))] = false ∧ at0.vBusy = false ∧ usesV f64Word = true ∧ usesF64 f64Word = true ∧ held64.vBusy = true ∧
    at0.cur.stream.isLead = false ∧ at0.cur.verdict = .ok := by decide +kernel
/-- A doorbell over the wrong link; queues kept in order; a free slot and one that is not; a mode of 64 queues and the ninth queue of one with 8. -/
theorem witness_QueuesAndSlots : (1 : Nat) ≠ (if (queues false).ctx.pmode = 1 then 0 / 32 else 0) ∧ rising (queues true).queues = true ∧ atN.slotState 0 = 0 ∧ at0.slotState 0 ≠ 0 ∧ atN.fsplit.getLsbD 0 = true ∧
    atN.hasCore (48 * 0 + 0) = true ∧ 0 < (submitted 0x40100 0x40200).queueCount ∧ ({ submitted 0x40100 0x40200 with ctx := { pmode := 8 } } : State).queueCount ≤ 8 ∧ (0 : BitVec 64).toNat % 2 ^ 48 = 0 := by decide +kernel
/-- An MMA behind another, and behind none. -/
theorem witness_EngineStarts : (let c := cmd0 (.mma 0) .queued
     let d : Cmd := { cmd0 (.mma 0) .started with id := 8 }
     let x : Machine.Unit := { x0 with cmds := [d, c] }
     x.cmd? 9 = some c ∧ x.starts = true ∧ x.unfaulted c = true ∧ x.earlier 9 = [d] ∧ d.state ≠ .queued) ∧ (xCmd (cmd0 (.mma 0) .queued)).earlier 9 = [] ∧ (xCmd (cmd0 (.mma 0) .queued)).unfaulted (cmd0 (.mma 0) .queued) = true := by decide +kernel
theorem witness_CommandEnds : (xCmd (cmd0 .mswap .started)).unfaulted (cmd0 .mswap .started) = true ∧ (xCmd (cmd0 .mswap .started)).mayAct (cmd0 .mswap .started) = true ∧ (cmd0 .mswap .started).bad = false ∧
    (let c := copy0 0 0x70000
     (xCmd c).unfaulted c = true ∧ (match (atCmd c).runCmd 0 (xCmd c) c with
      | .fault _ _ t => t.engSettled 0 9
      | _ => false) = true) ∧
    (let c := copy0 0 0x50000
     (xCmd c).unfaulted c = true ∧ (match (atCmd c).runCmd 0 (xCmd c) c with
      | .later => true
      | _ => false) = true) ∧
    ({ copy0 1 0 with bad := true } : Cmd).state = .started := by decide +kernel
theorem mget_all {α : Type} (d v : α) (k : Nat) : ∀ (l : List Nat), k ∈ l → mget d (l.map fun j => (j, v)) k = v
  | j :: t, h => by
    by_cases e : j = k
    · simp [mget, mfind, e]
    · have := mget_all d v k t ((List.mem_cons.1 h).resolve_left (Ne.symm e))
      simpa [mget, mfind, e] using this
/-- Every link has trained and authenticated. -/
def allUp : Survey := { links := (List.range Config.links.length).map fun j => (j, .trained 0 0) }
theorem all_up {k : Nat} (h : k < Config.links.length) : allUp.link k = .trained 0 0 := mget_all _ _ k _ (List.mem_range.2 h)
theorem all_found (d : Nat) : ∀ w ∈ allUp.found d, w = 0 := by
  intro w hw
  obtain ⟨k, hk, h⟩ := List.mem_filterMap.1 hw
  rw [all_up (List.mem_range.1 hk)] at h
  split at h
  · rename_i x y a b e _
    cases e
    split at h
    · simpa using h.symm
    · split at h
      · simpa using h.symm
      · cases h
  · cases h
/-- A survey message between the dies that some link joins (the links are free, assumption 20). -/
theorem witness_SurveyMessage (k a b : Nat) (h : linkEnds k = some (a, b)) (ha : a < 29) (hb : b < 29) (hab : a ≠ b) :
    allUp.running = true ∧ a < 29 ∧ b < 29 ∧ a ≠ b ∧ (a, b) ∉ allUp.got ∧ (∀ j, j < Config.links.length → allUp.link j ≠ .training) ∧ (∀ w ∈ allUp.found a, w = 0) ∧ b ∈ allUp.neighbours a ∧ (∀ w ∈ allUp.found b, w = 0) := by
  have hk : k < Config.links.length := (List.getElem?_eq_some_iff.1 h).1
  refine ⟨rfl, ha, hb, hab, List.not_mem_nil, fun j hj => by rw [all_up hj]; simp, all_found a, List.mem_filterMap.2 ⟨k, List.mem_range.2 hk, ?_⟩, all_found b⟩
  unfold Survey.across
  rw [all_up hk, h]
  simp
/-- Ports of a die that is up, one whose 65th wavelength returns; a channel that has been idle in this tick; a sector the link has not poisoned, and one whose only write is on its way. -/
theorem witness_PackageStates : at0.svy.done = true ∧ at0.svy.up (24 + 3 / 6) = false ∧
    (let s : State := { at0 with svy := { at0.svy with dies := [(24, { state := 1 })] } , vxl := [(3, { retired := List.range 33 })] }
     s.svy.done = true ∧ s.svy.up (24 + 3 / 6) = true ∧ 32 < (s.port? 3).retired.length ∧ ((s.port? 3).retired.filter (· != 5)).length ≤ 32 ∧ (s.port? 4).retired.length ≤ 32) ∧
    State.reset.idle {} = true ∧ 5 ∉ State.reset.linkBad ∧ (∃ l ∈ layered.layers, ∃ w ∈ l.2.out, ∃ p ∈ w.bytes, sectorOf p.1 = sectorOf 0x400008) ∧ (driftOf []).primary = none ∧
    (driftOf [(2, 7), (1, 9), (1, 8)]).primary = some 8 := by decide +kernel

/-- R48: `SRD s3, vmcnt` chained with a load reads the counter before the load raises it. -/
theorem test_srd_before_load : effectOrder false [(0xC4000000, .ok (.vld 0 0 0 0 0)), (0x180C0008, .ok (.srd 3 8))] = [.srd 3 8, .vld 0 0 0 0 0] := by decide
/-- R47, R72: REDL of an F64 code with odd `d` 5, undefined by itself, and VADD.BF16 into `v5` share a destination (log 82). -/
theorem test_chain_of_undefined : chainLegal false [0xC1014382, 0x2C014806] = false ∧ chainLegal false [0xC1014382, 0x2C018806] = false ∧ chainLegal false [0xC1014382, 0x2C01C806] = true := by decide

/-! ### Witnesses: accuracy, what has been seen, holds, lost memory -/

/-- Sign and value in units of 2^-149 of an F32 word. -/
def unitsOf (w : Word) : Option (Bool × Int) := match fmtF32.value w.toNat with
  | .real neg m e => some (neg, mant neg m e (-149))
  | _ => none
/-- The logarithm the model measures VLOG2 against. -/
def logOf (w : Word) : Int := match fmtF32.value w.toNat with
  | .real _ m e => fxLog2 m e
  | _ => 0
/-- For each clause of the accuracy a source at the edge of its range. -/
theorem witness_Accuracy : unitsOf 0x00200000 = some (false, 2 ^ 21) ∧ unitsOf 0x80200001 = some (true, -2 ^ 21 - 1) ∧ unitsOf 0x00800000 = some (false, 2 ^ 23) ∧ unitsOf 0x7E800000 = some (false, 2 ^ 275) ∧
    unitsOf 0x43000000 = some (false, 128 * 2 ^ 149) ∧ unitsOf 0xC3150001 = some (true, -149 * 2 ^ 149 - 2 ^ 133) ∧ unitsOf 0xC3150000 = some (true, -149 * 2 ^ 149) ∧ unitsOf 0x42FE0000 = some (false, 127 * 2 ^ 149) ∧
    unitsOf 0x3F000000 = some (false, 2 ^ 148) ∧ (logOf 0x3FC00000).natAbs ≤ 2 ^ 184 ∧ 2 ^ 184 < (logOf 0x41200000).natAbs ∧ unitsOf 0x397FFFFF = some (false, 2 ^ 137 - 2 ^ 113) ∧ unitsOf 0x39800000 = some (false, 2 ^ 137) ∧
    unitsOf 0x487FFFFF = some (false, 2 ^ 167 - 2 ^ 143) ∧ unitsOf 0x41100000 = some (false, 9 * 2 ^ 149) ∧ unitsOf 0x80000001 = some (true, -1) ∧ unitsOf 0x00000002 = some (false, 2) ∧ fmtF32.isSubnormal (0x3F000000 : Word).toNat = false := by
  decide +kernel

/-- A write of the tile path remembered, one of a command that runs, and a read that comes after a fence. -/
def past1 : Past := { id := 2, path := 1, space := 0, unit := 0, bytes := [(0x400008, 5)] }
def pastRuns : Past := { past1 with id := 3, cmd := some 9 }
def remembering : State := { atM with past := [past1, pastRuns] }
theorem witness_PathFences : (∀ r ∈ [(⟨0, 0, 7, none⟩ : Reader), ⟨1, 0, 8, some 7⟩], r.unit = 0 ∧ remembering.nextId ≤ r.id ∧ ∀ k ∈ r.since, remembering.nextId ≤ k) ∧ (∀ x ∈ remembering.past, x.id < remembering.nextId) ∧
    (remembering.pathFence 0 1 0 (· == 9)).pasts ⟨0, 0, 7, none⟩ 0 0x400008 4 = [pastRuns] ∧ past1.shown 1 (· == 0) = true ∧ pastRuns.cmd.any (· == 9) = true := by decide
theorem witness_Adoption : remembering.nextId ≤ 7 ∧ past1 ∈ (remembering.adopt 0 4).pasts ⟨0, 0, 7, none⟩ 0 0x400008 4 ∧ past1.shown 0 (sameInstance 4 0) = false := by decide
/-- A scratchpad whose only write not seen lies elsewhere. -/
theorem witness_ScratchSeen : remembering.pasts remembering.laneReader 2 0x40 4 = [] := by decide

/-- A near-memory command holds the sector of `stat`. -/
def holdingJ : State := { atJ with hubTlb := [⟨0, 4, 1, 0x400033⟩], hub := [{ id := 9, op := .nmc, owner := .gone, a := 0, b := 0, queued := false, left := [0], req := 0x40000 + 2 ^ 192, tr := [(4, 0x400000)] }] }
theorem witness_StatHeld : atJ.hubOpen (atJ.X 4 + 16) 8 = true ∧ holdingJ.AtLead 0 xJ ∧ holdingJ.hubOpen (holdingJ.X 4 + 16) 8 = false ∧ at0.statFree none = true ∧ at0.statFree (some 0x40000) = true := by
  refine ⟨?_, ⟨rfl, rfl, rfl, rfl⟩, ?_, ?_, ?_⟩ <;> decide +kernel

/-- The link has marked the first, or the second, sector of the ring record poisoned. -/
theorem witness_MarkedRecord : (submitted 0x40100 0x40200).linkPoisoned (((submitted 0x40100 0x40200).queue 0).base.toNat + 128 * ((submitted 0x40100 0x40200).queue 0).head + 32 * 1) = false ∧
    ({ submitted 0x40100 0x40200 with linkBad := [0] } : State).linkPoisoned (((submitted 0x40100 0x40200).queue 0).base.toNat + 128 * ((submitted 0x40100 0x40200).queue 0).head + 32 * 0) = true ∧
    ({ submitted 0x40100 0x40200 with linkBad := [1] } : State).linkPoisoned (((submitted 0x40100 0x40200).queue 0).base.toNat + 128 * ((submitted 0x40100 0x40200).queue 0).head + 32 * 1) = true := by decide +kernel

/-- Miryen's record for the waiting unit, named to slot 0; one that no unit waits for; one the checks refuse. -/
def planned (r : Bind) : State := { pending with binding := [(0, { value := 64, miryen := true, plan := some (waiting.origin, r) })] }
def plan0 : Bind := { waiting.bind with tlbsets := 64 }
theorem witness_PlannedDispatch : (∀ w ∈ pending.binding, w.2.plan = none) ∧ mfind (planned plan0).binding 0 = some { value := 64, miryen := true, plan := some (waiting.origin, plan0) } ∧ (64 : DWord).getLsbD 0 = false ∧
    (planned plan0).pend.find? (fun p => p.origin == waiting.origin) = some waiting ∧ (planned plan0).admitCode 0 plan0 waiting.kte (parseQlim waiting.qlim.toNat) = 0 ∧
    (planned plan0).admitCode 0 { plan0 with spbase := 0x7FFFFFF0 } waiting.kte (parseQlim waiting.qlim.toNat) ≠ 0 ∧ waiting.bind.cohort = false ∧ ({ planned plan0 with pend := [] } : State).pend = [] := by
  refine ⟨?_, ?_, ?_, ?_, ?_, ?_, ?_, ?_⟩ <;> decide +kernel
/-- Save areas that nothing holds. -/
theorem witness_AreasOpen : leaving.hubOpen 0x44000 (layoutOf xP.kte xP.bind xP.queueSection.length xP.savedGangs.length).size = true ∧ (running []).hubOpen 0x44000 64 = true ∧ taken.areaOpen 0x44000 = true ∧ xP.back = false := by
  refine ⟨?_, ?_, ?_, ?_⟩ <;> decide +kernel

/-- Memory of another package of the pod, and of none; a sector whose stamp the layer has not applied. -/
def podAddr : Nat := 2 ^ 44 + 8
def inPod (s : State) : State := { s with pkgs := 4 }
theorem witness_PodReads : held0.backed 0x400008 = true ∧ held0.backed podAddr = false ∧ (inPod held0).backed podAddr = true ∧ (inPod held0).owned podAddr = false ∧ (inPod held0).held (sectorOf podAddr) = false ∧
    (inPod held0).devReady (layerOf 0) (sectorOf podAddr) = true ∧ (held0.sectorRead 0 ⟨0, 0, 3, none⟩ (2 * sectorOf 0x400008) (.dev (32 * sectorOf 0x400008)) 7 true).1 = 7 := by decide
/-- A load of a peer's scratchpad outstanding. -/
def accP : Acc := { lane := 0, loc := .peer 1 0x40, size := 4, addr := 0x40 }
def peering : State := base { gang0 with ops := [{ op0 with accs := [accP] }] }
theorem witness_PeerReturns : ∃ x, peering.unit? 0 = some x ∧ (x.opsAt 0).find? (fun p => p.id == 3) = some { op0 with accs := [accP] } ∧ ({ op0 with accs := [accP] } : Op).accs.find? (fun b => b.lane == accP.lane) = some accP ∧
    (({ op0 with accs := [accP] } : Op).request accP).any (fun b => (peering.core (coreOf 0)).portBusy b || x.olderClash 0 { op0 with accs := [accP] } b) = false ∧ ∃ v t, peering.readAcc 0 0 3 ⟨0, 0, 3⟩ accP false false = .value v t :=
  ⟨_, rfl, rfl, rfl, by decide, _, _, rfl⟩
/-- The site of an atomic ready, held, and the root complex with a stamp not yet applied. -/
def atomAcc (l : Loc) : Acc := { acc0 with loc := l, site := .home }
theorem witness_AtomicSites : (atomAt (.dev 0x400010)).siteReady 0 (atomAcc (.dev 0x400010)) = true ∧
    ({ atomAt (.dev 0x400010) with layers := [(0, { out := [{ id := 1, who := ⟨0, 0, 1⟩, bytes := [(0x400010, 5)], stamp := [] }] })] } : State).siteReady 0 (atomAcc (.dev 0x400010)) = false ∧
    (atomAt (.host 0x10)).hostReady 0 (sectorOf 0x10) = true ∧ ({ atomAt (.host 0x10) with hostStamps := [(0, [(1, 1)])] } : State).hostReady 0 (sectorOf 0x10) = false ∧
    (atomAt (.host 0x10)).linkPoisoned 0x10 = false ∧ ({ atomAt (.host 0x10) with linkBad := [0] } : State).linkPoisoned 0x10 = true ∧
    ((atomOp (.host 0x10)).atomOn (atomAcc (.host 0x10)) 7).1.isSome = true := by decide
/-- A compare-and-swap that changes nothing. -/
theorem witness_AtomicKeeps : (({ atomOp (.host 0x10) with kind := .atom 5 7 0 [(0, 9)] [(0, 1)] } : Op).atomOn (atomAcc (.host 0x10)) 7).1 = none := by decide
theorem witness_StoresToThePod : (portOf .dev 0x400008).backed 0x400008 = true ∧ (portOf .dev podAddr).backed podAddr = false ∧ (inPod (portOf .dev podAddr)).backed podAddr = true ∧ (inPod (portOf .dev podAddr)).owned podAddr = false ∧
    (inPod (portOf .dev podAddr)).heldBytes (req0 .dev podAddr).bytes = false ∧ (inPod (portOf .dev podAddr)).canSend (layerOf 0) podAddr = false := by decide
/-- Memory of the other device of a package in halves. -/
theorem witness_StoresBesideTheDevice : let pa := 4 * 64000000000 + 64
    let s : State := { portOf .dev pa with ctx := { pmode := 2 } }
    s.backed pa = true ∧ s.owned pa = false ∧ s.heldBytes (req0 .dev pa).bytes = false ∧ s.canSend (layerOf 0) pa = true := by decide
theorem witness_ClipBits : (backing.core 0).wbs = [⟨0x400000, [(0x400000, 5)], true, 0, 0, 0, true⟩] ∧ backing.seamRecHeld 0 = false := by decide
theorem witness_TouchOpen : pooled.hubOpen (pooled.ctx.ftpool + 8) 4 = true ∧ pooled.asleep 0x500000 = false ∧ ({ pooled with hub := [{ id := 9, op := .nmc, owner := .gone, a := 0, b := 0, queued := false, left := [0], req := 0x20020 + 2 ^ 192, tr := [(2, 0x210000)] }] } : State).held (sectorOf 0x210028) = true := by
  refine ⟨?_, ?_, ?_⟩ <;> decide +kernel

/-- The value that an engine's read finds. -/
def readValue : EngRead → Nat
  | .val v => v
  | _ => 0
/-- It finds one. -/
def finds : EngRead → Bool
  | .val _ => true
  | _ => false
theorem read_value {r : EngRead} (h : finds r = true) : r = .val (readValue r) := by
  cases r <;> first | rfl | cases h
/-- A box of one row of two I8N elements in the scratchpad, and one of an F32 element; the commands that read and write them. -/
def boxRec : BitVec 512 := BitVec.ofNat 512 (2 ^ 64 + 2 ^ 74 + 2 ^ 88)
def drainRec : BitVec 512 := BitVec.ofNat 512 (2 ^ 65 + 2 ^ 67 + 2 ^ 74)
def boxCmd (op : CmdOp) : Cmd := { cmd0 op .started with recs := [boxRec] }
def drainCmd : Cmd := { cmd0 (.mdrain 0) .started with recs := [drainRec], c := 64 }
def boxAt (s : State) (op : CmdOp) (k : Nat) : EngRead := s.engRead ((boxCmd op).reader 0) 0 (xCmd (boxCmd op)) (recSpace boxRec.toNat) (recAddr boxRec.toNat 0 [k % 128, k / 128, 0, 0, 0]) 1
theorem box_read (s : State) (op : CmdOp) (h : ∀ k ∈ [0, 1], finds (boxAt s op k) = true) (i j : Nat) (hi : i ≤ recBox boxRec.toNat 1) (hj : j ≤ recBox boxRec.toNat 0) : boxAt s op (128 * i + j) = .val (readValue (boxAt s op (128 * i + j))) := by
  have e0 : recBox boxRec.toNat 0 = 1 := by decide +kernel
  have e1 : recBox boxRec.toNat 1 = 0 := by decide +kernel
  rw [e0] at hj
  rw [e1] at hi
  obtain rfl : i = 0 := by omega
  obtain rfl | rfl : j = 0 ∨ j = 1 := by omega
  · simpa only [Nat.mul_zero, Nat.zero_add] using read_value (h 0 (by simp))
  · simpa only [Nat.mul_zero, Nat.zero_add] using read_value (h 1 (by simp))
theorem witness_MatrixCommands : (xCmd (boxCmd .mldw)).mayAct (boxCmd .mldw) = true ∧ recBox boxRec.toNat 0 ≤ 127 ∧ recBox boxRec.toNat 1 ≤ 127 ∧
    (∀ i j, i ≤ recBox boxRec.toNat 1 → j ≤ recBox boxRec.toNat 0 → boxAt ((atCmd (boxCmd .mldw)).takeFlags 0 9) .mldw (128 * i + j) = .val (readValue (boxAt ((atCmd (boxCmd .mldw)).takeFlags 0 9) .mldw (128 * i + j)))) ∧
    (xCmd (boxCmd (.mma 0))).mayAct (boxCmd (.mma 0)) = true ∧ (xCmd (boxCmd (.mma 0))).earlier 9 = [] ∧
    (∀ i j, i ≤ recBox boxRec.toNat 1 → j ≤ recBox boxRec.toNat 0 → boxAt (atCmd (boxCmd (.mma 0))) (.mma 0) (128 * i + j) = .val (readValue (boxAt (atCmd (boxCmd (.mma 0))) (.mma 0) (128 * i + j)))) :=
  ⟨by decide, by decide +kernel, by decide +kernel, box_read _ _ (by decide +kernel), by decide, by decide, box_read _ _ (by decide +kernel)⟩
theorem witness_Drains : let s := atCmd drainCmd
    let at_ := fun (k : Nat) => recAddr drainRec.toNat 0 [0, 0, 0, 0, 0] + BitVec.ofNat 64 k
    drainCmd.performed = false ∧ (xCmd drainCmd).mayAct drainCmd = true ∧ recBox drainRec.toNat 0 = 0 ∧ recBox drainRec.toNat 1 = 0 ∧ recSeam drainRec.toNat = false ∧ recSize drainRec.toNat = 4 ∧
    s.spadPoisoned (coreOf 0) (drainCmd.c.toNat + (xCmd drainCmd).bind.spbase + 16) 1024 = false ∧ drainCmd.recs.length < 2 ∧
    (∀ k, k < 4 → s.engByte 0 (xCmd drainCmd) (recSpace drainRec.toNat) (at_ k) true = .at (.spad 0 k) false) ∧
    ∀ v : Nat → Nat, s.engReady (coreOf 0) ((List.range 4).map fun k => ⟨.spad 0 k, v k, false, at_ k⟩) = true := by
  refine ⟨?_, ?_, ?_, ?_, ?_, ?_, ?_, ?_, ?_, fun v => rfl⟩ <;> decide +kernel
/-- An MMA whose rows have entered, and one that has not started. -/
theorem witness_Entered : let d : Cmd := { boxCmd (.mma 0) with id := 8 }
    let x : Machine.Unit := { x0 with cmds := [d, cmd0 (.mma 1) .queued] }
    x.earlier 9 = [d] ∧ ({ atCmd d with units := [(0, x)] } : State).entered 0 x d = true ∧ ({ atCmd d with units := [(0, x)] } : State).entered 0 x { d with state := .queued } = false := by
  refine ⟨?_, ?_, ?_⟩ <;> decide +kernel
/-- A copy of which a seam store still waits in the coalescer. -/
def unsettled (st : CmdState) (bad : Bool) : Cmd := { copy0 1 0 with state := st, bad := bad }
def waitsForSeam (c : Cmd) : State := (atCmd c).modCore 0 fun k => { k with seamq := [{ stored with who := ⟨0, 64 + 9, 0⟩ }] }
theorem witness_UnsettledEnds : (waitsForSeam (unsettled .started true)).engSettled 0 9 = false ∧ (waitsForSeam (unsettled .done false)).engSettled 0 9 = false ∧ (atCmd (unsettled .done false)).engSettled 0 9 = true ∧
    ((waitsForSeam (unsettled .started false)).discard 0 (unsettled .started false)).engSettled 0 9 = false ∧ ((atCmd (unsettled .started false)).discard 0 (unsettled .started false)).engSettled 0 9 = true := by
  refine ⟨?_, ?_, ?_, ?_, ?_⟩ <;> decide +kernel
/-- A sub-command no channel of which sleeps; where one sleeps and the access reaches it (assumption 101) it waits. -/
def near0 (left : List Nat) : HubCmd := { hubCmd .nmc false with left := left, req := nmcRec, tr := [(4, 0x400000)], crec := .dev 0x400700 }
def sleeping (h : HubCmd) (k : Nat) : State := { hubAt h 0 with pch := [(k, { state := 1 })] }
theorem witness_NearAwake : (near0 [0]).asleep (hubAt (near0 [0]) 0) 0 = false ∧ ((hubAt (near0 [0]) 0).putHub { near0 [0] with left := [] }).crecFree (near0 [0]) (near0 [0]).crec = true := by
  refine ⟨?_, ?_⟩ <;> decide +kernel
theorem asleep_at {s : State} {pa k : Nat} (hp : s.pch = [(k, { state := 1 })]) (hc : s.channelOf pa = k) (hr : s.reaches pa = true) : s.asleep pa = true := by
  simp [State.asleep, hp, hc, hr, mget, mfind]
theorem witness_NearAsleep {k : Nat} (hc : (sleeping (near0 [0]) k).channelOf 0x401000 = k) (hr : (sleeping (near0 [0]) k).reaches 0x401000 = true) : (near0 [0]).asleep (sleeping (near0 [0]) k) 0 = true := by
  unfold HubCmd.asleep
  rw [List.any_eq_true]
  refine ⟨0x41000, by decide +kernel, ?_⟩
  have e : (near0 [0]).place 0x41000 = 0x401000 := by decide +kernel
  rw [e, asleep_at rfl hc hr, Bool.true_or]
theorem witness_DeepClear : (let h : HubCmd := { hubCmd .dread false with left := [0, 1], req := readRec, tr := [(4, 0x400000)], crec := .dev 0x400700 }
     (hubAt h 0).pageClear h 0 = true ∧ (hubAt h 0).ownerOpen h.owner = true ∧ (hubAt h 0).crecFree h h.crec = true) ∧
    ∀ left ∈ [[0], [0, 1]], (atAppend left).ownerOpen (appending left).owner = true ∧ (atAppend left).crecFree (appending left) (appending left).crec = true := by
  refine ⟨⟨?_, ?_, ?_⟩, ?_⟩ <;> decide +kernel
theorem witness_CopierAwake : (migrating 512).asleep 0x400000 = false ∧ (migrating 512).asleep (2 ^ 40) = false ∧ (migrating 4).remapReady = true := by decide +kernel
theorem witness_CopierAsleep {k : Nat} (hc : ({ migrating 512 with pch := [(k, { state := 1 })] } : State).channelOf 0x400000 = k) (hr : ({ migrating 512 with pch := [(k, { state := 1 })] } : State).reaches 0x400000 = true) :
    ({ migrating 512 with pch := [(k, { state := 1 })] } : State).asleep 0x400000 = true := asleep_at rfl hc hr
/-- Ports: 65 and 64 wavelengths left, up, training and down; a buffer emptied; a package found behind a switch. -/
theorem witness_PortLosses : ((ported { upPort with retired := List.range 32 }).port? 3).live = true ∧ ((ported { upPort with retired := List.range 32, state := .training }).port? 3).state = .training ∧ ((ported { upPort with retired := List.range 31 }).port? 3).retired.length < 32 ∧
    ((ported {}).port? 3).live = false ∧ ((ported {}).port? 3).state ≠ .training ∧ upPort.buf = [] ∧ upPort.rxKey (!upPort.ph) = false ∧ 2 ∉ (ported upPort).left ∧ paPackage (2 * 2 ^ 44) = 2 ∧ (24 : Nat) ≤ 24 := by decide
/-- What an uncorrectable error strikes: places of every kind. -/
theorem witness_Errors : held0.isHbm (32 * sectorOf 0x400008) = true ∧ held0.isHbm (32 * sectorOf (2 ^ 40)) = false ∧ 0 / 4 ∉ (held0.core 0).spadBad ∧ 0 < Config.spadBytes ∧ sectorOf 0x400008 ∉ held0.linkBad ∧
    held0.owned (32 * sectorOf 0x400008) = true ∧ held0.layers.find? (fun l => l.2.out.any fun w => w.bytes.any fun p => sectorOf p.1 == sectorOf 0x400008) = none ∧
    ((layered.layers.find? fun l => l.2.out.any fun w => w.bytes.any fun p => sectorOf p.1 == sectorOf 0x400008).map (·.1)) = some 0 := by decide

end Sys2Proof.Tests
end

section
/-! PROOF. O1: scalar words write the result of their table row. First what the model computes against what the tables say, row by row; then the words. -/

namespace Sys2Proof.Machine

/-! ### Sums, products and shifts -/

theorem add_eq_ofNat {w : Nat} (x y : BitVec w) : x + y = BitVec.ofNat w (x.toNat + y.toNat) := by
  rw [BitVec.ofNat_add, BitVec.ofNat_toNat, BitVec.ofNat_toNat, BitVec.setWidth_eq, BitVec.setWidth_eq]

theorem mul_eq_ofNat {w : Nat} (x y : BitVec w) : x * y = BitVec.ofNat w (x.toNat * y.toNat) := by
  rw [BitVec.ofNat_mul, BitVec.ofNat_toNat, BitVec.ofNat_toNat, BitVec.setWidth_eq, BitVec.setWidth_eq]

theorem sub_eq_ofInt {w : Nat} (x y : BitVec w) : x - y = BitVec.ofInt w ((x.toNat : Int) - y.toNat) := by
  rw [Int.sub_eq_add_neg, BitVec.ofInt_add, BitVec.ofInt_neg, BitVec.ofInt_natCast, BitVec.ofInt_natCast, BitVec.ofNat_toNat, BitVec.ofNat_toNat,
    BitVec.setWidth_eq, BitVec.setWidth_eq, BitVec.sub_eq_add_neg]

theorem shiftLeft_eq_ofNat {w : Nat} (x : BitVec w) (n : Nat) : x <<< n = BitVec.ofNat w (x.toNat * 2 ^ n) :=
  BitVec.eq_of_toNat_eq (by rw [BitVec.toNat_shiftLeft, Nat.shiftLeft_eq, BitVec.toNat_ofNat])

theorem ushiftRight_eq_ofNat {w : Nat} (x : BitVec w) (n : Nat) : x >>> n = BitVec.ofNat w (x.toNat / 2 ^ n) := by
  rw [← Nat.shiftRight_eq_div_pow, ← BitVec.toNat_ushiftRight, BitVec.ofNat_toNat, BitVec.setWidth_eq]

theorem sshiftRight_eq_ofInt {w : Nat} (x : BitVec w) (n : Nat) : x.sshiftRight n = BitVec.ofInt w (x.toInt / 2 ^ n) := by
  have h : (x.sshiftRight n).toInt = x.toInt / 2 ^ n := by rw [BitVec.toInt_sshiftRight, Int.shiftRight_eq_div_pow, Int.natCast_pow, Int.cast_ofNat_Int]
  rw [← h, BitVec.ofInt_toInt]

/-- A product of two 64-bit numbers fits in 128 bits (R129). -/
theorem toInt_mul_signExtend (x y : DWord) : (x.signExtend 128 * y.signExtend 128).toInt = x.toInt * y.toInt := by
  have lo := BitVec.le_toInt_mul_toInt (x := x) (y := y)
  have hi := BitVec.toInt_mul_toInt_le (x := x) (y := y)
  rw [BitVec.toInt_mul, BitVec.toInt_signExtend_of_le (by decide), BitVec.toInt_signExtend_of_le (by decide)]
  exact Int.bmod_eq_of_le (by omega) (by omega)

theorem high_half_eq_ofInt (z : BitVec 128) : z.extractLsb' 64 64 = BitVec.ofInt 64 (z.toInt / 2 ^ 64) := by
  apply BitVec.eq_of_toNat_eq
  rw [BitVec.extractLsb'_toNat, Nat.shiftRight_eq_div_pow, BitVec.toNat_ofInt, BitVec.toInt_eq_toNat_cond]
  split <;> omega

theorem mulhiSigned_eq (x y : DWord) : mulhiSigned x y = (x.signExtend 128 * y.signExtend 128).extractLsb' 64 64 := by
  rw [high_half_eq_ofInt, toInt_mul_signExtend, mulhiSigned]

theorem mulhiUnsigned_eq (x y : DWord) : mulhiUnsigned x y = (x.setWidth 128 * y.setWidth 128).extractLsb' 64 64 := by
  have fits : x.toNat * y.toNat < 2 ^ 64 * 2 ^ 64 := Nat.mul_lt_mul'' x.isLt y.isLt
  have prod : (x.setWidth 128 * y.setWidth 128).toNat = x.toNat * y.toNat := by
    rw [BitVec.toNat_mul, BitVec.toNat_setWidth_of_le (by decide), BitVec.toNat_setWidth_of_le (by decide), Nat.mod_eq_of_lt (by omega)]
  apply BitVec.eq_of_toNat_eq
  rw [BitVec.extractLsb'_toNat, prod, Nat.shiftRight_eq_div_pow, mulhiUnsigned, BitVec.toNat_ofNat]

/-! ### Comparisons -/

/-- R129: the answer of a comparison, whatever decides it. -/
theorem bool64_eq_truth {b : Bool} {p : Prop} [Decidable p] (h : b = true ↔ p) : bool64 b = truth p := by
  simp only [bool64, truth, h]

/-- Two choices that differ only where the answers are equal. -/
theorem ite_eq_ite_of_tie {β : Type} {c k : Prop} [Decidable c] [Decidable k] {p q : β} (hck : c → k) (tie : k → ¬ c → p = q) : (if c then p else q) = if k then p else q := by
  by_cases hc : c
  · rw [if_pos hc, if_pos (hck hc)]
  · by_cases hk : k
    · rw [if_neg hc, if_pos hk, tie hk hc]
    · rw [if_neg hc, if_neg hk]

theorem ite_slt_eq_ite_le {β : Type} {w : Nat} {x y : BitVec w} {p q : β} (h : x = y → p = q) : (if x.slt y then p else q) = if x.toInt ≤ y.toInt then p else q :=
  ite_eq_ite_of_tie (fun hlt => Int.le_of_lt (BitVec.slt_iff_toInt_lt.1 hlt))
    fun hle hn => h (BitVec.eq_of_toInt_eq (Int.le_antisymm hle (Int.not_lt.1 (mt BitVec.slt_iff_toInt_lt.2 hn))))

theorem ite_ult_eq_ite_le {β : Type} {w : Nat} {x y : BitVec w} {p q : β} (h : x = y → p = q) : (if x < y then p else q) = if x.toNat ≤ y.toNat then p else q :=
  ite_eq_ite_of_tie (fun hlt => Nat.le_of_lt (BitVec.lt_def.1 hlt))
    fun hle hn => h (BitVec.eq_of_toNat_eq (Nat.le_antisymm hle (Nat.not_lt.1 (mt BitVec.lt_def.2 hn))))

/-! ### Counts of bits -/

theorem popc64_eq (x : DWord) : popc64 x = BitVec.ofNat 64 (setBits 64 x.toNat) := by
  rw [setBits, List.countP_eq_length_filter]
  rfl

theorem leadingZeros_succ (w x : Nat) : leadingZeros (w + 1) x = if x.testBit w then 0 else leadingZeros w x + 1 := by
  rw [leadingZeros, List.range_succ, List.reverse_append, List.reverse_singleton, List.singleton_append, List.takeWhile_cons]
  cases x.testBit w <;> rfl

theorem leadingZeros_of_zero (w : Nat) : leadingZeros w 0 = w := by
  induction w with
  | zero => rfl
  | succ w ih => rw [leadingZeros_succ, Nat.zero_testBit, if_neg Bool.false_ne_true, ih]

/-- A number that is not zero is its leading zeros, its highest set bit and the bits below that. -/
theorem leadingZeros_add_log2 {w x : Nat} (h0 : x ≠ 0) (h : x < 2 ^ w) : leadingZeros w x + x.log2 + 1 = w := by
  induction w with
  | zero => omega
  | succ w ih =>
    rw [leadingZeros_succ]
    split
    · next top =>
      have : x.log2 = w := (Nat.log2_eq_iff h0).2 ⟨Nat.ge_two_pow_of_testBit top, h⟩
      omega
    · next top =>
      have low : x < 2 ^ w := Nat.lt_of_not_ge fun hge => top (Nat.testBit_of_two_pow_le_and_two_pow_add_one_gt hge h)
      have := ih low
      omega

theorem clz64_eq (x : DWord) : clz64 x = BitVec.ofNat 64 (leadingZeros 64 x.toNat) := by
  rw [clz64]
  split
  · next h =>
    subst h
    exact congrArg (BitVec.ofNat 64) (leadingZeros_of_zero 64).symm
  · next h =>
    have h0 : x.toNat ≠ 0 := fun e => h (BitVec.eq_of_toNat_eq e)
    have := leadingZeros_add_log2 h0 x.isLt
    congr 1
    omega

/-! ### Immediates -/

theorem add_eq_ofInt {w : Nat} (x y : BitVec w) : x + y = BitVec.ofInt w (x.toNat + y.toInt) := by
  rw [BitVec.ofInt_add, BitVec.ofInt_natCast, BitVec.ofNat_toNat, BitVec.setWidth_eq, BitVec.ofInt_toInt]

theorem imm64_toInt (n : BitVec 10) : (imm64 n).toInt = n.toInt := BitVec.toInt_signExtend_of_le (by decide)

/-- A shift to the left of a signed number. -/
theorem shiftLeft_eq_ofInt {w : Nat} (x : BitVec w) (n : Nat) : x <<< n = BitVec.ofInt w (x.toInt * 2 ^ n) := by
  have h : BitVec.ofInt w (2 ^ n) = BitVec.ofNat w (2 ^ n) := by rw [← BitVec.ofInt_natCast, Int.natCast_pow, Int.cast_ofNat_Int]
  rw [shiftLeft_eq_ofNat, BitVec.ofNat_mul, BitVec.ofNat_toNat, BitVec.setWidth_eq, BitVec.ofInt_mul, BitVec.ofInt_toInt, h]

/-- R60: what LDI writes. -/
theorem signExtend_shiftLeft (n : BitVec 16) (p : Nat) : n.signExtend 64 <<< p = BitVec.ofInt 64 (n.toInt * 2 ^ p) := by
  rw [shiftLeft_eq_ofInt, BitVec.toInt_signExtend_of_le (by decide)]

/-- The bits of a number with `m` bits at `p` replaced by `n`. -/
theorem testBit_replaced {x n m : Nat} (p j : Nat) (h : n < 2 ^ m) :
    (x % 2 ^ p + n * 2 ^ p + x / 2 ^ (p + m) * 2 ^ (p + m)).testBit j = if p ≤ j ∧ j < p + m then n.testBit (j - p) else x.testBit j := by
  have e : x % 2 ^ p + n * 2 ^ p + x / 2 ^ (p + m) * 2 ^ (p + m) = 2 ^ p * (2 ^ m * (x / 2 ^ (p + m)) + n) + x % 2 ^ p := by
    rw [Nat.mul_add, ← Nat.mul_assoc, ← Nat.pow_add, Nat.mul_comm n, Nat.mul_comm (x / 2 ^ (p + m))]
    omega
  rw [e, Nat.testBit_two_pow_mul_add _ (Nat.mod_lt _ (Nat.two_pow_pos p)), Nat.testBit_two_pow_mul_add _ h, Nat.testBit_mod_two_pow, Nat.testBit_div_two_pow]
  rcases Nat.lt_or_ge j p with hlow | hlow
  · rw [if_pos hlow, if_neg (by omega), decide_eq_true hlow, Bool.true_and]
  · rw [if_neg (by omega)]
    rcases Nat.lt_or_ge j (p + m) with hin | hin
    · rw [if_pos (by omega), if_pos ⟨hlow, hin⟩]
    · rw [if_neg (by omega), if_neg (by omega), show j - p - m + (p + m) = j by omega]

/-- R60: LDIH replaces 16 bits. -/
theorem replace_field (x : DWord) (n : BitVec 16) (p : Nat) :
    (x &&& ~~~((0xFFFF#64) <<< p)) ||| (n.setWidth 64 <<< p) = BitVec.ofNat 64 (x.toNat % 2 ^ p + n.toNat * 2 ^ p + x.toNat / 2 ^ (p + 16) * 2 ^ (p + 16)) := by
  apply BitVec.eq_of_getLsbD_eq
  intro j hj
  have ones : ∀ k, (0xFFFF#64).getLsbD k = decide (k < 16) := fun k => Nat.testBit_two_pow_sub_one 16 k
  rw [BitVec.getLsbD_ofNat, testBit_replaced p j n.isLt, BitVec.testBit_toNat, BitVec.testBit_toNat]
  simp only [BitVec.getLsbD_or, BitVec.getLsbD_and, BitVec.getLsbD_not, BitVec.getLsbD_shiftLeft, BitVec.getLsbD_setWidth, ones, hj, decide_true, Bool.true_and]
  rcases Nat.lt_or_ge j p with hlow | hlow
  · rw [if_neg (by omega), decide_eq_true hlow]
    simp only [Bool.not_true, Bool.false_and, Bool.not_false, Bool.and_true, Bool.or_false]
  · rw [decide_eq_false (Nat.not_lt.2 hlow), decide_eq_true (show j - p < 64 by omega)]
    rcases Nat.lt_or_ge j (p + 16) with hin | hin
    · rw [if_pos ⟨hlow, hin⟩, decide_eq_true (show j - p < 16 by omega)]
      simp only [Bool.not_false, Bool.true_and, Bool.not_true, Bool.and_false, Bool.false_or]
    · have above : 16 ≤ j - p := by omega
      rw [if_neg (by omega), decide_eq_false (Nat.not_lt.2 above), BitVec.getLsbD_of_ge n _ above]
      simp only [Bool.not_false, Bool.and_true, Bool.or_false, Bool.and_false]

/-! ### The words -/

/-- A word that computes what its table row says. -/
theorem ScalarTwoDone.of_scalar2 {i : Instr} {d a b : BitVec 6} {f k : DWord → DWord → DWord} (he : ∀ s, exec i s = s.scalar2 d a b k) (hk : ∀ x y, k x y = f x y) :
    ScalarTwoDone i d a b f := by
  obtain rfl : k = f := funext fun x => funext (hk x)
  exact ⟨fun _ _ _ _ _ _ h hd ha hb => scalar2_split he h hd ha hb, fun _ _ _ h hd ha hb => scalar2_lead he h hd ha hb⟩

/-- The same of a word with one source register. -/
theorem ScalarOneDone.of_scalar1 {i : Instr} {d a : BitVec 6} {f k : DWord → DWord} (he : ∀ s, exec i s = s.scalar1 d a k) (hk : ∀ x, k x = f x) : ScalarOneDone i d a f := by
  obtain rfl : k = f := funext hk
  exact ⟨fun _ _ _ _ _ _ h hd ha => scalar1_split he h hd ha, fun _ _ _ h hd ha => scalar1_lead he h hd ha⟩

/-- A register named twice is checked as one. -/
theorem State.scalarWord_twice (s : State) (n : Nat) : s.scalarWord [n, n] = s.scalarWord [n] := by
  simp only [State.scalarWord, List.all_cons, List.all_nil, Bool.and_true, Bool.and_self]

/-- R60: LDI and LDIH are words of one source, their own destination. -/
theorem execLdi_eq_scalar1 (d : BitVec 6) (k : BitVec 2) (n : BitVec 16) (s : State) :
    execLdi d k n s = s.scalar1 d d fun _ => n.signExtend 64 <<< (16 * k.toNat) := by
  rw [State.scalar1, State.scalarWord_twice, execLdi]

theorem execLdih_eq_scalar1 (d : BitVec 6) (k : BitVec 2) (n : BitVec 16) (s : State) :
    execLdih d k n s = s.scalar1 d d fun x => (x &&& ~~~((0xFFFF#64) <<< (16 * k.toNat))) ||| (n.setWidth 64 <<< (16 * k.toNat)) := by
  rw [State.scalar1, State.scalarWord_twice, execLdih]

theorem scalarTwoSources : ScalarTwoSources := by
  intro i d a b f h
  cases i <;> cases h
  case add.refl => exact .of_scalar2 (exec_add d a b) add_eq_ofNat
  case sub.refl => exact .of_scalar2 (exec_sub d a b) sub_eq_ofInt
  case mul.refl => exact .of_scalar2 (exec_mul d a b) mul_eq_ofNat
  case mulhiI64.refl => exact .of_scalar2 (exec_mulhiI64 d a b) mulhiSigned_eq
  case mulhiN64.refl => exact .of_scalar2 (exec_mulhiN64 d a b) mulhiUnsigned_eq
  case and.refl => exact .of_scalar2 (exec_and d a b) fun _ _ => rfl
  case or.refl => exact .of_scalar2 (exec_or d a b) fun _ _ => rfl
  case xor.refl => exact .of_scalar2 (exec_xor d a b) fun _ _ => rfl
  case shl.refl => exact .of_scalar2 (exec_shl d a b) fun x y => shiftLeft_eq_ofNat x (shiftCount y)
  case shr.refl => exact .of_scalar2 (exec_shr d a b) fun x y => ushiftRight_eq_ofNat x (shiftCount y)
  case sar.refl => exact .of_scalar2 (exec_sar d a b) fun x y => sshiftRight_eq_ofInt x (shiftCount y)
  case minI64.refl => exact .of_scalar2 (exec_minI64 d a b) fun _ _ => ite_slt_eq_ite_le id
  case minN64.refl => exact .of_scalar2 (exec_minN64 d a b) fun _ _ => ite_ult_eq_ite_le id
  case maxI64.refl => exact .of_scalar2 (exec_maxI64 d a b) fun _ _ => ite_slt_eq_ite_le Eq.symm
  case maxN64.refl => exact .of_scalar2 (exec_maxN64 d a b) fun _ _ => ite_ult_eq_ite_le Eq.symm
  case seq.refl => exact .of_scalar2 (exec_seq d a b) fun _ _ => bool64_eq_truth beq_iff_eq
  case sltI64.refl => exact .of_scalar2 (exec_sltI64 d a b) fun _ _ => bool64_eq_truth BitVec.slt_iff_toInt_lt
  case sltN64.refl => exact .of_scalar2 (exec_sltN64 d a b) fun _ _ => bool64_eq_truth BitVec.ult_iff_toNat_lt

theorem scalarOneSource : ScalarOneSource := by
  intro i d a f h
  cases i <;> cases h
  case mov.refl => exact .of_scalar1 (exec_mov d a) fun _ => rfl
  case popc.refl => exact .of_scalar1 (exec_popc d a) popc64_eq
  case clz.refl => exact .of_scalar1 (exec_clz d a) clz64_eq
  case addi.refl n => exact .of_scalar1 (exec_addi d a n) fun x => (add_eq_ofInt x (imm64 n)).trans (by rw [imm64_toInt])
  case andi.refl n => exact .of_scalar1 (exec_andi d a n) fun _ => rfl
  case ori.refl n => exact .of_scalar1 (exec_ori d a n) fun _ => rfl
  case xori.refl n => exact .of_scalar1 (exec_xori d a n) fun _ => rfl
  case shli.refl n => exact .of_scalar1 (exec_shli d a n) fun x => shiftLeft_eq_ofNat x n.toNat
  case shri.refl n => exact .of_scalar1 (exec_shri d a n) fun x => ushiftRight_eq_ofNat x n.toNat
  case sari.refl n => exact .of_scalar1 (exec_sari d a n) fun x => sshiftRight_eq_ofInt x n.toNat
  case seqi.refl n => exact .of_scalar1 (exec_seqi d a n) fun _ => bool64_eq_truth beq_iff_eq
  case sltiI64.refl n => exact .of_scalar1 (exec_sltiI64 d a n) fun _ => bool64_eq_truth (by rw [BitVec.slt_iff_toInt_lt, imm64_toInt])
  case sltiN64.refl n => exact .of_scalar1 (exec_sltiN64 d a n) fun _ => bool64_eq_truth BitVec.ult_iff_toNat_lt
  case ldi.refl k n => exact .of_scalar1 (execLdi_eq_scalar1 d k n) fun _ => signExtend_shiftLeft n (16 * k.toNat)
  case ldih.refl k n => exact .of_scalar1 (execLdih_eq_scalar1 d k n) fun x => replace_field x n (16 * k.toNat)

/-- Settles O1: each word computes what its table row says, and a scalar word writes that and nothing else. -/
theorem scalarArithmetic : Obligations.ScalarArithmetic := ⟨scalarTwoSources, scalarOneSource⟩

end Sys2Proof.Machine
end

section
/-! PROOF. O16: the branches of R135 move the whole stream. -/

namespace Sys2Proof.Machine

/-- The target of a displacement is the packet the statements name. -/
theorem target_eq_flowTarget (ip : Word) (disp : BitVec 16) : target ip disp = flowTarget ip disp := by
  rw [target, add_eq_ofInt, BitVec.toInt_signExtend_of_le (by decide), flowTarget]

/-- The link of CALL is the next packet. -/
theorem setWidth_succ_eq_flowLink (ip : Word) : (ip + 1).setWidth 64 = flowLink ip := by
  rw [flowLink, ← BitVec.ofNat_toNat, BitVec.toNat_add]
  rfl

/-- Where a stream goes: to word 0 of a packet, or on to the next place. -/
def State.goTo (t : State) : Option Word → State
  | some ip => t.jump ip
  | none => t

theorem State.goTo_ite (t : State) (c : Prop) [Decidable c] (o p : Option Word) : t.goTo (if c then o else p) = if c then t.goTo o else t.goTo p :=
  apply_ite t.goTo c o p

/-- Check 2 of R72 for a word that moves its stream: the registers it names, where it names any. -/
def State.flowChecks (s : State) : List (BitVec 6) → Verdict
  | [] => .ok
  | rs => s.scalarWord (rs.map (·.toNat))

theorem State.AtSplit.flowChecks {s : State} {u g e : Nat} {x : Unit} {y : Gang} (h : s.AtSplit u g e x y) {rs : List (BitVec 6)}
    (hr : ∀ r ∈ rs, r.toNat < x.kte.sregs) : s.flowChecks rs = .ok := by
  cases rs with
  | nil => rfl
  | cons r rs => exact h.scalarWord (List.forall_mem_map.2 hr)

theorem State.AtLead.flowChecks {s : State} {u : Nat} {x : Unit} (h : s.AtLead u x) {rs : List (BitVec 6)} (hr : ∀ r ∈ rs, r.toNat < 32) :
    s.flowChecks rs = .ok := by
  cases rs with
  | nil => rfl
  | cons r rs => exact h.scalarWord (List.forall_mem_map.2 hr)

/-- What R135 says of the word `i` with row `f`, in a split and in the lead. -/
def FlowDone (i : Instr) (f : Flow) : Prop :=
  (∀ s u g e x y, s.AtSplit u g e x y → (∀ r ∈ f.regs, r.toNat < x.kte.sregs) →
    let r := match f.link with
      | some c => { y.regs with s := mset 0 y.regs.s c.toNat (flowLink s.cur.ip) }
      | none => y.regs
    match f.goes (fun n => y.S n.toNat) s.cur.ip with
    | some ip => SplitJumps i s u g e x y ip r
    | none => SplitDone i s u g e x y r) ∧
  (∀ s u x, s.AtLead u x → (∀ r ∈ f.regs, r.toNat < 32) →
    let l := match f.link with
      | some c => x.lead.setH c.toNat (flowLink s.cur.ip)
      | none => x.lead
    match f.goes (fun n => x.lead.H n.toNat) s.cur.ip with
    | some ip => LeadJumps i s u x ip l
    | none => LeadDone i s u x l)

/-- A word without a link goes where its row says. -/
theorem FlowDone.of_goTo {i : Instr} {rs : List (BitVec 6)} {goes : (BitVec 6 → DWord) → Word → Option Word}
    (hi : ∀ s, exec i s = s.issue (s.flowChecks rs) fun _ t => t.goTo (goes (fun n => s.X n.toNat) s.cur.ip)) : FlowDone i { regs := rs, goes } := by
  constructor
  · intro s u g e x y h hr
    have hx := hi s
    simp only [h.X] at hx
    dsimp only
    cases hg : goes (fun n => y.S n.toNat) s.cur.ip with
    | some ip => exact h.passJumps hx (h.flowChecks hr) (by rw [hg, State.goTo])
    | none => exact h.pass hx (h.flowChecks hr) (by rw [hg, State.goTo])
  · intro s u x h hr
    have hx := hi s
    simp only [h.X] at hx
    dsimp only
    cases hg : goes (fun n => x.lead.H n.toNat) s.cur.ip with
    | some ip => exact h.passJumps hx (h.flowChecks hr) (by rw [hg, State.goTo])
    | none => exact h.pass hx (h.flowChecks hr) (by rw [hg, State.goTo])

/-- CALL writes its link, then goes to its target. -/
theorem FlowDone.call (c : BitVec 6) (disp : BitVec 16) : FlowDone (.call c disp) { regs := [c], goes := fun _ ip => some (flowTarget ip disp), link := some c } := by
  have hi : ∀ s, exec (.call c disp) s = s.issue (s.flowChecks [c]) fun _ t => (t.setX c.toNat (flowLink s.cur.ip)).jump (flowTarget s.cur.ip disp) := by
    intro s
    rw [exec_call, execCall, setWidth_succ_eq_flowLink, target_eq_flowTarget]
    rfl
  constructor
  · intro s u g e x y h hr
    refine h.jumps (hi s) (h.flowChecks hr) (congrArg (State.jump · _) ?_)
    rw [State.setX, h.ok.stream]
    exact h.ok.modGang_congr rfl
  · intro s u x h hr
    refine h.jumps (hi s) (h.flowChecks hr) (congrArg (State.jump · _) ?_)
    have lead : (s.answered .ok).cur.stream = .lead u := h.stream
    rw [State.setX, lead]
    exact State.modLead_eq (s := s.answered .ok) _ h.unit

/-- Settles O16: each word is checked, goes where its row says, and does nothing else; CALL alone writes a register. -/
theorem flowWords : Obligations.FlowWords := by
  intro i f h
  change FlowDone i f
  cases i <;> cases h
  case nop.refl => exact .of_goTo fun _ => rfl
  case br.refl disp => exact .of_goTo fun s => by rw [exec_br, execBr, target_eq_flowTarget]; rfl
  case brZ.refl c disp => exact .of_goTo fun s => by simp only [State.goTo_ite, exec_brZ, execBrZ, target_eq_flowTarget]; rfl
  case brNz.refl c disp => exact .of_goTo fun s => by simp only [State.goTo_ite, exec_brNz, execBrNz, target_eq_flowTarget, ne_eq, ite_not]; rfl
  case call.refl c disp => exact .call c disp
  case ret.refl c => exact .of_goTo fun _ => by rw [BitVec.ofNat_toNat]; rfl

end Sys2Proof.Machine
end

section
/-! PROOF. O17: the divergent branch of R137. First what it does to its gang; then the cases. -/

namespace Sys2Proof.Machine

/-! ### What a division leaves of the gang -/

/-- Lanes `tk` of entry `e` leave it for the free entry `k`, at `tgt`; lanes `ft` stay. -/
def Gang.divide (y : Gang) (e k : Nat) (tk ft : DWord) (tgt : Word) : Gang :=
  (y.setEntry k { (y.entry e).awake with mask := tk, ip := tgt, wd := 0, idle := 0, raised := false }).setEntry e { y.entry e with mask := ft }

/-- Lanes `away` of entry `e` are pushed on the spill stack, to come back at `ip`; lanes `stay` stay. -/
def Gang.push (y : Gang) (e : Nat) (stay away : DWord) (ip : Word) : Gang :=
  { y.setEntry e { y.entry e with mask := stay } with spill := ⟨away, ip, (y.entry e).fpctl, (y.entry e).fpflags⟩ :: y.spill }

/-- An entry that holds lanes is not one a split may be placed in. -/
theorem Gang.ne_of_usable {y : Gang} {e k : Nat} {rest : List Nat} (hk : y.usable = k :: rest) (he : (y.entry e).mask ≠ 0) : k ≠ e := by
  rintro rfl
  have free : y.isFree k = true := (List.mem_filter.1 (hk ▸ List.mem_cons_self : k ∈ y.usable)).2
  exact he (eq_of_beq free)

theorem Gang.entry_modEntry_self (y : Gang) (e : Nat) {f : Split → Split} (h : (f (y.entry e)).mask ≠ 0) : (y.modEntry e f).entry e = f (y.entry e) :=
  y.entry_setEntry_self e h

theorem Gang.entry_modEntry_other (y : Gang) {e j : Nat} (f : Split → Split) (h : j ≠ e) : (y.modEntry e f).entry j = y.entry j :=
  y.entry_setEntry_other _ h

/-- The table after the division: the lanes taken stand in `k`, the others have moved on in `e`. -/
theorem Gang.divide_moved (y : Gang) {e k : Nat} {tk ft : DWord} (tgt : Word) (c : Cursor) (hke : k ≠ e) (htk : tk ≠ 0) (hft : ft ≠ 0) :
    let z := (y.divide e k tk ft tgt).modEntry e (·.moved c)
    z = { y with split := z.split } ∧ (∀ j, j ≠ e → j ≠ k → z.entry j = y.entry j) ∧
      z.entry k = { (y.entry e).awake with mask := tk, ip := tgt, wd := 0, idle := 0, raised := false } ∧ z.entry e = { (y.entry e).moved c with mask := ft } := by
  have here : (y.divide e k tk ft tgt).entry e = { y.entry e with mask := ft } := Gang.entry_setEntry_self _ _ hft
  refine ⟨rfl, fun j hje hjk => ?_, ?_, ?_⟩
  · rw [Gang.entry_modEntry_other _ _ hje, Gang.divide, Gang.entry_setEntry_other _ _ hje, Gang.entry_setEntry_other _ _ hjk]
  · rw [Gang.entry_modEntry_other _ _ hke, Gang.divide, Gang.entry_setEntry_other _ _ hke]
    exact Gang.entry_setEntry_self _ _ htk
  · rw [Gang.entry_modEntry_self _ _ (by rw [here]; exact hft), here]
    rfl

/-- The table after a push: the lanes that stay have moved on in `e`. -/
theorem Gang.push_moved (y : Gang) (e : Nat) {stay : DWord} (away : DWord) (ip : Word) (c : Cursor) (hs : stay ≠ 0) :
    let z := (y.push e stay away ip).modEntry e (·.moved c)
    z = { y with split := z.split, spill := ⟨away, ip, (y.entry e).fpctl, (y.entry e).fpflags⟩ :: y.spill } ∧ (∀ j, j ≠ e → z.entry j = y.entry j) ∧
      z.entry e = { (y.entry e).moved c with mask := stay } := by
  have here : (y.push e stay away ip).entry e = { y.entry e with mask := stay } := Gang.entry_setEntry_self _ _ hs
  refine ⟨rfl, fun j hj => ?_, ?_⟩
  · rw [Gang.entry_modEntry_other _ _ hj]
    exact Gang.entry_setEntry_other _ _ hj
  · rw [Gang.entry_modEntry_self _ _ (by rw [here]; exact hs), here]
    rfl

/-! ### Which outcome a division has -/

section
variable {y : Gang} {tk ft : DWord} {tail : Bool}

theorem Gang.divergence_fall (htk : tk = 0) : y.divergence tk ft tail = .fall := if_pos htk

theorem Gang.divergence_jump (htk : tk ≠ 0) (hft : ft = 0) : y.divergence tk ft tail = .jump := (if_neg htk).trans (if_pos hft)

theorem Gang.divergence_divide {k : Nat} {rest : List Nat} (htk : tk ≠ 0) (hft : ft ≠ 0) (hu : y.usable = k :: rest) : y.divergence tk ft tail = .divide k := by
  rw [Gang.divergence, if_neg htk, if_neg hft, hu]

theorem Gang.divergence_overflow (htk : tk ≠ 0) (hft : ft ≠ 0) (hu : y.usable = []) (hs : 32 ≤ y.spill.length) : y.divergence tk ft tail = .overflow := by
  rw [Gang.divergence, if_neg htk, if_neg hft, hu]
  exact if_pos hs

theorem Gang.divergence_push (htk : tk ≠ 0) (hft : ft ≠ 0) (hu : y.usable = []) (hs : y.spill.length < 32) :
    y.divergence tk ft tail = if tail then .pushFall else .pushTaken := by
  rw [Gang.divergence, if_neg htk, if_neg hft, hu]
  exact if_neg (Nat.not_le.2 hs)

end

/-! ### The word -/

/-- What each outcome of R137 does to the state, the move to the next place apart; `next` is the packet after the word's. -/
def Divergence.act (e : Nat) (tk ft : DWord) (tgt next : Word) (t : State) : Divergence → State
  | .fall => t
  | .jump => t.jump tgt
  | .divide k => t.modHere (·.divide e k tk ft tgt)
  | .pushFall => (t.modHere (·.push e tk ft next)).jump tgt
  | .pushTaken => t.modHere (·.push e ft tk tgt)
  | .overflow => t

/-- BRD and BRD.N divide by the lanes their row takes; in a gang these are the ones the statement names. -/
theorem exec_divergent {i : Instr} {f : Gang → DWord → DWord} {disp : BitVec 16} (hi : divergentOf i = some (f, disp)) (s : State) :
    ∃ tk, exec i s = s.diverge tk disp ∧ ∀ y, s.hereGang = some y → tk = f y s.cur.mask := by
  cases i <;> cases hi
  case brd.refl m => exact ⟨_, exec_brd m disp s, fun y hy => by rw [State.maskReg, hy]⟩
  case brdN.refl m => exact ⟨_, exec_brdN m disp s, fun y hy => by rw [State.maskReg, hy]⟩

section
variable {s : State} {u g e : Nat} {x : Unit} {y : Gang} {i : Instr} {f : Gang → DWord → DWord} {disp : BitVec 16}

/-- A divergent branch of entries 0 to 3: the overflow traps, every other outcome acts. -/
theorem State.AtSplit.divergent (h : s.AtSplit u g e x y) (hi : divergentOf i = some (f, disp)) (he : e < 4) {d : Divergence}
    (hd : y.divergence (f y s.cur.mask) (s.cur.mask &&& ~~~f y s.cur.mask) (s.cur.nwd == 0) = d) :
    ∃ eff, exec i s = s.issue (need (d != .overflow) (.trap (s.allLanes .divergenceOverflow))) eff ∧
      eff s.cur.mask (s.answered .ok) =
        d.act e (f y s.cur.mask) (s.cur.mask &&& ~~~f y s.cur.mask) (flowTarget s.cur.ip disp) (s.cur.ip + 1) (s.answered .ok) := by
  obtain ⟨tk, hx, taken⟩ := exec_divergent hi s
  obtain rfl := taken y h.hereGang
  subst hd
  have entry : s.notTrapEntry = .ok := by
    rw [State.notTrapEntry, h.stream]
    exact if_pos (bne_iff_ne.2 (Nat.ne_of_lt he))
  have word : s.gangWord [] [] = .ok := h.gangWord (List.forall_mem_nil _) (List.forall_mem_nil _)
  refine ⟨_, by rw [hx, State.diverge, h.stream, h.hereGang]; dsimp only; rw [word, entry, Verdict.ok_andThen, Verdict.ok_andThen], ?_⟩
  rw [h.ok.hereGang, target_eq_flowTarget]
  rfl

/-- In the trap entry a divergent branch is undefined (R315). -/
theorem State.AtSplit.divergent_undefined (h : s.AtSplit u g 4 x y) (hi : divergentOf i = some (f, disp)) : ∃ eff, exec i s = s.issue s.undefined eff := by
  obtain ⟨tk, hx, -⟩ := exec_divergent hi s
  have entry : s.notTrapEntry = s.undefined := by
    rw [State.notTrapEntry, h.stream]
    rfl
  have word : s.gangWord [] [] = .ok := h.gangWord (List.forall_mem_nil _) (List.forall_mem_nil _)
  exact ⟨_, by rw [hx, State.diverge, h.stream, h.hereGang]; dsimp only; rw [word, entry]; rfl⟩

/-- In the lead too (R137). -/
theorem State.AtLead.divergent_undefined (h : s.AtLead u x) (hi : divergentOf i = some (f, disp)) : ∃ eff, exec i s = s.issue s.undefined eff := by
  obtain ⟨tk, hx, -⟩ := exec_divergent hi s
  exact ⟨_, by rw [hx, State.diverge, h.stream]; dsimp only; rw [h.gangWord]⟩

/-- An update of the gang of a word whose checks have passed. -/
theorem State.AtSplit.modHere_answered (h : s.AtSplit u g e x y) (k : Gang → Gang) : (s.answered .ok).modHere k = s.withGang u g x (k y) := by
  rw [h.ok.modHere, State.modGang_eq k h.ok.unit h.gang]
  simp [State.withGang, State.answered]

/-- An issued word whose effect is on the gang alone, the split going to word 0 of a packet. -/
theorem State.AtSplit.issue_jump {y' : Gang} {v : Verdict} {eff : DWord → State → State} {w : State → State} {ip : Word} (h : s.AtSplit u g e x y) (hv : v = .ok)
    (he : eff s.cur.mask (s.answered .ok) = (s.withGang u g x y').jump ip) :
    s.issue v eff w = .next ((s.jump ip).withGang u g x (y'.modEntry e (·.moved (s.jump ip).cur))) := by
  have frame : (s.withGang u g x y').jump ip = (s.jump ip).withGang u g x y' := rfl
  have stream : ((s.jump ip).withGang u g x y').cur.stream = .split u g e := h.stream
  rw [State.issue, hv, State.issueTo_ok h.live h.first, he, frame, State.advance, stream]
  simp only [State.withGang_modGang]
  rfl

end

/-- Settles O17: the lead and the trap entry are refused; elsewhere each outcome of R137 acts as it says. -/
theorem divergentBranches : Obligations.DivergentBranches := by
  intro i f disp hi
  refine ⟨fun s u x h => ?_, fun s u g x y h => ?_, fun s u g e x y h he => ?_⟩
  · obtain ⟨eff, word⟩ := h.divergent_undefined hi
    exact h.traps word (congrArg Verdict.trap (h.allLanes _ _))
  · obtain ⟨eff, word⟩ := h.divergent_undefined hi
    exact h.traps word (congrArg Verdict.trap (h.allLanes _ _))
  · refine ⟨fun htk => ?fall, fun htk hft => ?jump, fun htk hft k rest hu => ?divide, fun htk hft hu hs hw => ?pushFall, fun htk hft hu hs hw => ?pushTaken,
      fun htk hft hu hs => ?overflow⟩
    case fall =>
      obtain ⟨eff, word, act⟩ := h.divergent hi he (Gang.divergence_fall htk)
      exact h.pass word rfl act
    case jump =>
      obtain ⟨eff, word, act⟩ := h.divergent hi he (Gang.divergence_jump htk hft)
      exact h.passJumps word rfl act
    case divide =>
      obtain ⟨eff, word, act⟩ := h.divergent hi he (Gang.divergence_divide htk hft hu)
      have apart : k ≠ e := Gang.ne_of_usable hu h.some_lane
      exact ⟨_, word.trans (h.issue rfl (act.trans (h.modHere_answered _))), y.divide_moved _ _ apart htk hft⟩
    case pushFall =>
      obtain ⟨eff, word, act⟩ := h.divergent hi he ((Gang.divergence_push htk hft hu hs).trans (if_pos (beq_iff_eq.2 hw)))
      exact ⟨_, word.trans (h.issue_jump rfl (act.trans (congrArg (State.jump · _) (h.modHere_answered _)))), y.push_moved e _ _ _ htk⟩
    case pushTaken =>
      obtain ⟨eff, word, act⟩ := h.divergent hi he ((Gang.divergence_push htk hft hu hs).trans (if_neg (mt beq_iff_eq.1 hw)))
      exact ⟨_, word.trans (h.issue rfl (act.trans (h.modHere_answered _))), y.push_moved e _ _ _ hft⟩
    case overflow =>
      obtain ⟨eff, word, -⟩ := h.divergent hi he (Gang.divergence_overflow htk hft hu hs)
      exact h.traps word (congrArg Verdict.trap (h.allLanes _ _))

end Sys2Proof.Machine
end

section
/-! PROOF. O7: the moves of R161 and R164. First what a vector word owes its row, whatever it computes; then the words. -/

namespace Sys2Proof.Machine

/-! ### A word that computes its row -/

/-- The last write of a list with one more is the one more, where that writes the register. -/
theorem lastWrite_append (ws : List (Nat × VReg)) (w : Nat × VReg) (n : Nat) : lastWrite (ws ++ [w]) n = if n = w.1 then some w.2 else lastWrite ws n := by
  rw [lastWrite, List.foldl_append, List.foldl_cons, List.foldl_nil]
  exact ite_congr (propext eq_comm) (fun _ => rfl) fun _ => rfl

theorem oneReg_eq_lastWrite (d : Nat) (v : Nat → VReg) (n l : Nat) : oneReg d v n l = lastWrite [(d, v l)] n := (lastWrite_append [] (d, v l) n).symm

theorem pairRegs_eq_lastWrite (d : Nat) (x : Nat → Nat) (n l : Nat) : pairRegs d x n l = lastWrite (pairWrites d (x l)) n := by
  rw [pairWrites, ← List.singleton_append, lastWrite_append, ← oneReg_eq_lastWrite d (fun l => ⟨BitVec.ofNat 32 (x l), .f64⟩) n l, oneReg, pairRegs]
  split
  · next h => rw [if_neg (by omega)]
  · rfl

/-- A row that chooses between two forms, as its word does. -/
theorem ite_eq_lastWrite {c : Prop} [Decidable c] {p q : Nat → Nat → Option VReg} {ws ks : List (Nat × VReg)} {n l : Nat} (hp : p n l = lastWrite ws n) (hq : q n l = lastWrite ks n) :
    (if c then p else q) n l = lastWrite (if c then ws else ks) n := by
  split
  · exact hp
  · exact hq

/-- A vector word that writes and flags in each lane what its row says. -/
theorem VectorRow.Done.of_lanewise {r : VectorRow} {i : Instr} {f : State → Gang → Nat → List (Nat × VReg) × FpFlags}
    (hi : ∀ s, exec i s = s.lanewise r.dst r.srcs r.ss (f s)) (hv : ∀ s y n l, r.val s y n l = lastWrite (f s y l).1 n) (hf : ∀ s y l, r.fl s y l = (f s y l).2) : r.Done i := by
  intro s u g e x y h hd ha hs hp ht
  rw [funext fun n => funext fun l => hv s y n l, funext fun l => hf s y l]
  exact h.lanewise (hi s) hd ha hs hp ht

/-! ### The moves -/

/-- R14: the bits of an even-odd pair. -/
theorem Gang.V64_toNat (y : Gang) (n l : Nat) : (y.V64 n l).toNat = (y.V n l).toNat + 2 ^ 32 * (y.V (n + 1) l).toNat := by
  rw [Gang.V64, BitVec.toNat_append, ← Nat.shiftLeft_add_eq_or_of_lt (y.V n l).isLt, Nat.shiftLeft_eq]
  omega

/-- Settles O7: each word is lane by lane what its row says, and sets no flag. -/
theorem moveWords : Obligations.MoveWords := by
  intro i r h
  cases i <;> cases h
  case vsel.refl d a b mk => exact .of_lanewise (exec_vsel d a b mk) (fun _ _ => oneReg_eq_lastWrite d.toNat _) fun _ _ _ => rfl
  case vcvtMov.refl d a => exact .of_lanewise (exec_vcvtMov d a) (fun _ _ => oneReg_eq_lastWrite d.toNat _) fun _ _ _ => rfl
  case retag.refl d a tag =>
    have bits (y : Gang) (n l : Nat) : pairRegs d.toNat (fun l => (y.V a.toNat l).toNat + 2 ^ 32 * (y.V (a.toNat + 1) l).toNat) n l =
        lastWrite (pairWrites d.toNat (y.V64 a.toNat l).toNat) n := by
      rw [pairRegs_eq_lastWrite, Gang.V64_toNat]
    exact .of_lanewise (exec_retag d a tag) (fun _ y n l => ite_eq_lastWrite (bits y n l) (oneReg_eq_lastWrite ..)) fun _ _ _ => rfl
  case vmovs.refl d a tag =>
    have low (y : Gang) : (y.S a.toNat).setWidth 32 = BitVec.ofNat 32 (y.S a.toNat).toNat := (BitVec.ofNat_toNat ..).symm
    refine .of_lanewise (exec_vmovs d a tag) (fun _ y _ _ => ?_) fun _ _ _ => rfl
    rw [low]
    exact ite_eq_lastWrite (pairRegs_eq_lastWrite ..) (oneReg_eq_lastWrite ..)

end Sys2Proof.Machine
end

section
/-! PROOF. O8: the conversions of R162 and the quantisation of R163. First groups and packed elements; then a conversion in one lane, form by form of the table; then VQNT. -/

namespace Sys2Proof.Machine

/-! ### Register groups and packed elements -/

/-- A group of `c` registers from `d` up gets a value each. -/
theorem group_eq_lastWrite (d c : Nat) (w : Nat → VReg) (n : Nat) :
    (if d ≤ n ∧ n < d + c then some (w (n - d)) else none) = lastWrite ((List.range c).map fun k => (d + k, w k)) n := by
  induction c with
  | zero => rw [if_neg (by omega)]; rfl
  | succ c ih =>
    rw [List.range_succ, List.map_append, List.map_singleton, lastWrite_append, ← ih]
    rcases Nat.lt_trichotomy n (d + c) with hlt | rfl | hgt
    · rw [if_neg (Nat.ne_of_lt hlt)]
      simp only [hlt, Nat.lt_succ_of_lt hlt, ← Nat.add_assoc]
    · rw [if_pos (by omega), if_pos rfl, Nat.add_sub_cancel_left]
    · rw [if_neg (by omega), if_neg (by omega), if_neg (by omega)]

/-- R92: integers packed modulo the width. -/
theorem packElements_eq (w : Nat) (xs : List Int) : packElements w xs = packed w (xs.map fun x => (BitVec.ofInt w x).toNat) := by
  induction xs with
  | nil => rfl
  | cons x t ih =>
    rw [packElements, ih, List.map_cons, packed, BitVec.toNat_ofInt, Int.natCast_pow]
    rfl

theorem element_lt (x : Word) (w k : Nat) : element x w k < 2 ^ w := Nat.mod_lt _ (Nat.two_pow_pos w)

/-- R91: the signed value of an element is that of its bits. -/
theorem signedElement_eq_toInt (x : Word) {w : Nat} (k : Nat) (hw : 0 < w) : signedElement x w k = (BitVec.ofNat w (element x w k)).toInt := by
  obtain ⟨m, rfl⟩ := Nat.exists_eq_succ_of_ne_zero (Nat.ne_of_gt hw)
  have range : ((2 ^ (m + 1) : Nat) : Int) = 2 ^ (m + 1) := Int.natCast_pow 2 (m + 1)
  have half : 2 * element x (m + 1) k < 2 ^ (m + 1) ↔ element x (m + 1) k < 2 ^ m := by rw [Nat.pow_succ]; omega
  rw [signedElement, BitVec.toInt_eq_toNat_cond, BitVec.toNat_ofNat, Nat.mod_eq_of_lt (element_lt x _ k), range]
  simp only [Nat.succ_eq_add_one, Nat.add_sub_cancel, half]

theorem satI_eq_max (x : Int) (w : Nat) : satI x w = max (-(2 ^ (w - 1))) (min (2 ^ (w - 1) - 1) x) := congrArg (max _) (Int.min_comm ..)

theorem satN_eq_max (x : Int) (w : Nat) : satN x w = max 0 (min (2 ^ w - 1) x) := congrArg (max _) (Int.min_comm ..)

theorem sourceElement_pair (y : Gang) (a l k : Nat) : sourceElement y a 64 l k = (y.V64 a l).toNat := (y.V64_toNat a l).symm

theorem sourceElement_packed (y : Gang) (a l k : Nat) {w : Nat} (h64 : w ≠ 64) (h32 : w ≠ 32) : sourceElement y a w l k = element (y.V a l) w k :=
  (if_neg h64).trans (if_neg h32)

/-- An element that is a register, read as a word. -/
theorem ofNat_sourceElement (y : Gang) (a l k : Nat) : BitVec.ofNat 32 (sourceElement y a 32 l k) = y.V (a + k) l := BitVec.ofNat_toNat ..

/-! ### A conversion in a lane -/

section
variable (c : CvtForm) (v : FpEnv) (y : Gang) (d a l : Nat)

/-- Element `k` converted. -/
def CvtForm.result (k : Nat) : Rounded := c.conv v (sourceElement y a c.from' l k)

/-- The register writes of a conversion in a lane: a pair, a group, or one packed register. -/
def CvtForm.writes : List (Nat × VReg) :=
  if c.width = 64 then pairWrites d (c.result v y a l 0).bits
  else if c.width = 32 then (List.range c.n).map fun k => (d + k, ⟨BitVec.ofNat 32 (c.result v y a l k).bits, c.tag⟩)
  else [(d, ⟨BitVec.ofNat 32 (packed c.width ((List.range c.n).map fun k => (c.result v y a l k).bits)), c.tag⟩)]

/-- The flags of all the elements of a lane. -/
def CvtForm.flags : FpFlags := (List.range c.n).foldl (fun f k => f ||| (c.result v y a l k).flags) 0

end

/-- The row of the table writes these. -/
theorem CvtForm.row_val (c : CvtForm) (d a : BitVec 7) (s : State) (y : Gang) (n l : Nat) :
    (c.row d a).val s y n l = lastWrite (c.writes s.fpEnv y d.toNat a.toNat l) n :=
  ite_eq_lastWrite (pairRegs_eq_lastWrite ..)
    (ite_eq_lastWrite (group_eq_lastWrite _ _ (fun k => ⟨BitVec.ofNat 32 (c.result s.fpEnv y a.toNat l k).bits, c.tag⟩) _) (oneReg_eq_lastWrite ..))

section
variable {c : CvtForm} {v : FpEnv} {y : Gang} {d a l : Nat}

/-- One element goes to a pair or to one register. -/
theorem CvtForm.writes_one (h : c.n = 1) :
    c.writes v y d a l = if c.width = 64 then pairWrites d (c.result v y a l 0).bits else [(d, ⟨BitVec.ofNat 32 (c.result v y a l 0).bits, c.tag⟩)] := by
  rw [CvtForm.writes, h]
  exact congrArg (ite _ _) (ite_self _)

theorem CvtForm.flags_one (h : c.n = 1) : c.flags v y a l = (c.result v y a l 0).flags := by
  rw [CvtForm.flags, h]
  exact BitVec.zero_or

theorem CvtForm.flags_two (h : c.n = 2) : c.flags v y a l = (c.result v y a l 0).flags ||| (c.result v y a l 1).flags := by
  rw [CvtForm.flags, h]
  exact congrArg (· ||| _) BitVec.zero_or

theorem CvtForm.flags_none (h : ∀ k, (c.result v y a l k).flags = 0) : c.flags v y a l = 0 := by
  rw [CvtForm.flags]
  induction List.range c.n with
  | nil => rfl
  | cons k t ih =>
    rw [List.foldl_cons, h]
    exact ih

/-- R93, R162: integers saturated, then packed, with no flag. -/
theorem CvtForm.saturated_eq {n w : Nat} {sat : Int → Int} {lo hi : Int} {acc tag : Tag} (hs : ∀ x, sat x = max lo (min hi x)) (h64 : w ≠ 64) (h32 : w ≠ 32) :
    let c : CvtForm := ⟨n, 32, w, acc, tag, fun _ => cvtSaturate w lo hi⟩
    (c.writes v y d a l, c.flags v y a l) = ([(d, ⟨BitVec.ofNat 32 (packElements w ((List.range n).map fun k => sat (y.V (a + k) l).toInt)), tag⟩)], 0) := by
  intro c
  rw [CvtForm.flags_none fun _ => rfl, CvtForm.writes, if_neg h64, if_neg h32]
  simp only [packElements_eq, List.map_map, Function.comp_def, hs, ← ofNat_sourceElement]
  rfl

/-- R162: packed signed integers widened, with no flag. -/
theorem CvtForm.widened_eq {n w : Nat} {acc tag : Tag} (hw : 0 < w) (h64 : w ≠ 64) (h32 : w ≠ 32) :
    let c : CvtForm := ⟨n, w, 32, acc, tag, fun _ x => ⟨((BitVec.ofNat w x).signExtend 32).toNat, 0⟩⟩
    (c.writes v y d a l, c.flags v y a l) = ((List.range n).map fun k => (d + k, ⟨BitVec.ofInt 32 (signedElement (y.V a l) w k), tag⟩), 0) := by
  intro c
  have elements (k : Nat) : BitVec.ofInt 32 (signedElement (y.V a l) w k) = BitVec.ofNat 32 (c.result v y a l k).bits := by
    rw [signedElement_eq_toInt _ _ hw, ← sourceElement_packed y a l k h64 h32, CvtForm.result, BitVec.ofNat_toNat, BitVec.setWidth_eq, BitVec.signExtend]
  simp only [elements]
  rw [CvtForm.flags_none fun _ => rfl]
  rfl

end

section
variable {code : Nat} {c : CvtForm}

theorem cvtDests_eq (h : cvtForm code = some c) (d a : BitVec 7) : cvtDests code d.toNat = (c.row d a).dst := by
  unfold cvtForm at h
  split at h <;> cases h <;> rfl

theorem cvtSources_eq (h : cvtForm code = some c) (d a : BitVec 7) : ((cvtSources code a.toNat).map fun r => (r, cvtTags code)) = (c.row d a).srcs := by
  unfold cvtForm at h
  split at h <;> cases h <;> rfl

/-- R162: each code converts in a lane as its form says; case `h_k` is code `k - 1` of the table. -/
theorem Gang.convert_eq (h : cvtForm code = some c) (y : Gang) (v : FpEnv) (d a l : Nat) : y.convert code v d a l = (c.writes v y d a l, c.flags v y a l) := by
  have word : BitVec.ofNat 32 (sourceElement y a 32 l 0) = y.V a l := ofNat_sourceElement ..
  have pair : sourceElement y a 64 l 0 = (y.V64 a l).toNat := sourceElement_pair ..
  unfold cvtForm at h
  split at h <;> cases h
  case h_1.refl | h_2.refl | h_7.refl | h_8.refl | h_9.refl | h_10.refl | h_11.refl | h_12.refl | h_13.refl | h_14.refl =>
    rw [CvtForm.writes_one rfl, CvtForm.flags_one rfl]
    simp only [CvtForm.result, word, pair]
    rfl
  case h_3.refl | h_4.refl | h_5.refl | h_6.refl =>
    rw [CvtForm.flags_two rfl]
    rfl
  case h_15.refl => exact (CvtForm.saturated_eq (satI_eq_max · 8) (by decide) (by decide)).symm
  case h_16.refl => exact (CvtForm.saturated_eq (satN_eq_max · 8) (by decide) (by decide)).symm
  case h_17.refl => exact (CvtForm.saturated_eq (satI_eq_max · 16) (by decide) (by decide)).symm
  case h_18.refl => exact (CvtForm.saturated_eq (satI_eq_max · 4) (by decide) (by decide)).symm
  case h_19.refl | h_21.refl | h_22.refl => exact (CvtForm.widened_eq (by decide) (by decide) (by decide)).symm
  case h_20.refl => exact Prod.ext rfl (CvtForm.flags_none fun _ => rfl).symm

end

/-- R162: VCVT converts each lane as the table says. -/
theorem conversionWords : ConversionWords := by
  intro d a code c h
  have word (s : State) : exec (.vcvt d a code) s =
      s.lanewise (c.row d a).dst (c.row d a).srcs (c.row d a).ss fun y l => (c.writes s.fpEnv y d.toNat a.toNat l, c.flags s.fpEnv y a.toNat l) := by
    rw [exec_vcvt, execVcvt, ← cvtDests_eq h d a, ← cvtSources_eq h d a]
    simp only [Gang.convert_eq h]
    rfl
  exact .of_lanewise word (c.row_val d a) fun _ _ _ => rfl

/-! ### Quantisation -/

/-- The multiple of 2^`e` is whole where nothing is left over. -/
theorem scaleTo_rest (m : Nat) (e : Int) : (scaleTo m e 0).2 = 0 ↔ m * 2 ^ e.toNat % 2 ^ (-e).toNat = 0 := by
  rw [scaleTo]
  split
  · next he => simp only [Int.toNat_of_nonpos (Int.neg_nonpos_of_nonneg he), Nat.pow_zero, Nat.mod_one]
  · next he =>
    rw [Int.toNat_of_nonpos (Int.le_of_lt (Int.not_le.1 he)), Nat.pow_zero, Nat.mul_one, Int.zero_sub]
    by_cases whole : m % 2 ^ (-e).toNat = 0
    · simp only [whole, if_true]
    · simp only [whole, if_false, iff_false]
      split
      · decide
      · split <;> decide

theorem quantise_eq (x sc : Nat) : quantise x sc = quantisedElement x sc := by
  rw [quantise, quantisedElement]
  rcases exactMul (fmtF32.value x) (fmtF32.value sc) with ⟨_ | neg | _ | ⟨neg, m, e⟩, fl⟩
  · rfl
  · cases neg <;> rfl
  · rfl
  · have bits (q : Int) : (q % 256).toNat = (BitVec.ofInt 8 q).toNat := (BitVec.toNat_ofInt (n := 8) q).symm
    have inexact : flagIf ((scaleTo m e 0).2 != 0) flagNx = if m * 2 ^ e.toNat % 2 ^ (-e).toNat = 0 then 0 else flagNx := by
      simp only [flagIf, bne_iff_ne, ne_eq, scaleTo_rest, ite_not]
    simp only [bits, inexact, roundInt]

/-- An element of VQNT has 8 bits. -/
theorem quantise_lt (x sc : Nat) : (quantise x sc).1 < 2 ^ 8 := by
  rw [quantise]
  rcases exactMul (fmtF32.value x) (fmtF32.value sc) with ⟨_ | neg | _ | ⟨neg, m, e⟩, fl⟩
  · exact (by decide : 0x80 < 2 ^ 8)
  · cases neg
    · exact (by decide : 0x7F < 2 ^ 8)
    · exact (by decide : 0x81 < 2 ^ 8)
  · exact (by decide : 0 < 2 ^ 8)
  · dsimp only
    split
    · exact (by decide : 0x7F < 2 ^ 8)
    · split
      · exact (by decide : 0x81 < 2 ^ 8)
      · exact (by omega : (roundInt 0 neg m e % 256).toNat < 2 ^ 8)

/-- R163: VQNT quantises the quad of each lane. -/
theorem quantisation : Quantisation := by
  intro d a b
  have byte (x sc : Nat) : (BitVec.ofInt 8 (quantise x sc).1).toNat = (quantisedElement x sc).1 := by
    rw [BitVec.ofInt_natCast, BitVec.toNat_ofNat, Nat.mod_eq_of_lt (quantise_lt x sc), quantise_eq]
  refine .of_lanewise (exec_vqnt d a b) (fun _ y n l => ?_) fun _ y l => ?_
  · simp only [packElements_eq, List.map_map, Function.comp_def, byte]
    exact oneReg_eq_lastWrite d.toNat (fun l => ⟨BitVec.ofNat 32 (packed 8 ((List.range 4).map fun k => (quantisedElement (y.V (a.toNat + k) l).toNat (y.V b.toNat l).toNat).1)), .i8x4⟩) n l
  · simp only [quantise_eq]
    exact (congrArg (· ||| _ ||| _ ||| _) BitVec.zero_or).symm

/-- Settles O8: VCVT by the form of its code, VQNT element by element. -/
theorem conversions : Obligations.Conversions := ⟨conversionWords, quantisation⟩

end Sys2Proof.Machine
end

section
/-! PROOF. O10: the votes of R171. First the votes in rank order; then the three words. -/

namespace Sys2Proof.Machine

/-! ### Ranks -/

/-- The members of a rising list below the one at place `k` are those before it. -/
theorem filter_lt_getElem {ls : List Nat} (h : ls.Pairwise (· < ·)) {k : Nat} (hk : k < ls.length) : ls.filter (· < ls[k]) = ls.take k := by
  have split : ls = ls.take k ++ ls[k] :: ls.drop (k + 1) := by rw [List.getElem_cons_drop, List.take_append_drop]
  rw [split, List.pairwise_append, List.pairwise_cons] at h
  obtain ⟨-, ⟨after, -⟩, before⟩ := h
  have self : ¬ decide (ls[k] < ls[k]) = true := fun lt => Nat.lt_irrefl _ (of_decide_eq_true lt)
  refine (congrArg (List.filter _) split).trans ?_
  rw [List.filter_append, List.filter_cons_of_neg (p := (· < ls[k])) self, List.filter_eq_self.2, List.filter_eq_nil_iff.2, List.append_nil]
  · exact fun a ha lt => Nat.lt_asymm (after a ha) (of_decide_eq_true lt)
  · exact fun a ha => decide_eq_true (before a ha _ List.mem_cons_self)

theorem lanesOf_rising (mk : DWord) : (lanesOf mk).Pairwise (· < ·) := List.Pairwise.filter _ List.pairwise_lt_range

/-- R38: the lane at place `k` of the active lanes has rank `k`. -/
theorem rankOf_getElem (mk : DWord) {k : Nat} (hk : k < (lanesOf mk).length) : rankOf mk (lanesOf mk)[k] = k := by
  rw [rankOf, filter_lt_getElem (lanesOf_rising mk) hk, List.length_take_of_le (Nat.le_of_lt hk)]

/-- R171: the ranks of the lanes that vote true are the places of the votes that are true, in rank order. -/
theorem mem_ranks {mk : DWord} {p : Nat → Bool} {k : Nat} : k ∈ ((lanesOf mk).filter p).map (rankOf mk) ↔ ((lanesOf mk).map p)[k]? = some true := by
  simp only [List.mem_map, List.mem_filter, List.getElem?_map, Option.map_eq_some_iff]
  constructor
  · rintro ⟨l, ⟨hl, hp⟩, rfl⟩
    obtain ⟨j, hj, rfl⟩ := List.getElem_of_mem hl
    exact ⟨_, by rw [rankOf_getElem]; exact List.getElem?_eq_getElem hj, hp⟩
  · rintro ⟨l, hl, hp⟩
    obtain ⟨hk, rfl⟩ := List.getElem?_eq_some_iff.1 hl
    exact ⟨_, ⟨List.getElem_mem hk, hp⟩, rankOf_getElem mk hk⟩

/-! ### Packed bits -/

theorem getLsbD_laneBit {l k : Nat} (hk : k < 64) : (laneBit l).getLsbD k = decide (l = k) := by
  rw [laneBit, BitVec.getLsbD_ofNat, Nat.testBit_two_pow, decide_eq_true hk, Bool.true_and]

theorem getLsbD_maskOf (ls : List Nat) {k : Nat} (hk : k < 64) : (maskOf ls).getLsbD k = decide (k ∈ ls) := by
  suffices h : ∀ m : DWord, (ls.foldl (fun m l => m ||| laneBit l) m).getLsbD k = (m.getLsbD k || decide (k ∈ ls)) by
    rw [maskOf, h, show (0 : DWord).getLsbD k = false from BitVec.getLsbD_zero, Bool.false_or]
  induction ls with
  | nil => simp only [List.foldl_nil, List.not_mem_nil, decide_false, Bool.or_false, implies_true]
  | cons l t ih =>
    intro m
    rw [List.foldl_cons, ih, BitVec.getLsbD_or, getLsbD_laneBit hk]
    simp only [List.mem_cons, Bool.decide_or, Bool.or_assoc, eq_comm (a := k)]

theorem testBit_fromBits (bs : List Bool) (k : Nat) : (fromBits bs).testBit k = decide (bs[k]? = some true) := by
  induction bs generalizing k with
  | nil => exact Nat.zero_testBit k
  | cons b t ih =>
    cases k with
    | zero =>
      have low : fromBits (b :: t) % 2 = if b then 1 else 0 := by
        rw [fromBits]
        split <;> omega
      rw [Nat.testBit_zero, low]
      cases b <;> rfl
    | succ k =>
      have rest : fromBits (b :: t) / 2 = fromBits t := by
        rw [fromBits]
        split <;> omega
      rw [Nat.testBit_succ, rest, ih, List.getElem?_cons_succ]

/-! ### The words -/

section
variable (mk : DWord) (p : Nat → Bool)

/-- VOTE.ANY. -/
theorem voteAny_eq : bool64 (!(((lanesOf mk).filter p).map (rankOf mk)).isEmpty) = truth (true ∈ (lanesOf mk).map p) :=
  bool64_eq_truth (by simp only [List.isEmpty_map, Bool.not_eq_true', List.isEmpty_eq_false_iff_exists_mem, List.mem_filter, List.mem_map])

/-- VOTE.ALL. -/
theorem voteAll_eq : bool64 ((((lanesOf mk).filter p).map (rankOf mk)).length == popcount mk) = truth (false ∉ (lanesOf mk).map p) :=
  bool64_eq_truth (by simp only [popcount, List.length_map, beq_iff_eq, List.length_filter_eq_length_iff, List.mem_map, not_exists, not_and, Bool.not_eq_false])

/-- VOTE.BAL. -/
theorem voteBal_eq : maskOf (((lanesOf mk).filter p).map (rankOf mk)) = BitVec.ofNat 64 (fromBits ((lanesOf mk).map p)) := by
  apply BitVec.eq_of_getLsbD_eq
  intro k hk
  rw [getLsbD_maskOf _ hk, BitVec.getLsbD_ofNat, testBit_fromBits, decide_eq_true hk, Bool.true_and]
  exact decide_eq_decide.2 mem_ranks

end

/-- Each word makes of the ranks that vote true what its table row makes of the votes. -/
theorem exec_vote {i : Instr} {d : BitVec 6} {a : BitVec 7} {f : List Bool → DWord} (hi : voteOf i = some (d, a, f)) :
    ∃ k, (∀ s, exec i s = s.vote d a k) ∧ ∀ mk p, k (((lanesOf mk).filter p).map (rankOf mk)) (popcount mk) = f ((lanesOf mk).map p) := by
  cases i <;> cases hi
  case voteAny.refl => exact ⟨_, exec_voteAny d a, voteAny_eq⟩
  case voteAll.refl => exact ⟨_, exec_voteAll d a, voteAll_eq⟩
  case voteBal.refl => exact ⟨_, exec_voteBal d a, voteBal_eq⟩

/-- Settles O10: with its checks passed the word writes its scalar and does nothing else. -/
theorem voteWords : Obligations.VoteWords := by
  intro i d a f hi s u g e x y h hd ha hg
  obtain ⟨k, vote, hk⟩ := exec_vote hi
  have word : s.gangWord [a.toNat] [d.toNat] = .ok := h.gangWord (fun _ hn => List.mem_singleton.1 hn ▸ ha) fun _ hn => List.mem_singleton.1 hn ▸ hd
  have good : s.needGood [a.toNat] = .ok := h.needGood fun _ hn => List.mem_singleton.1 hn ▸ hg
  refine h.done (vote s) (by rw [word, good, Verdict.ok_andThen]) ?_
  rw [h.hereGang]
  dsimp only
  rw [h.ok.modHere, hk]
  exact h.ok.modGang_congr rfl

end Sys2Proof.Machine
end
